-- ==== Sys2Proof/Word.lean ====
section
/-! DEFINITION. The words of the exchange memory and of the gallery clock (spec/00_scope.md, Conventions). -/

namespace Sys2Proof

/-- One byte of the exchange memory. -/
abbrev Byte := BitVec 8

/-- A halfword: two bytes, little-endian in memory. -/
abbrev Half := BitVec 16

/-- A 32-bit field: result words, counts, masks. -/
abbrev Word := BitVec 32

/-- A gallery tick: a count of milliseconds that wraps at 2^32. -/
abbrev Tick := BitVec 32

end Sys2Proof
end

