-- ==== Sys2Proof/Syntax.lean ====
section
/-! DEFINITION. The commands of the part: one constructor of `Instr` for each row of
spec/opcode_table.json, with the operands its rule names. -/

namespace Sys2Proof

/-- The host fields of an order slot that every order carries (section 11.11): the slot the order
stands in, the flags byte, the exhibit field, the post tag and the due tick. -/
structure OrderHead where
  slot    : Fin 32
  flags   : Byte
  exhibit : Byte
  tag     : Half
  due     : Tick
  deriving DecidableEq, Repr

/-- Four beacon address positions of SET ZONE. -/
structure Addrs where
  a0 : Byte
  a1 : Byte
  a2 : Byte
  a3 : Byte
  deriving DecidableEq, Repr

/-- The parameters of SET ZONE, in the order of section 11.6. -/
structure ZoneParams where
  zone   : Byte
  count1 : Byte
  count2 : Byte
  tier1  : Addrs
  tier2  : Addrs
  t1     : Half
  t2     : Half
  base   : Byte
  count  : Byte
  ack    : Byte
  hold   : Half
  deriving DecidableEq, Repr

/-- An order's kind with its parameters, as section 11.6 lists them. -/
inductive OrderBody where
  | bringUp (offset : Half)
  | retire
  | setAccess (mask : Byte)
  | home
  | stop
  | hold
  | release
  | lockOut
  | returnToService
  | setMode (mode : Byte)
  | setLamps (pattern : Byte)
  | setLink (mask : Word) (timeout : Half) (depth : Byte)
  | runRoutine (routine : Byte)
  | stepRun
  | commit (routine : Byte) (offset : Half)
  | clearRoutine (routine : Byte)
  | setBudget (group : Byte) (budget : Half)
  | setZone (z : ZoneParams)
  | raiseCall (severity : Byte)
  | ackCall (cause : Byte)
  | clearCall (cause : Byte)
  | clearFault
  | setControl (mask : Byte)
  | setClock (tick : Tick)
  | cancel (slot : Byte)
  deriving DecidableEq, Repr

/-- A byte as a serial receiver sees it: its value, and whether its stop bit was valid. -/
structure RxByte where
  val    : Byte
  stopOk : Bool
  deriving DecidableEq, Repr

/-- One host write on the memory bus: a byte, or a halfword taken as two byte writes (R179). -/
inductive HostData where
  | byte (b : Byte)
  | half (h : Half)
  deriving DecidableEq, Repr

/-- The four inputs of an axis channel (R135). -/
inductive ChanInput where
  | home
  | limit
  | ready
  | fault
  deriving DecidableEq, Repr

/-- The commands, one for each row of the table of operations and events. -/
inductive Instr where
  | powerOn
  | partReset
  | controlHalt
  | scanOrders
  | noticeClear (bits : BitVec 6)
  | noticeEnableWrite (bits : BitVec 6)
  | registerWrite (offset : Fin 16) (value : Byte)
  | hostWrite (offset : Half) (data : HostData)
  | slotPost (slot : Fin 32)
  | slotEmpty (slot : Fin 32)
  | pageFree (page : Fin 8)
  | scanPeriod
  | scanPass
  | take
  | dueExpiry
  | bringUpExhibit (h : OrderHead) (offset : Half)
  | retireExhibit (h : OrderHead)
  | setAccess (h : OrderHead) (mask : Byte)
  | homeExhibit (h : OrderHead)
  | stopExhibit (h : OrderHead)
  | hold (h : OrderHead)
  | release (h : OrderHead)
  | lockOut (h : OrderHead)
  | returnToService (h : OrderHead)
  | setGalleryMode (h : OrderHead) (mode : Byte)
  | setLamps (h : OrderHead) (pattern : Byte)
  | setStationLink (h : OrderHead) (mask : Word) (timeout : Half) (depth : Byte)
  | runRoutine (h : OrderHead) (routine : Byte)
  | stepRun (h : OrderHead)
  | commitRoutine (h : OrderHead) (routine : Byte) (offset : Half)
  | clearRoutine (h : OrderHead) (routine : Byte)
  | setBudget (h : OrderHead) (group : Byte) (budget : Half)
  | setZone (h : OrderHead) (z : ZoneParams)
  | raiseCall (h : OrderHead) (severity : Byte)
  | acknowledgeCall (h : OrderHead) (cause : Byte)
  | clearCall (h : OrderHead) (cause : Byte)
  | clearFault (h : OrderHead)
  | setControl (h : OrderHead) (mask : Byte)
  | setClock (h : OrderHead) (tick : Tick)
  | cancel (h : OrderHead) (slot : Byte)
  | galleryHaltLow
  | galleryHaltHigh
  | poll
  | reply (bytes : List RxByte)
  | replyTimeout
  | refillExpiry (input : Fin 256)
  | lingerExpiry
  | restTimerExpiry (e : Fin 32)
  | grant
  | cuePulseEnd (line : Fin 8)
  | motionTick (ch : Fin 24)
  | homingTick (ch : Fin 24)
  | brakingTick (ch : Fin 24)
  | deadlineOverrun (ch : Fin 24)
  | dwellExpiry (e : Fin 32)
  | homeActive (ch : Fin 24)
  | limitActive (ch : Fin 24)
  | drvReadyActive (ch : Fin 24)
  | drvFaultActive (ch : Fin 24)
  | channelInputChange (ch : Fin 24) (input : ChanInput) (level : Bool)
  | escalationExpiry (call : Fin 48)
  | holdExpiry (e : Fin 32)
  | refreshExpiry (entry : Fin 64)
  | beacon
  | dark
  | ack (call gen tag : Byte)
  | badFrame (bytes : List RxByte)
  | interbyteGap
  deriving DecidableEq, Repr

end Sys2Proof
end

