-- ==== Sys2Proof/Config.lean ====
section
/-! DEFINITION. What one implementation fixes, and the free values the reference leaves open. -/

namespace Sys2Proof.Config

/-- The silicon revision in the low byte of IDENT. DESIGN CHOICE (log entry 1): the first silicon. -/
def siliconRevision : Byte := 1

/-- The byte at an offset of the gallery header, given the header's fields: the reference names the
fields and gives no byte layout, so the byte is free (log entry 2). -/
opaque headerByte : List Nat → Nat → Byte

/-- The byte at an offset of a station tally record, given its fields: free (log entry 2). -/
opaque tallyByte : List Nat → Nat → Byte

/-- The byte at an offset of a group record, given its fields: free (log entry 2). -/
opaque groupByte : List Nat → Nat → Byte

end Sys2Proof.Config
end

