-- ==== Sys2Proof/Machine/State.lean ====
section
/-! DEFINITION. The state of the part as plain data: every block's records, the exchange memory's
contents, the queue of waiting commands, and the state after reset.

Numbered collections (exhibits, inputs, channels, ...) are tables: lists of (number, record) pairs in
rising order of number. An unlisted number holds the collection's default record, which is its
power-on value, so `State.reset` lists nothing. -/

namespace Sys2Proof.Machine

/-- A numbered collection: (number, record) pairs, rising; an unlisted number holds a default. -/
abbrev Tab (α : Type) := List (Nat × α)

/-! ### Exhibits (chapters 1, 2, 6, 9, 10) -/

/-- The nine exhibit states (R20). -/
inductive ExState where
  | absent | homing | ready | running | braking | held | resting | faulted | lockedOut
  deriving DecidableEq, Repr

/-- A held activity: what a HELD exhibit returns to (R22). -/
inductive Activity where
  | homing | running
  deriving DecidableEq, Repr

/-- A braking target (R27). -/
inductive Target where
  | held | ready | lockedOut
  deriving DecidableEq, Repr

/-- The hold reasons, a set drawn from GUARD, ORDER, GALLERY (section 2.2). -/
structure HoldReasons where
  guard   : Bool
  order   : Bool
  gallery : Bool
  deriving DecidableEq, Repr

/-- One hold reason. -/
inductive HoldReason where
  | guard | order | gallery
  deriving DecidableEq, Repr

/-- The lockout reasons, a set drawn from KEY, ORDER (section 2.2). -/
structure LockReasons where
  key   : Bool
  order : Bool
  deriving DecidableEq, Repr

/-- One lockout reason. -/
inductive LockReason where
  | key | order
  deriving DecidableEq, Repr

/-- The class of a station input (R6). -/
inductive InputClass where
  | unused | button | mat | guardHold | guardTrip | key
  deriving DecidableEq, Repr

/-- The station range of an exhibit with its token settings (R6). -/
structure StationRange where
  base     : Nat
  count    : Nat
  capacity : Nat
  refill   : Nat
  classes  : List InputClass
  deriving DecidableEq, Repr

/-- The homing direction of an axis. -/
inductive HomeDir where
  | towardLow | towardHigh
  deriving DecidableEq, Repr

/-- An axis record, from an AXIS part (R7). -/
structure AxisRec where
  slot      : Nat
  channel   : Nat
  group     : Nat
  runLoad   : Nat
  holdLoad  : Nat
  vmin      : Nat
  vmax      : Nat
  delta     : Nat
  low       : Int
  high      : Int
  home      : Int
  dir       : HomeDir
  homeSpeed : Nat
  homeExp   : Nat
  confirm   : Bool
  deriving DecidableEq, Repr

/-- Call settings, from the CALL part (R8). -/
structure CallSettings where
  zone        : Nat
  levels      : Nat
  remoteClear : Bool
  deriving DecidableEq, Repr

/-- Press map actions (R9). -/
inductive PressAction where
  | start | step | stop | help | note
  deriving DecidableEq, Repr

/-- Busy policies of a START entry (R9). -/
inductive BusyPolicy where
  | ignore | queue | restart
  deriving DecidableEq, Repr

/-- One press map entry (R9). -/
structure MapEntry where
  input   : Nat
  action  : PressAction
  routine : Nat
  policy  : BusyPolicy
  deriving DecidableEq, Repr

/-- Rest settings, from the REST part (R10): the delay in seconds and the rehome-on-wake flag. -/
structure RestSettings where
  delay  : Nat
  rehome : Bool
  deriving DecidableEq, Repr

/-- A lamp pattern that an override may set (R41). -/
inductive Lamp where
  | fastBlink | slowBlink | on | off
  deriving DecidableEq, Repr

/-- Where a start came from (R75, R103). -/
inductive Origin where
  | press
  | order (slot : Nat)
  deriving DecidableEq, Repr

/-- The phase of a run (section 6.4). -/
inductive RunPhase where
  | waitingGrant | moving | dwelling | waitingStep
  deriving DecidableEq, Repr

/-- The current run of an exhibit (R103). `started` says whether the present waypoint has had its
first grant (R106); `dwellLeft` is the remaining dwell, in ms, while held in a dwell (R22). -/
structure Run where
  routine    : Nat
  index      : Nat
  loopLeft   : Option Nat
  origin     : Origin
  originDone : Bool
  atEnd      : Bool
  phase      : RunPhase
  dwell      : Option Tick
  dwellLeft  : Option Nat
  started    : Bool
  arrived    : List Nat
  finished   : Nat
  deriving DecidableEq, Repr

/-- A queued start (R75): its routine, origin, completion mode and replace flag. -/
structure Queued where
  routine : Nat
  origin  : Origin
  atEnd   : Bool
  replace : Bool
  deriving DecidableEq, Repr

/-- Fault kinds (R170). -/
inductive FaultKind where
  | guardTrip | segmentOverrun | homingOverrun | driverFault | limitHit
  deriving DecidableEq, Repr

/-- A fault report (R170): position in steps and velocity in steps/s at the moment of detection. -/
structure FaultReport where
  kind     : FaultKind
  slot     : Nat
  channel  : Nat
  position : Int
  velocity : Nat
  deriving DecidableEq, Repr

/-- A full capture record (R171). -/
structure Capture where
  report  : FaultReport
  tick    : Tick
  before  : ExState
  routine : Nat
  index   : Nat
  deriving DecidableEq, Repr

/-- The five causes of a cause set (R150). -/
inductive Cause where
  | help | guardTrip | motionFault | nodeSilent | ordered
  deriving DecidableEq, Repr

/-- The source of an acknowledgement (R151). -/
inductive AckSource where
  | frame | key | order
  deriving DecidableEq, Repr

/-- An acknowledgement: its tick, source, attendant tag, and the HELP hold expiry (R151, R162). -/
structure AckMark where
  tick    : Tick
  source  : AckSource
  tag     : Byte
  holdExp : Option Tick
  deriving DecidableEq, Repr

/-- A pending cause (R150). -/
structure Pending where
  raise    : Tick
  repeats  : Nat
  severity : Nat
  ack      : Option AckMark
  deriving DecidableEq, Repr

/-- A cause in a cause set is entered, holding its call number, or pending (R150). -/
inductive CauseState where
  | entered (call : Nat)
  | pending (p : Pending)
  deriving DecidableEq, Repr

/-- One member of a cause set. -/
structure CauseRec where
  cause : Cause
  state : CauseState
  deriving DecidableEq, Repr

/-- A BRING UP EXHIBIT or HOME EXHIBIT order that waits for homing to end, with the result word of
its completion (R14, R45). -/
structure HomingOrder where
  slot   : Nat
  result : Word
  deriving DecidableEq, Repr

/-- An exhibit table entry (section 1.1), with the exhibit's cause set (R150), its capture record
(R171), its holding in the load arbiter (R138), and the slots of the orders that wait on it. -/
structure Exhibit where
  state       : ExState
  label       : List Byte
  access      : BitVec 4
  hold        : HoldReasons
  lock        : LockReasons
  heldAct     : Option Activity
  target      : Option Target
  retire      : Option Nat
  stations    : Option StationRange
  axes        : List AxisRec
  call        : CallSettings
  pressMap    : List MapEntry
  rest        : RestSettings
  run         : Option Run
  queued      : Option Queued
  restTimer   : Option Tick
  lamp        : Option Lamp
  wakePending : Bool
  capture     : Option Capture
  laterFaults : Nat
  clamp       : Word
  causes      : List CauseRec
  units       : Nat
  axesSet     : List Nat
  homingOrder : Option HomingOrder
  stopOrders  : List Nat
  lockOrders  : List Nat
  deriving DecidableEq, Repr

/-- The ABSENT entry (R1). -/
def Exhibit.absent : Exhibit where
  state := .absent
  label := []
  access := 0
  hold := ⟨false, false, false⟩
  lock := ⟨false, false⟩
  heldAct := none
  target := none
  retire := none
  stations := none
  axes := []
  call := ⟨0, 0, false⟩
  pressMap := []
  rest := ⟨0, false⟩
  run := none
  queued := none
  restTimer := none
  lamp := none
  wakePending := false
  capture := none
  laterFaults := 0
  clamp := 0
  causes := []
  units := 0
  axesSet := []
  homingOrder := none
  stopOrders := []
  lockOrders := []

/-! ### The station link and the input unit (chapters 3, 4) -/

/-- Node states (R53). -/
inductive NodeState where
  | unknown | answering | silent
  deriving DecidableEq, Repr

/-- A node record (section 3.3). -/
structure Node where
  state   : NodeState
  miss    : Half
  missRun : Nat
  goodRun : Nat
  status  : Byte
  deriving DecidableEq, Repr

/-- A node record after either reset (R48). -/
def Node.fresh : Node := ⟨.unknown, 0, 0, 0, 0⟩

/-- An exchange in progress: the node polled, the window's length in µs, and the bytes received in
the window so far (R51). -/
structure Window where
  node    : Nat
  timeout : Nat
  bytes   : List RxByte
  deriving DecidableEq, Repr

/-- A token bucket (R63). -/
structure Bucket where
  tokens : Nat
  refill : Option Tick
  deriving DecidableEq, Repr

/-- The record of one station input: its owner (none for 255), the link controller's two levels and
agreement count (R48), and the input unit's tallies, last event tick and bucket (R63). -/
structure Input where
  owner      : Option Nat
  accepted   : Bool
  debounced  : Bool
  agree      : Nat
  presses    : Word
  acted      : Word
  declined   : Word
  suppressed : Word
  lastEvent  : Tick
  bucket     : Option Bucket
  deriving DecidableEq, Repr

/-- An input after either reset: unclaimed, inactive, tallies 0 (R48, R63). -/
def Input.fresh : Input := ⟨none, false, false, 0, 0, 0, 0, 0, 0, none⟩

/-! ### The press journal (chapter 5) -/

/-- Outcomes of a press (R66, R87). -/
inductive PressOutcome where
  | acted | queued | restarted | declinedBusy | declinedState | declinedClosed
  | declinedUnclaimed | declinedNoRoutine | suppressed
  deriving DecidableEq, Repr

/-- A press record (R87). -/
structure PressRec where
  seq     : Half
  input   : Nat
  exhibit : Nat
  tick    : Tick
  action  : Nat
  outcome : Nat
  routine : Nat
  state   : Nat
  deriving DecidableEq, Repr

/-- A record place that was never written reads zero. -/
def PressRec.zero : PressRec := ⟨0, 0, 0, 0, 0, 0, 0, 0⟩

/-- Journal page states (R86). -/
inductive PageState where
  | free | filling | ready
  deriving DecidableEq, Repr

/-- A journal page: its header fields and its record places (R86). -/
structure Page where
  state    : PageState
  count    : Nat
  firstSeq : Half
  handTick : Tick
  recs     : Tab PressRec
  deriving DecidableEq, Repr

/-- A page after either reset (R85). -/
def Page.fresh : Page := ⟨.free, 0, 0, 0, []⟩

/-! ### The routine store (chapter 6) -/

/-- A waypoint (R94). -/
structure Waypoint where
  mask    : BitVec 4
  targets : List Int
  percent : Nat
  dwell   : Nat
  exp     : Nat
  cue     : Nat
  pause   : Bool
  deriving DecidableEq, Repr

/-- A pool place that holds nothing. -/
def Waypoint.zero : Waypoint := ⟨0, [], 0, 0, 0, 0, false⟩

/-- The header fields of a committed record and the first place of its extent (R95); the extent's
length is the waypoint count. -/
structure RoutineCopy where
  count   : Nat
  loop    : Nat
  stepped : Bool
  check   : Half
  first   : Nat
  deriving DecidableEq, Repr

/-- A staged copy with the slot of the COMMIT ROUTINE order that made it (R95). -/
structure Staged where
  copy : RoutineCopy
  slot : Nat
  deriving DecidableEq, Repr

/-- A routine table entry: FREE when nothing is installed (R95). -/
structure Routine where
  installed : Option RoutineCopy
  inUse     : Nat
  staged    : Option Staged
  deriving DecidableEq, Repr

/-- A FREE routine table entry. -/
def Routine.free : Routine := ⟨none, 0, none⟩

/-! ### The motion unit (chapter 7) -/

/-- Channel states (R117). -/
inductive ChanState where
  | idle | moving | confirming | braking | stopped
  deriving DecidableEq, Repr

/-- Move kinds (R116). -/
inductive MoveKind where
  | waypoint | homing
  deriving DecidableEq, Repr

/-- Profile phases (R116). -/
inductive Phase where
  | rampUp | cruise | rampDown
  deriving DecidableEq, Repr

/-- Directions (R116). -/
inductive Dir where
  | up | down
  deriving DecidableEq, Repr

/-- An axis channel record (R116). `pulses` is the model's own count of STEP pulses issued, the
output R123 speaks of; the deadline limit is 2^exp - 1. -/
structure Channel where
  owner     : Option Nat
  slot      : Nat
  axis      : Option AxisRec
  state     : ChanState
  kind      : Option MoveKind
  phase     : Option Phase
  energised : Bool
  p         : Int
  v         : Nat
  target    : Option Int
  dir       : Dir
  vc        : Nat
  counter   : Nat
  exp       : Nat
  home      : Bool
  limit     : Bool
  ready     : Bool
  fault     : Bool
  pulses    : Nat
  deriving DecidableEq, Repr

/-- A channel record after either reset (R116), every input inactive (log entry 4). -/
def Channel.fresh : Channel :=
  ⟨none, 0, none, .idle, none, none, false, 0, 0, none, .up, 0, 0, 0, false, false, false, false, 0⟩

/-! ### The load arbiter (chapter 8) -/

/-- Purposes of a request (section 8.1). -/
inductive Purpose where
  | waypoint | homing | resume | wake
  deriving DecidableEq, Repr

/-- An entry of a wait list (R138). -/
structure Request where
  ex      : Nat
  units   : Nat
  purpose : Purpose
  deriving DecidableEq, Repr

/-- A power group record (R138). -/
structure Group where
  budget  : Nat
  granted : Nat
  wait    : List Request
  last    : Option Nat
  deriving DecidableEq, Repr

/-- A group record after either reset (R138). -/
def Group.fresh : Group := ⟨0, 0, [], none⟩

/-- What one block has handed to another and the receiver has not acted on yet: a grant made by an
evaluation (R142), or the report of a deadline overrun (R126). -/
inductive Handed where
  | grant (ex : Nat) (purpose : Purpose)
  | overrun (ex : Nat) (report : FaultReport)
  deriving DecidableEq, Repr

/-! ### The call unit (chapter 9) -/

/-- The part of a call table entry that is present while it is in use (R151). -/
structure Call where
  ex         : Nat
  cause      : Cause
  severity   : Nat
  tier       : Nat
  raise      : Tick
  tierTick   : Tick
  escalation : Option Tick
  repeats    : Nat
  ack        : Option AckMark
  deriving DecidableEq, Repr

/-- A call table entry: its generation, kept while FREE, and the call it holds (R151). -/
structure CallEntry where
  gen  : Nat
  call : Option Call
  deriving DecidableEq, Repr

/-- A call table entry after either reset (R151). -/
def CallEntry.fresh : CallEntry := ⟨0, none⟩

/-- A zone record (R154). -/
structure Zone where
  isSet : Bool
  tier1 : List Nat
  tier2 : List Nat
  t1    : Nat
  t2    : Nat
  base  : Nat
  count : Nat
  ack   : Nat
  hold  : Nat
  deriving DecidableEq, Repr

/-- An UNSET zone acts with these values (R154). -/
def Zone.unset : Zone := ⟨false, [], [], 5, 5, 0, 1, 0, 10⟩

/-- A beacon table entry (R157). `addr` 0 is FREE. `named` says that a SET zone names the address;
an entry kept only for an owed DARK is not named (R167, R169). `resetDark` marks a DARK frame owed
since a PART RESET, which goes before any other frame, and `readsFree` an entry that the cleared beacon
view shows as FREE since then, until a zone names its address again (R169; log entry 21). -/
structure Beacon where
  addr       : Nat
  named      : Bool
  shows      : Option Nat
  pattern    : Option Nat
  refresh    : Option Tick
  beaconOwed : Bool
  darkOwed   : Bool
  resetDark  : Bool
  readsFree  : Bool
  deriving DecidableEq, Repr

/-- A FREE beacon table entry. -/
def Beacon.free : Beacon := ⟨0, false, none, none, none, false, false, false, false⟩

/-- The attendant receiver: hunting for SYNC (none), or the frame's bytes taken after SYNC (R160). -/
abbrev Receiver := Option (List Byte)

/-! ### Orders (chapter 11) -/

/-- Slot states (section 11.4). -/
inductive SlotState where
  | empty | posted | taken | done
  deriving DecidableEq, Repr

/-- Acceptance codes (R185). -/
inductive Acceptance where
  | none | accepted | unknownKind | badExhibit | denied | badParameter | state | full
  deriving DecidableEq, Repr

/-- Outcome codes (R185). -/
inductive OrderOutcome where
  | none | refused | done | stopped | faulted | cancelled | superseded | overBudget | denied
  deriving DecidableEq, Repr

/-- The host fields of an order slot (R183). `params` lists the parameter field's nonzero bytes by
offset; an unlisted offset reads 0. -/
structure HostFields where
  flags   : Byte
  kind    : Byte
  exhibit : Byte
  tag     : Half
  due     : Tick
  params  : Tab Byte
  deriving DecidableEq, Repr

/-- An order slot (section 11.11). -/
structure Slot where
  edit       : Half
  state      : SlotState
  host       : HostFields
  acceptance : Acceptance
  outcome    : OrderOutcome
  takenTick  : Tick
  doneTick   : Tick
  result     : Word
  deriving DecidableEq, Repr

/-- A slot of a cleared exchange memory. -/
def Slot.zero : Slot := ⟨0, .empty, ⟨0, 0, 0, 0, 0, []⟩, .none, .none, 0, 0, 0⟩

/-- A due-list entry: its slot, and the order as copied at the take (R188). -/
structure DueEntry where
  slot : Nat
  due  : Tick
  host : HostFields
  deriving DecidableEq, Repr

/-- The denial capture, when filled (R187). -/
structure Denial where
  slot    : Nat
  source  : Nat
  kind    : Byte
  exhibit : Byte
  tag     : Half
  tick    : Tick
  later   : Nat
  deriving DecidableEq, Repr

/-- Gallery modes (R37). -/
inductive GalleryMode where
  | closed | open | halt
  deriving DecidableEq, Repr

/-! ### Views: what stands in the exchange memory (chapter 11) -/

/-- A part-written record: its edit count and its other contents (R182). -/
structure View (α : Type) where
  edit : Half
  body : α
  deriving DecidableEq, Repr

/-- A station tally record (R84). -/
structure TallyBody where
  accepted   : Bool
  cls        : Nat
  exhibit    : Nat
  presses    : Word
  acted      : Word
  declined   : Word
  suppressed : Word
  tokens     : Nat
  lastEvent  : Tick
  deriving DecidableEq, Repr

/-- The reset value of a tally record (R84). -/
def TallyBody.fresh : TallyBody := ⟨false, 0, 255, 0, 0, 0, 0, 0, 0⟩

/-- A group record of the group view (R148). -/
structure GroupBody where
  budget    : Nat
  granted   : Nat
  waiting   : Nat
  head      : Nat
  headUnits : Nat
  last      : Nat
  deriving DecidableEq, Repr

/-- The reset value of a group record (R148). -/
def GroupBody.fresh : GroupBody := ⟨0, 0, 0, 255, 0, 255⟩

/-- A beacon record: address and display byte (R168). -/
structure BeaconBody where
  addr    : Nat
  display : Nat
  deriving DecidableEq, Repr

/-- A node as the link view shows it: state code, miss count, status byte (R55). -/
structure NodeView where
  state  : Nat
  miss   : Half
  status : Byte
  deriving DecidableEq, Repr

/-- The sampled levels of one channel's inputs (R137). -/
structure Levels where
  home  : Bool
  limit : Bool
  ready : Bool
  fault : Bool
  deriving DecidableEq, Repr

/-- The gallery header (R179). `nodes` and `levels` list the nodes and channels whose fields differ from
their reset values. -/
structure HeaderBody where
  mode     : Nat
  haltPin  : Bool
  linkMask : Word
  timeout  : Nat
  depth    : Nat
  nodes    : Tab NodeView
  curPage  : Nat
  lastPage : Nat
  nextSeq  : Half
  free     : Nat
  largest  : Nat
  pending  : Nat
  bad      : Half
  stale    : Half
  levels   : Tab Levels
  control  : BitVec 4
  denial   : Option Denial
  dueCount : Nat
  deriving DecidableEq, Repr

/-- The gallery header after power-on, GALLERY_HALT high (R191, R37, R55, R85, R95, R186). -/
def HeaderBody.fresh : HeaderBody where
  mode := 0
  haltPin := true
  linkMask := 0
  timeout := 400
  depth := 2
  nodes := []
  curPage := 255
  lastPage := 255
  nextSeq := 0
  free := 1024
  largest := 1024
  pending := 0
  bad := 0
  stale := 0
  levels := []
  control := 1
  denial := none
  dueCount := 0

/-- The part-written views of the exchange memory. An exhibit view and a call record are held as the
bytes after the edit count, in the layouts of section 11.11. -/
structure Views where
  header   : View HeaderBody
  exhibits : Tab (View (List Byte))
  calls    : Tab (View (List Byte))
  groups   : Tab (View GroupBody)
  beacons  : Tab (View BeaconBody)
  tallies  : Tab (View TallyBody)
  deriving DecidableEq, Repr

/-! ### The machine -/

/-- The state of the part, and the queue of commands that wait, first in, first out. -/
structure State where
  /-- the commands that wait (the model's own queue) -/
  pending     : List Instr
  /-- the gallery tick (R190) -/
  tick        : Tick
  /-- the descriptor area and the routine staging area, by exchange memory offset (R3, R179) -/
  mem         : List Host.Cell
  /-- the order slot table (R183) -/
  slots       : Tab Slot
  /-- the slot taken last (R184) -/
  lastTaken   : Nat
  /-- the slots a running pass has still to visit, in order (R184) -/
  pass        : Option (List Nat)
  /-- the ORDERS bit of SCAN (R180) -/
  scanBit     : Bool
  /-- a scan request that is kept (R184) -/
  scanKept    : Bool
  /-- the due list (R188) -/
  dueList     : List DueEntry
  /-- the control mask (R186) -/
  control     : BitVec 4
  /-- the denial capture (R187) -/
  denial      : Option Denial
  /-- NOTICE: ORDERS, JOURNAL, CALLS, EXHIBITS, DENIAL, LINK from bit 0 (R181) -/
  notice      : BitVec 6
  /-- NOTICE ENABLE (R181) -/
  enable      : BitVec 6
  /-- the gallery mode (R37) -/
  mode        : GalleryMode
  /-- the level of GALLERY_HALT, true for high (R37) -/
  haltPin     : Bool
  /-- the exhibit table (section 1.1) -/
  exhibits    : Tab Exhibit
  /-- the node present mask, bit k for address k + 1 (R48) -/
  linkMask    : Word
  /-- the reply timeout in µs (R48) -/
  linkTimeout : Nat
  /-- the debounce depth D (R48) -/
  depth       : Nat
  /-- the node records, by address 1-32 (R48) -/
  nodes       : Tab Node
  /-- the station inputs 0-255 (R48, R63) -/
  inputs      : Tab Input
  /-- the node polled last, 0 before node 1 (R48) -/
  pollPos     : Nat
  /-- the exchange in progress (R51) -/
  window      : Option Window
  /-- the bytes of the last POLL sent (R50; the model's record of the output) -/
  linkTx      : List Byte
  /-- the journal pages 0-7 (R86) -/
  pages       : Tab Page
  /-- the journal writer's current page (R85) -/
  curPage     : Option Nat
  /-- the page the writer took most recently (R85) -/
  lastPage    : Option Nat
  /-- the next journal sequence number (R85) -/
  nextSeq     : Half
  /-- the linger expiry of the current page (R85) -/
  linger      : Option Tick
  /-- the routine table 0-63 (R95) -/
  routines    : Tab Routine
  /-- the waypoint pool, places 0-1,023 (R95) -/
  pool        : Tab Waypoint
  /-- the axis channel records 0-23 (R116) -/
  channels    : Tab Channel
  /-- the power groups 0-3 (R138) -/
  groups      : Tab Group
  /-- grants and overrun reports handed and not yet acted on, oldest first (R142, R126) -/
  handed      : List Handed
  /-- the call table 0-47 (R151) -/
  calls       : Tab CallEntry
  /-- the zone table 0-15 (R154) -/
  zones       : Tab Zone
  /-- the beacon table 0-63 (R157) -/
  beacons     : Tab Beacon
  /-- the beacon entry the transmitter served last (R159) -/
  lastServed  : Nat
  /-- the attendant bad-frame count (R160) -/
  badFrames   : Half
  /-- the stale-ack count (R161) -/
  staleAcks   : Half
  /-- the attendant receiver (R160) -/
  rx          : Receiver
  /-- the bytes of the last attendant frame sent (R158; the model's record of the output) -/
  attTx       : List Byte
  /-- the end tick of each active cue line 1-8 (R106) -/
  cues        : Tab (Option Tick)
  /-- the part-written views (R182) -/
  views       : Views
  deriving DecidableEq, Repr

/-- Reasons the part stops. The reference names no event that stops the part, so no meaning answers
with a fault. -/
inductive Fault where
  /-- raised by no command: the reference gives the part no stop (safe) -/
  | none
  deriving DecidableEq, Repr

/-- Reasons a command has no meaning. -/
inductive Refusal where
  /-- raised by the dispatch for a command without a meaning yet; no arm uses it (safe) -/
  | notModelled (mnemonic : String)
  deriving DecidableEq, Repr

/-- The part right after power-on with GALLERY_HALT high and every channel input inactive (R191 and
each block's own rule; log entry 4 for the pins). -/
def State.reset : State where
  pending := []
  tick := 0
  mem := []
  slots := []
  lastTaken := 31
  pass := none
  scanBit := false
  scanKept := false
  dueList := []
  control := 1
  denial := none
  notice := 0
  enable := 0
  mode := .closed
  haltPin := true
  exhibits := []
  linkMask := 0
  linkTimeout := 400
  depth := 2
  nodes := []
  inputs := []
  pollPos := 0
  window := none
  linkTx := []
  pages := []
  curPage := none
  lastPage := none
  nextSeq := 0
  linger := none
  routines := []
  pool := []
  channels := []
  groups := []
  handed := []
  calls := []
  zones := []
  beacons := []
  lastServed := 63
  badFrames := 0
  staleAcks := 0
  rx := none
  attTx := []
  cues := []
  views := ⟨⟨0, .fresh⟩, [], [], [], [], []⟩

end Sys2Proof.Machine
end

