-- ==== Sys2Proof/Machine/Tables.lean ====
section
/-! DEFINITION. Numbered tables, the exchange memory's stored bytes in their canonical form, byte
packing, and the test for a tick that is due. -/

namespace Sys2Proof.Machine

/-- The record at a number: the first pair with that number, or the default. -/
def lookup {α : Type} (d : α) : Tab α → Nat → α
  | [], _ => d
  | (j, v) :: r, k => if j = k then v else lookup d r k

/-- Store a record at a number, keeping the numbers in rising order. -/
def store {α : Type} : Tab α → Nat → α → Tab α
  | [], k, v => [(k, v)]
  | (j, w) :: r, k, v =>
    if k < j then (k, v) :: (j, w) :: r
    else if j = k then (k, v) :: r
    else (j, w) :: store r k v

/-- The numbers a table lists. -/
def keys {α : Type} (t : Tab α) : List Nat := t.map (·.1)

/-! ### Stored bytes -/

/-- A byte of the descriptor or staging area. An address that is not listed reads 0: the areas are
cleared to zero at power-on (R3, R191). -/
def peek (m : List Host.Cell) (a : Nat) : Byte := lookup 0 m a

/-- Write a byte. Writing 0 removes the entry, so equal memories are equal lists. -/
def poke (m : List Host.Cell) (a : Nat) (b : Byte) : List Host.Cell :=
  if b = 0 then m.filter (fun c => c.1 != a) else store m a b

/-- The canonical form: addresses strictly rising, no entry equal to 0. -/
def Memory.wf : List Host.Cell → Bool
  | [] => true
  | (_, v) :: [] => v != 0
  | (a, v) :: (b, w) :: r => v != 0 && decide (a < b) && Memory.wf ((b, w) :: r)

/-- Two stored bytes, little-endian. -/
def peekHalf (m : List Host.Cell) (a : Nat) : Half := peek m (a + 1) ++ peek m a

/-- Four stored bytes, little-endian. -/
def peekWord (m : List Host.Cell) (a : Nat) : Word := peekHalf m (a + 2) ++ peekHalf m a

/-! ### Bytes of numbers -/

/-- The low `n` bytes of a number, little-endian. -/
def bytesOf : Nat → Nat → List Byte
  | 0, _ => []
  | n + 1, v => BitVec.ofNat 8 v :: bytesOf n (v / 256)

/-- The low `n` bytes of a signed number in two's complement, little-endian. -/
def signedBytes (n : Nat) (v : Int) : List Byte := bytesOf n (v % (256 ^ n : Nat)).toNat

/-- A flag as bit `k` of a byte. -/
def bitAt (k : Nat) (b : Bool) : Nat := if b then 2 ^ k else 0

/-- A list of bytes, cut or filled with zeros to `n` bytes. -/
def fitBytes : Nat → List Byte → List Byte
  | 0, _ => []
  | n + 1, [] => 0 :: fitBytes n []
  | n + 1, b :: r => b :: fitBytes n r

/-! ### Ticks -/

/-- A tick is due when (now - t) mod 2^32 is less than 2^31 (00_scope.md, Time). -/
def isDue (now t : Tick) : Bool := decide ((now - t).toNat < 2147483648)

/-- A tick a number of milliseconds after another. -/
def after (t : Tick) (ms : Nat) : Tick := t + BitVec.ofNat 32 ms

/-- An optional tick is present and due. -/
def dueNow (now : Tick) : Option Tick → Bool
  | none => false
  | some t => isDue now t

end Sys2Proof.Machine
end

