-- ==== Sys2Proof/Machine/Ops.lean ====
section
/-! DEFINITION. The shared operations on State: one accessor and one writer for each table, and the
codes that the reference gives its states, kinds and outcomes. -/

namespace Sys2Proof.Machine

/-! ### One home for each record -/

/-- Exhibit table entry `e`. -/
def State.ex (s : State) (e : Nat) : Exhibit := lookup .absent s.exhibits e
/-- Change exhibit table entry `e`. -/
def State.modEx (s : State) (e : Nat) (f : Exhibit → Exhibit) : State :=
  { s with exhibits := store s.exhibits e (f (s.ex e)) }

/-- Axis channel record `c`. -/
def State.ch (s : State) (c : Nat) : Channel := lookup .fresh s.channels c
/-- Change axis channel record `c`. -/
def State.modCh (s : State) (c : Nat) (f : Channel → Channel) : State :=
  { s with channels := store s.channels c (f (s.ch c)) }

/-- Station input record `i`. -/
def State.inp (s : State) (i : Nat) : Input := lookup .fresh s.inputs i
/-- Change station input record `i`. -/
def State.modInp (s : State) (i : Nat) (f : Input → Input) : State :=
  { s with inputs := store s.inputs i (f (s.inp i)) }

/-- Node record of address `n`. -/
def State.node (s : State) (n : Nat) : Node := lookup .fresh s.nodes n
/-- Change the node record of address `n`. -/
def State.modNode (s : State) (n : Nat) (f : Node → Node) : State :=
  { s with nodes := store s.nodes n (f (s.node n)) }

/-- Order slot `k`. -/
def State.slot (s : State) (k : Nat) : Slot := lookup .zero s.slots k
/-- Change order slot `k`. -/
def State.modSlot (s : State) (k : Nat) (f : Slot → Slot) : State :=
  { s with slots := store s.slots k (f (s.slot k)) }

/-- Journal page `k`. -/
def State.page (s : State) (k : Nat) : Page := lookup .fresh s.pages k
/-- Change journal page `k`. -/
def State.modPage (s : State) (k : Nat) (f : Page → Page) : State :=
  { s with pages := store s.pages k (f (s.page k)) }

/-- Routine table entry `r`. -/
def State.routine (s : State) (r : Nat) : Routine := lookup .free s.routines r
/-- Change routine table entry `r`. -/
def State.modRoutine (s : State) (r : Nat) (f : Routine → Routine) : State :=
  { s with routines := store s.routines r (f (s.routine r)) }

/-- Power group record `g`. -/
def State.group (s : State) (g : Nat) : Group := lookup .fresh s.groups g
/-- Change power group record `g`. -/
def State.modGroup (s : State) (g : Nat) (f : Group → Group) : State :=
  { s with groups := store s.groups g (f (s.group g)) }

/-- Call table entry `c`. -/
def State.callEntry (s : State) (c : Nat) : CallEntry := lookup .fresh s.calls c
/-- Change call table entry `c`. -/
def State.modCall (s : State) (c : Nat) (f : CallEntry → CallEntry) : State :=
  { s with calls := store s.calls c (f (s.callEntry c)) }

/-- Zone record `z`. -/
def State.zone (s : State) (z : Nat) : Zone := lookup .unset s.zones z
/-- Beacon table entry `b`. -/
def State.beacon (s : State) (b : Nat) : Beacon := lookup .free s.beacons b
/-- Change beacon table entry `b`. -/
def State.modBeacon (s : State) (b : Nat) (f : Beacon → Beacon) : State :=
  { s with beacons := store s.beacons b (f (s.beacon b)) }

/-- The end tick of cue line `c`, present while the line is active (R106). -/
def State.cue (s : State) (c : Nat) : Option Tick := lookup none s.cues c

/-! ### Codes -/

/-- The state code of the exhibit view (R20). -/
def ExState.code : ExState → Nat
  | .absent => 0 | .homing => 1 | .ready => 2 | .running => 3 | .braking => 4
  | .held => 5 | .resting => 6 | .faulted => 7 | .lockedOut => 8

/-- Input class codes (R6). -/
def InputClass.code : InputClass → Nat
  | .unused => 0 | .button => 1 | .mat => 2 | .guardHold => 3 | .guardTrip => 4 | .key => 5

/-- Press map action codes (R9). -/
def PressAction.code : PressAction → Nat
  | .start => 1 | .step => 2 | .stop => 3 | .help => 4 | .note => 5

/-- Press outcome codes (R87); a suppressed press makes no record. -/
def PressOutcome.code : PressOutcome → Nat
  | .acted => 1 | .queued => 2 | .restarted => 3 | .declinedBusy => 4 | .declinedState => 5
  | .declinedClosed => 6 | .declinedUnclaimed => 7 | .declinedNoRoutine => 8 | .suppressed => 0

/-- Node state codes (R53). -/
def NodeState.code : NodeState → Nat
  | .unknown => 0 | .answering => 1 | .silent => 2

/-- Channel state codes (section 11.11). -/
def ChanState.code : ChanState → Nat
  | .idle => 0 | .moving => 1 | .confirming => 2 | .braking => 3 | .stopped => 4

/-- Purpose codes (R149). -/
def Purpose.code : Purpose → Nat
  | .waypoint => 1 | .homing => 2 | .resume => 3 | .wake => 4

/-- Fault kind codes (R170). -/
def FaultKind.code : FaultKind → Nat
  | .guardTrip => 1 | .segmentOverrun => 2 | .homingOverrun => 3 | .driverFault => 4 | .limitHit => 5

/-- Cause codes (R150). -/
def Cause.code : Cause → Nat
  | .help => 1 | .guardTrip => 2 | .motionFault => 3 | .nodeSilent => 4 | .ordered => 5

/-- The severity of a cause that has a fixed one (R150); ORDERED takes its order's. -/
def Cause.severity : Cause → Nat
  | .help => 2 | .guardTrip => 4 | .motionFault => 3 | .nodeSilent => 2 | .ordered => 1

/-- The cause a fault kind raises (R170). -/
def FaultKind.cause : FaultKind → Cause
  | .guardTrip => .guardTrip
  | _ => .motionFault

/-- Acknowledgement source codes (section 11.11). -/
def AckSource.code : AckSource → Nat
  | .frame => 1 | .key => 2 | .order => 3

/-- Journal page state codes (R86). -/
def PageState.code : PageState → Nat
  | .free => 0 | .filling => 1 | .ready => 2

/-- Slot state codes (section 11.4). -/
def SlotState.code : SlotState → Nat
  | .empty => 0 | .posted => 1 | .taken => 2 | .done => 3

/-- Acceptance codes (R185). -/
def Acceptance.code : Acceptance → Nat
  | .none => 0 | .accepted => 1 | .unknownKind => 2 | .badExhibit => 3 | .denied => 4
  | .badParameter => 5 | .state => 6 | .full => 7

/-- Outcome codes (R185). -/
def OrderOutcome.code : OrderOutcome → Nat
  | .none => 0 | .refused => 1 | .done => 2 | .stopped => 3 | .faulted => 4 | .cancelled => 5
  | .superseded => 6 | .overBudget => 7 | .denied => 8

/-- Gallery mode codes (R37). -/
def GalleryMode.code : GalleryMode → Nat
  | .closed => 0 | .open => 1 | .halt => 2

/-- Run phase codes (section 11.11). -/
def RunPhase.code : RunPhase → Nat
  | .waitingGrant => 1 | .moving => 2 | .dwelling => 3 | .waitingStep => 4

/-- Lamp pattern codes: the SET LAMPS parameter, and the pattern's place in R40's list (R41). -/
def Lamp.code : Lamp → Nat
  | .fastBlink => 2 | .slowBlink => 3 | .on => 4 | .off => 5

/-- A lamp override as SET LAMPS reports it: 0 for none. -/
def lampCode : Option Lamp → Nat
  | none => 0
  | some l => l.code

/-! ### Reason sets -/

/-- No hold reason is present. -/
def HoldReasons.isEmpty (h : HoldReasons) : Bool := !h.guard && !h.order && !h.gallery
/-- How many hold reasons are present (R43). -/
def HoldReasons.size (h : HoldReasons) : Nat := h.guard.toNat + h.order.toNat + h.gallery.toNat
/-- Whether a hold reason is present. -/
def HoldReasons.has (h : HoldReasons) : HoldReason → Bool
  | .guard => h.guard | .order => h.order | .gallery => h.gallery
/-- Set or clear one hold reason. -/
def HoldReasons.put (h : HoldReasons) : HoldReason → Bool → HoldReasons
  | .guard, b => { h with guard := b }
  | .order, b => { h with order := b }
  | .gallery, b => { h with gallery := b }

/-- No lockout reason is present. -/
def LockReasons.isEmpty (l : LockReasons) : Bool := !l.key && !l.order
/-- How many lockout reasons are present (R44). -/
def LockReasons.size (l : LockReasons) : Nat := l.key.toNat + l.order.toNat
/-- Whether a lockout reason is present. -/
def LockReasons.has (l : LockReasons) : LockReason → Bool
  | .key => l.key | .order => l.order
/-- Set or clear one lockout reason. -/
def LockReasons.put (l : LockReasons) : LockReason → Bool → LockReasons
  | .key, b => { l with key := b }
  | .order, b => { l with order := b }

/-! ### Units of an exhibit (section 8.1) -/

/-- The hold units: the sum of the hold loads. -/
def Exhibit.holdUnits (x : Exhibit) : Nat := (x.axes.map (·.holdLoad)).sum
/-- The sum of the run loads: a homing claim made with the axes de-energised (R30). -/
def Exhibit.allRunLoads (x : Exhibit) : Nat := (x.axes.map (·.runLoad)).sum
/-- The run units of a movement of the axis slots in a list. -/
def Exhibit.runUnits (x : Exhibit) (slots : List Nat) : Nat :=
  ((x.axes.filter (fun a => slots.contains a.slot)).map (fun a => a.runLoad - a.holdLoad)).sum
/-- The power group of an exhibit with axes (R11: every axis names the same one). -/
def Exhibit.group (x : Exhibit) : Nat :=
  match x.axes with
  | [] => 0
  | a :: _ => a.group
/-- The axis slots of the exhibit, in ascending order. -/
def Exhibit.axisSlots (x : Exhibit) : List Nat :=
  (List.range 4).filter (fun k => x.axes.any (fun a => a.slot == k))
/-- The axis record at an axis slot. -/
def Exhibit.axisAt (x : Exhibit) (k : Nat) : Option AxisRec := x.axes.find? (fun a => a.slot == k)
/-- The entry is installed (section 1.1). -/
def Exhibit.installed (x : Exhibit) : Bool := x.state != .absent

/-! ### Axes of an exhibit -/

/-- A channel counts as moving while it is MOVING or BRAKING (R117). -/
def Channel.isMoving (c : Channel) : Bool := c.state == .moving || c.state == .braking
/-- Some axis of the exhibit is moving. -/
def State.anyMoving (s : State) (e : Nat) : Bool :=
  (s.ex e).axes.any (fun a => (s.ch a.channel).isMoving)
/-- The exhibit's axes are energised. -/
def State.energised (s : State) (e : Nat) : Bool :=
  (s.ex e).axes.any (fun a => (s.ch a.channel).energised)
/-- The position of a channel in steps, toward minus infinity (R123). -/
def Channel.steps (c : Channel) : Int := c.p / 1000
/-- The deadline limit of a move: 2^n - 1 ticks (R125). -/
def Channel.limitTicks (c : Channel) : Nat := 2 ^ c.exp - 1

/-! ### Requests in a wait list (R138) -/

/-- The request of an exhibit in its group's wait list. -/
def State.request (s : State) (e : Nat) : Option Request :=
  if (s.ex e).axes.isEmpty then none
  else (s.group (s.ex e).group).wait.find? (fun r => r.ex == e)

/-! ### Installed routines (R95) -/

/-- The routine is installed. -/
def State.isInstalled (s : State) (r : Nat) : Bool := (s.routine r).installed.isSome
/-- Waypoint `i` of routine `r`'s installed copy. -/
def State.waypoint (s : State) (r i : Nat) : Waypoint :=
  match (s.routine r).installed with
  | none => .zero
  | some c => lookup .zero s.pool (c.first + i)

/-! ### Input classes (R63) -/

/-- The class that an installed exhibit gives an input, if the input lies in its range. -/
def Exhibit.classOf (x : Exhibit) (i : Nat) : Option InputClass :=
  match x.stations with
  | none => none
  | some r => if r.base ≤ i ∧ i < r.base + r.count then r.classes[i - r.base]? else none
/-- The class of a station input through its owner; none for an unclaimed input. -/
def State.classOf (s : State) (i : Nat) : Option InputClass :=
  match (s.inp i).owner with
  | none => none
  | some e => (s.ex e).classOf i
/-- The inputs of an exhibit's range that satisfy a test on class and accepted level. -/
def State.anyInput (s : State) (e : Nat) (t : InputClass → Bool) : Bool :=
  match (s.ex e).stations with
  | none => false
  | some r => (List.range r.count).any (fun k =>
      (s.inp (r.base + k)).accepted && ((r.classes[k]?).map t).getD false)
/-- Some guard input of the exhibit is active (R80). -/
def State.guardActive (s : State) (e : Nat) : Bool :=
  s.anyInput e (fun c => c == .guardHold || c == .guardTrip)
/-- Some mat of the exhibit is active (R32). -/
def State.matActive (s : State) (e : Nat) : Bool := s.anyInput e (fun c => c == .mat)
/-- Some key input of the exhibit is active (R83). -/
def State.keyActive (s : State) (e : Nat) : Bool := s.anyInput e (fun c => c == .key)

/-! ### Notices (R181) -/

/-- The ORDERS category. -/
def noticeOrders : BitVec 6 := 1
/-- The JOURNAL category. -/
def noticeJournal : BitVec 6 := 2
/-- The CALLS category. -/
def noticeCalls : BitVec 6 := 4
/-- The EXHIBITS category. -/
def noticeExhibits : BitVec 6 := 8
/-- The DENIAL category. -/
def noticeDenial : BitVec 6 := 16
/-- The LINK category. -/
def noticeLink : BitVec 6 := 32

/-- Set notice categories; one already set stays set. -/
def setNotice (n : BitVec 6) (s : State) : State := { s with notice := s.notice ||| n }

/-- A notice category when a condition holds. -/
def noticeIf (b : Bool) (n : BitVec 6) : BitVec 6 := if b then n else 0

/-! ### Order completion (R185) -/

/-- Complete the order of a slot: outcome, done tick, result word, DONE, and the ORDERS notice. -/
def complete (k : Nat) (o : OrderOutcome) (r : Word) (s : State) : State :=
  setNotice noticeOrders (s.modSlot k (fun x =>
    { x with edit := x.edit + 2, state := .done, outcome := o, doneTick := s.tick, result := r }))

/-- Complete the orders of several slots with result 0. -/
def completeAll (ks : List Nat) (o : OrderOutcome) (s : State) : State :=
  ks.foldl (fun s k => complete k o 0 s) s

/-- Complete an order origin; a PRESS origin completes nothing. -/
def completeOrigin (o : Origin) (out : OrderOutcome) (r : Word) (s : State) : State :=
  match o with
  | .press => s
  | .order k => complete k out r s

/-! ### In-use counts and staged copies (R96, R100) -/

/-- The result word of a commit that has taken effect (R99). -/
def RoutineCopy.resultWord (c : RoutineCopy) : Word := BitVec.ofNat 32 (c.first + 65536 * c.count)

/-- One more naming of a routine. -/
def incUse (r : Nat) (s : State) : State := s.modRoutine r (fun x => { x with inUse := x.inUse + 1 })

/-- One naming fewer; at 0 a staged copy is swapped in and its order completes DONE. -/
def decUse (r : Nat) (s : State) : State :=
  let x := s.routine r
  match x.inUse - 1, x.staged with
  | 0, some c =>
    complete c.slot .done c.copy.resultWord
      (s.modRoutine r (fun _ => ⟨some c.copy, 0, none⟩))
  | n, _ => s.modRoutine r (fun y => { y with inUse := n })

/-! ### The waypoint pool (R95, R98) -/

/-- The extents held in the pool, as (first place, length): installed and staged copies. -/
def extents (s : State) : List (Nat × Nat) :=
  (keys s.routines).flatMap (fun r =>
    let x := s.routine r
    (match x.installed with | none => [] | some c => [(c.first, c.count)]) ++
    (match x.staged with | none => [] | some c => [(c.copy.first, c.copy.count)]))

/-- Insert an extent by its first place. -/
def insertExtent (x : Nat × Nat) : List (Nat × Nat) → List (Nat × Nat)
  | [] => [x]
  | y :: r => if x.1 ≤ y.1 then x :: y :: r else y :: insertExtent x r

/-- The free extents between held extents given in rising order, from a place on. -/
def gaps (start : Nat) : List (Nat × Nat) → List (Nat × Nat)
  | [] => if start < 1024 then [(start, 1024 - start)] else []
  | (f, n) :: r => if start < f then (start, f - start) :: gaps (f + n) r else gaps (f + n) r

/-- The free extents of the pool, in rising order. -/
def freeExtents (s : State) : List (Nat × Nat) :=
  gaps 0 ((extents s).foldr insertExtent [])

/-- The number of free waypoint places (R95). -/
def freePlaces (s : State) : Nat := ((freeExtents s).map (·.2)).sum

/-- The length of the largest free extent (R95). -/
def largestFree (s : State) : Nat := (freeExtents s).foldl (fun m x => max m x.2) 0

/-- First fit: the lowest first place of a free extent that is long enough (R98). -/
def firstFit (n : Nat) (s : State) : Option Nat :=
  ((freeExtents s).find? (fun x => decide (n ≤ x.2))).map (·.1)

end Sys2Proof.Machine
end

