-- ==== Sys2Proof/Machine/Load.lean ====
section
/-! DEFINITION. The load arbiter (chapter 8): requests, the rotating evaluation, returns,
withdrawals. An evaluation books its grants and hands them (R142); the exhibit acts on a handed
grant in an event of its own (`deliver`, Machine/Events.lean). Each request, grant, return, withdrawal
and refusal sets EXHIBITS, whatever the exhibit's view shows after it (R149). -/

namespace Sys2Proof.Machine

/-- The head of a wait list: first in cyclic exhibit-number order after the last-granted (R140). -/
def headOf (last : Option Nat) (wait : List Request) : Option Request :=
  match last with
  | none => wait.head?
  | some e =>
    match wait.find? (fun r => decide (e < r.ex)) with
    | some r => some r
    | none => wait.head?

/-- Book a grant: the entry leaves the wait list, its units are added to the granted units and to
the exhibit's holding, the exhibit becomes the last granted, and the grant is handed (R140, R142). -/
def book (g : Nat) (r : Request) (s : State) : State :=
  let s1 := s.modGroup g (fun x =>
    { x with granted := x.granted + r.units, wait := x.wait.filter (fun q => q.ex != r.ex),
             last := some r.ex })
  let s2 := setNotice noticeExhibits
    (s1.modEx r.ex (fun x => { x with units := x.units + r.units }))
  { s2 with handed := s2.handed ++ [.grant r.ex r.purpose] }

/-- Grant heads that fit, at most `n` of them, until a head does not fit (R140). -/
def evaluateLoop : Nat → Nat → State → State
  | 0, _, s => s
  | n + 1, g, s =>
    match headOf (s.group g).last (s.group g).wait with
    | none => s
    | some r =>
      if (s.group g).granted + r.units ≤ (s.group g).budget then evaluateLoop n g (book g r s) else s

/-- An evaluation of a power group (R140): each grant shortens the wait list, so its length bounds
the number of grants. -/
def evaluate (g : Nat) (s : State) : State := evaluateLoop (s.group g).wait.length g s

/-- Put a request in its exhibit's place. -/
def insertRequest (r : Request) : List Request → List Request
  | [] => [r]
  | q :: l => if r.ex < q.ex then r :: q :: l else q :: insertRequest r l

/-- Withdraw the exhibit's request; a withdrawal with no entry changes nothing (R144). -/
def withdraw (e : Nat) (s : State) : State :=
  match s.request e with
  | none => s
  | some _ =>
    let g := (s.ex e).group
    evaluate g (setNotice noticeExhibits
      (s.modGroup g (fun x => { x with wait := x.wait.filter (fun q => q.ex != e) })))

/-- Make a request of at least one unit (R139). The answer says whether it was refused as over
budget; the caller acts on a refusal by its purpose (R145). -/
def request (e units : Nat) (p : Purpose) (s : State) : State × Bool :=
  let g := (s.ex e).group
  if (s.group g).budget < units then (withdraw e (setNotice noticeExhibits s), true)
  else
    (evaluate g (setNotice noticeExhibits (s.modGroup g (fun x =>
      { x with wait := insertRequest ⟨e, units, p⟩ (x.wait.filter (fun q => q.ex != e)) }))), false)

/-- Return units of an exhibit's holding to its group; a return is followed by an evaluation
(R143). Returning nothing is no return. -/
def returnUnits (e n : Nat) (s : State) : State :=
  if n = 0 then s
  else
    let g := (s.ex e).group
    let s1 := s.modEx e (fun x => { x with units := x.units - n })
    evaluate g (setNotice noticeExhibits (s1.modGroup g (fun x => { x with granted := x.granted - n })))

/-- Return the run units held: the holding beyond the hold units (R143). -/
def returnRun (e : Nat) (s : State) : State :=
  returnUnits e ((s.ex e).units - (s.ex e).holdUnits) s

/-- Return everything held (R143). -/
def returnAll (e : Nat) (s : State) : State := returnUnits e (s.ex e).units s

end Sys2Proof.Machine
end

