-- ==== Sys2Proof/Machine/Views.lean ====
section
/-! DEFINITION. The part-written views (R2, R21, R84, R112, R137, R148, R149, R168, R178, R182): what
each record reads, and the writing of a changed record under its edit count. -/

namespace Sys2Proof.Machine

/-- Write a record: when the contents change, the edit count goes odd and even again (R182). DESIGN
CHOICE, unsafe: changes of a record that cancel out within one event are no change, and leave the count
unmoved (R148; log entry 19). -/
def View.put {α : Type} [DecidableEq α] (v : View α) (b : α) : View α :=
  if v.body = b then v else ⟨v.edit + 2, b⟩

/-! ### The exhibit view (section 11.11) -/

/-- The move kind, the energised flag and the set or arrived mark, without the phase. -/
def axisKey (b0 b1 : Byte) : Byte × Byte := (b0, b1 &&& 0x33)

/-- Whether the axis is set in the present homing, or arrived in the present waypoint (R137). -/
def axisMark (x : Exhibit) (k : Nat) : Bool :=
  match x.run with
  | some r => r.arrived.contains k
  | none =>
    (x.state == .homing || x.heldAct == some .homing) && x.axesSet.contains k

/-- Phase bits of the axis record. -/
def phaseCode : Option Phase → Nat
  | none => 0 | some .rampUp => 1 | some .cruise => 2 | some .rampDown => 3

/-- Move kind bits of the axis record. -/
def kindCode : Option MoveKind → Nat
  | none => 0 | some .waypoint => 1 | some .homing => 2

/-- The 13 bytes of one axis record from its channel (section 11.11). -/
def axisBytes (c : Channel) (mark : Bool) : List Byte :=
  bytesOf 1 c.state.code ++
  bytesOf 1 (kindCode c.kind + 4 * phaseCode c.phase + bitAt 4 c.energised + bitAt 5 mark) ++
  bytesOf 1 c.exp ++ bytesOf 2 c.v ++ bytesOf 2 c.counter ++
  signedBytes 3 c.steps ++ signedBytes 3 (c.target.getD 0)

/-- The axis record that the view shows: it is written when the channel state, the move kind, the
energised flag or the mark changes, and otherwise stands as it was (R137). -/
def axisView (s : State) (x : Exhibit) (fresh : Bool) (old : List Byte) (k : Nat) : List Byte :=
  match x.axisAt k with
  | none => bytesOf 13 0
  | some a =>
    let new := axisBytes (s.ch a.channel) (axisMark x k)
    let was := fitBytes 13 (old.drop (74 + 13 * k))
    if !fresh && axisKey (was.getD 0 0) (was.getD 1 0) = axisKey (new.getD 0 0) (new.getD 1 0)
    then was else new

/-- The optional tick as four bytes; an absent field reads zero. -/
def tickBytes (t : Option Tick) : List Byte := bytesOf 4 ((t.map BitVec.toNat).getD 0)

/-- Held activity and braking target use the state codes of their targets (section 11.11). -/
def heldCode : Option Activity → Nat
  | none => 0 | some .homing => 1 | some .running => 3

/-- The braking target's code. -/
def targetCode : Option Target → Nat
  | none => 0 | some .ready => 2 | some .held => 5 | some .lockedOut => 8

/-- The axis channel of a slot, 255 for an unused slot (R2). -/
def channelCode (x : Exhibit) (k : Nat) : Nat :=
  match x.axisAt k with | none => 255 | some a => a.channel

/-- The slot number of an order origin, 0 for PRESS. -/
def originSlot : Origin → Nat
  | .press => 0 | .order k => k

/-- Whether an origin is an order. -/
def originIsOrder : Origin → Bool
  | .press => false | .order _ => true

/-- Cause bits of the cause set that satisfy a test. -/
def causeBits (x : Exhibit) (t : CauseState → Bool) : Nat :=
  ((x.causes.filter (fun c => t c.state)).map (fun c => 2 ^ (c.cause.code - 1))).sum

/-- Whether a cause is pending. -/
def CauseState.isPending : CauseState → Bool
  | .entered _ => false | .pending _ => true

/-- Bytes 32-57: units, the run and the queued start (R149, R112, R75). -/
def runBytes (s : State) (e : Nat) (x : Exhibit) : List Byte :=
  bytesOf 2 x.holdUnits ++ bytesOf 2 x.units ++
  bytesOf 2 (((s.request e).map (·.units)).getD 0) ++
  bytesOf 1 ((x.run.map (·.routine)).getD 0) ++ bytesOf 1 ((x.run.map (·.index)).getD 0) ++
  tickBytes x.restTimer ++ tickBytes (x.run.bind (·.dwell)) ++ bytesOf 4 x.clamp.toNat ++
  bytesOf 1 ((x.run.bind (·.loopLeft)).getD 0) ++
  bytesOf 1
    (bitAt 0 ((x.run.map (fun r => originIsOrder r.origin)).getD false) +
     bitAt 1 ((x.run.map (·.originDone)).getD false) +
     bitAt 2 ((x.run.map (·.atEnd)).getD false) +
     bitAt 4 x.queued.isSome +
     bitAt 5 ((x.queued.map (fun q => originIsOrder q.origin)).getD false) +
     bitAt 6 ((x.queued.map (·.replace)).getD false)) ++
  bytesOf 1 ((x.run.map (fun r => originSlot r.origin)).getD 0) ++
  bytesOf 1 ((x.queued.map (·.routine)).getD 0) ++
  bytesOf 2 ((x.run.map (·.finished)).getD 0)

/-- Bytes 58-75: the queued start's slot and the capture record (R75, R178). -/
def captureBytes (x : Exhibit) : List Byte :=
  bytesOf 1 ((x.queued.map (fun q => originSlot q.origin)).getD 0) ++
  match x.capture with
  | none => bytesOf 17 0
  | some c =>
    bytesOf 1 c.report.kind.code ++ bytesOf 4 c.tick.toNat ++ bytesOf 1 c.before.code ++
    bytesOf 1 c.routine ++ bytesOf 1 c.index ++ bytesOf 1 c.report.slot ++
    bytesOf 1 c.report.channel ++ bytesOf 1 x.laterFaults ++ bytesOf 2 c.report.velocity ++
    signedBytes 4 c.report.position

/-- Bytes 2-31: state, label, masks, reasons, station range, channels, call settings, cause set. -/
def entryBytes (s : State) (e : Nat) (x : Exhibit) : List Byte :=
  bytesOf 1 x.state.code ++
  bytesOf 1 (bitAt 0 x.wakePending + bitAt 1 x.restTimer.isSome + bitAt 2 x.call.remoteClear +
    bitAt 3 x.retire.isSome) ++
  fitBytes 12 x.label ++ bytesOf 1 x.access.toNat ++
  bytesOf 1 (bitAt 0 x.hold.guard + bitAt 1 x.hold.order + bitAt 2 x.hold.gallery +
    bitAt 4 x.lock.key + bitAt 5 x.lock.order) ++
  bytesOf 1 (heldCode x.heldAct + 16 * targetCode x.target) ++
  bytesOf 1 (lampCode x.lamp + 16 * ((s.request e).map (·.purpose.code)).getD 0) ++
  bytesOf 1 ((x.stations.map (·.base)).getD 0) ++ bytesOf 1 ((x.stations.map (·.count)).getD 0) ++
  (List.range 4).flatMap (fun k => bytesOf 1 (channelCode x k)) ++
  bytesOf 1 (if x.axes.isEmpty then 255 else x.group) ++
  bytesOf 1 x.call.zone ++ bytesOf 1 x.call.levels ++
  bytesOf 1 (causeBits x (fun _ => true)) ++ bytesOf 1 (causeBits x CauseState.isPending) ++
  bytesOf 1 ((x.run.map (·.phase.code)).getD 0)

/-- The contents of exhibit view `e` after its edit count: 126 bytes, all zero for an ABSENT entry
(R1, R2). `old` is what stands in the memory, from which unchanged axis records are kept. -/
def exhibitBytes (s : State) (e : Nat) (old : List Byte) : List Byte :=
  let x := s.ex e
  match x.state with
  | .absent => bytesOf 126 0
  | _ =>
    entryBytes s e x ++ runBytes s e x ++ captureBytes x ++
    (List.range 4).flatMap (axisView s x (old.getD 0 0 == 0) old)

/-- The exhibit view in the memory; a cleared memory reads zero. -/
def State.exView (s : State) (e : Nat) : View (List Byte) :=
  lookup ⟨0, bytesOf 126 0⟩ s.views.exhibits e

/-- Exhibit view `e` as rewritten from its entry. -/
def newExView (s : State) (e : Nat) : View (List Byte) :=
  (s.exView e).put (exhibitBytes s e (s.exView e).body)

/-- Rewrite exhibit view `e` and set EXHIBITS if it changes (R2). -/
def publishExhibit (e : Nat) (s : State) : State :=
  { s with
    views := { s.views with exhibits := store s.views.exhibits e (newExView s e) }
    notice := s.notice ||| noticeIf (newExView s e != s.exView e) noticeExhibits }

/-! ### The other views -/

/-- The tally record of an input (R84). -/
def tallyBody (s : State) (i : Nat) : TallyBody where
  accepted := (s.inp i).accepted
  cls := match s.classOf i with | none => 0 | some c => c.code
  exhibit := (s.inp i).owner.getD 255
  presses := (s.inp i).presses
  acted := (s.inp i).acted
  declined := (s.inp i).declined
  suppressed := (s.inp i).suppressed
  tokens := match (s.inp i).bucket with | none => 0 | some b => b.tokens
  lastEvent := (s.inp i).lastEvent

/-- The group record of a power group (R148). -/
def groupBody (s : State) (g : Nat) : GroupBody :=
  let x := s.group g
  let h := headOf x.last x.wait
  { budget := x.budget, granted := x.granted, waiting := x.wait.length,
    head := (h.map (·.ex)).getD 255, headUnits := (h.map (·.units)).getD 0,
    last := x.last.getD 255 }

/-- The beacon record of a beacon table entry: its address, 0 for a FREE entry, and its display byte
(R168). An entry kept for a DARK owed since a PART RESET reads FREE (R169; log entry 21). -/
def beaconBody (s : State) (b : Nat) : BeaconBody :=
  let x := s.beacon b
  if x.readsFree then ⟨0, 0⟩
  else ⟨x.addr, match x.pattern with | none => 0 | some p => p + 1⟩

/-- The pattern that a call shows: folded while RINGING, the zone's acknowledged pattern after
(R156). The effective count is the smaller of the requested levels and the allocated count. -/
def callPattern (s : State) (c : Call) : Nat :=
  let z := s.zone (s.ex c.ex).call.zone
  match c.ack with
  | some _ => z.ack
  | none => z.base + (c.severity - 1) * min (s.ex c.ex).call.levels z.count / 4

/-- The call record of a call number after its edit count (section 11.11). -/
def callBytes (s : State) (n : Nat) : List Byte :=
  let x := s.callEntry n
  match x.call with
  | none => bytesOf 1 0 ++ bytesOf 1 x.gen ++ bytesOf 28 0
  | some c =>
    bytesOf 1 (match c.ack with | none => 1 | some _ => 2) ++ bytesOf 1 x.gen ++
    bytesOf 1 c.ex ++ bytesOf 1 c.cause.code ++ bytesOf 1 c.severity ++ bytesOf 1 c.tier ++
    bytesOf 4 c.raise.toNat ++ bytesOf 4 c.tierTick.toNat ++ tickBytes c.escalation ++
    tickBytes (c.ack.map (·.tick)) ++ tickBytes (c.ack.bind (·.holdExp)) ++
    bytesOf 1 c.repeats ++ bytesOf 1 ((c.ack.map (·.source.code)).getD 0) ++
    [(c.ack.map (·.tag)).getD 0] ++ bytesOf 1 (callPattern s c)

/-- The number of pending causes in the gallery (R153). -/
def pendingCount (s : State) : Nat :=
  ((keys s.exhibits).map (fun e =>
    ((s.ex e).causes.filter (fun c => c.state.isPending)).length)).sum

/-- What the link view shows of a node (R55). -/
def nodeView (n : Node) : NodeView := ⟨n.state.code, n.miss, n.status⟩

/-- The sampled levels of a channel's inputs (R137). -/
def levelsOf (c : Channel) : Levels := ⟨c.home, c.limit, c.ready, c.fault⟩

/-- The members of a table that show something else than its default record shows, so that listing a
record that shows nothing new changes no view. -/
def shownOf {α β : Type} [DecidableEq β] (f : α → β) (d : α) (t : Tab α) : Tab β :=
  t.filterMap (fun p => if f p.2 = f d then none else some (p.1, f p.2))

/-- The gallery header (R179). -/
def headerBody (s : State) : HeaderBody where
  mode := s.mode.code
  haltPin := s.haltPin
  linkMask := s.linkMask
  timeout := s.linkTimeout
  depth := s.depth
  nodes := shownOf nodeView .fresh s.nodes
  curPage := s.curPage.getD 255
  lastPage := s.lastPage.getD 255
  nextSeq := s.nextSeq
  free := freePlaces s
  largest := largestFree s
  pending := pendingCount s
  bad := s.badFrames
  stale := s.staleAcks
  levels := shownOf levelsOf .fresh s.channels
  control := s.control
  denial := s.denial
  dueCount := s.dueList.length

/-! ### Writing every changed record -/

/-- Rewrite the listed records of a table of views. -/
def putAll {α : Type} [DecidableEq α] (d : View α) (f : Nat → α → α) (ks : List Nat)
    (t : Tab (View α)) : Tab (View α) :=
  ks.foldl (fun t k =>
    let v := lookup d t k
    if v.body = f k v.body then t else store t k (v.put (f k v.body))) t

/-- The views as rewritten from the blocks' records. A record whose block has never written it is
not listed and stands at its reset value. -/
def newViews (s : State) : Views where
  header := s.views.header.put (headerBody s)
  exhibits := putAll ⟨0, bytesOf 126 0⟩ (fun e old => exhibitBytes s e old) (keys s.exhibits)
    s.views.exhibits
  calls := putAll ⟨0, bytesOf 30 0⟩ (fun n _ => callBytes s n) (keys s.calls) s.views.calls
  groups := putAll ⟨0, .fresh⟩ (fun g _ => groupBody s g) (keys s.groups) s.views.groups
  beacons := putAll ⟨0, ⟨0, 0⟩⟩ (fun b _ => beaconBody s b) (keys s.beacons) s.views.beacons
  tallies := putAll ⟨0, .fresh⟩ (fun i _ => tallyBody s i) (keys s.inputs) s.views.tallies

/-- The notices that rewriting the views sets: EXHIBITS for an exhibit view or the mode and pin in
the header (R2, R37), CALLS for a call or beacon record or one of the three counts (R168). -/
def viewNotices (v w : Views) : BitVec 6 :=
  noticeIf (v.exhibits != w.exhibits || v.header.body.mode != w.header.body.mode ||
    v.header.body.haltPin != w.header.body.haltPin) noticeExhibits |||
  noticeIf (v.calls != w.calls || v.beacons != w.beacons ||
    v.header.body.pending != w.header.body.pending || v.header.body.bad != w.header.body.bad ||
    v.header.body.stale != w.header.body.stale) noticeCalls

/-- Rewrite every record that has changed, and set the notices of the changes. -/
def publish (s : State) : State :=
  { s with views := newViews s, notice := s.notice ||| viewNotices s.views (newViews s) }

end Sys2Proof.Machine
end

