-- ==== Sys2Proof/Machine/Calls.lean ====
section
/-! DEFINITION. The call unit (chapter 9): raising, acknowledging and clearing causes, the call
table, beacon sets and the beacon choice. -/

namespace Sys2Proof.Machine

/-! ### Beacons -/

/-- The tier-1 beacons of every SET zone. -/
def allTier1 (s : State) : List Nat :=
  (keys s.zones).flatMap (fun z => if (s.zone z).isSet then (s.zone z).tier1 else [])

/-- The beacon set of a call, from its exhibit's zone and its tier (R154). -/
def beaconSet (s : State) (c : Call) : List Nat :=
  let z := s.zone (s.ex c.ex).call.zone
  let own := if z.isSet then z.tier1 else []
  let two := own ++ (if z.isSet then z.tier2 else [])
  if c.tier = 1 then own else if c.tier = 2 then two else two ++ allTier1 s

/-- One call is preferred to another at a beacon (R157): RINGING first, then the highest severity,
then the oldest raise tick, then the lowest call number. -/
def callBefore (now : Tick) (a b : Nat × Call) : Bool :=
  let ra := a.2.ack.isNone
  let rb := b.2.ack.isNone
  if ra != rb then ra
  else if a.2.severity ≠ b.2.severity then decide (b.2.severity < a.2.severity)
  else if (now - a.2.raise) ≠ (now - b.2.raise) then
    decide ((now - b.2.raise).toNat < (now - a.2.raise).toNat)
  else decide (a.1 < b.1)

/-- The calls in use, with their numbers, in ascending order. -/
def callsInUse (s : State) : List (Nat × Call) :=
  s.calls.filterMap (fun p => p.2.call.map (fun c => (p.1, c)))

/-- The call that a beacon address shows (R157). -/
def chosenCall (s : State) (addr : Nat) : Option (Nat × Call) :=
  ((callsInUse s).filter (fun p => (beaconSet s p.2).contains addr)).foldl
    (fun best p =>
      match best with
      | none => some p
      | some b => if callBefore s.tick p b then some p else best) none

/-- Make the choice of one beacon entry again: a changed pattern or a beacon newly lit owes a
BEACON and no DARK, and a lit beacon that goes dark owes a DARK (R157, R159). A DARK owed since a
PART RESET stays owed: it goes before any other frame (R169). -/
def rechooseEntry (s : State) (b : Beacon) : Beacon :=
  match chosenCall s b.addr with
  | none =>
    match b.pattern with
    | none => { b with shows := none }
    | some _ =>
      { b with shows := none, pattern := none, refresh := none, beaconOwed := false,
               darkOwed := true }
  | some (n, c) =>
    if b.pattern = some (callPattern s c) then { b with shows := some n }
    else
      { b with shows := some n, pattern := some (callPattern s c), beaconOwed := true,
               darkOwed := b.resetDark }

/-- Make the choice again for every beacon in use whose address satisfies a test (R157). -/
def rechoose (t : Nat → Bool) (s : State) : State :=
  (keys s.beacons).foldl (fun u b =>
    if (s.beacon b).named && t (s.beacon b).addr then u.modBeacon b (rechooseEntry s) else u) s

/-- Make the choice again for the beacons of a call. -/
def rechooseFor (addrs : List Nat) (s : State) : State := rechoose (fun a => addrs.contains a) s

/-! ### The cause set -/

/-- The record of a cause in an exhibit's cause set. -/
def Exhibit.causeRec (x : Exhibit) (c : Cause) : Option CauseRec :=
  x.causes.find? (fun r => r.cause == c)

/-- Put a cause's record into the cause set, replacing an earlier one. -/
def putCause (r : CauseRec) (x : Exhibit) : Exhibit :=
  { x with causes := x.causes.filter (fun q => q.cause != r.cause) ++ [r] }

/-- Take a cause out of the cause set. -/
def dropCause (c : Cause) (x : Exhibit) : Exhibit :=
  { x with causes := x.causes.filter (fun q => q.cause != c) }

/-- The lowest FREE call table entry. -/
def freeCall (s : State) : Option Nat :=
  (List.range 48).find? (fun n => (s.callEntry n).call.isNone)

/-- Enter a cause into a FREE entry: the generation rises by 1 modulo 16, the call rings at tier 1
from the present tick, and a call with an acknowledgement mark enters ACKNOWLEDGED (R152, R153). -/
def enterCall (n e : Nat) (cause : Cause) (p : Pending) (s : State) : State :=
  let z := s.zone (s.ex e).call.zone
  let call : Call :=
    { ex := e, cause := cause, severity := p.severity, tier := 1, raise := p.raise,
      tierTick := s.tick,
      escalation := match p.ack with | none => some (after s.tick (z.t1 * 1000)) | some _ => none,
      repeats := p.repeats, ack := p.ack }
  let s1 := s.modCall n (fun x => ⟨(x.gen + 1) % 16, some call⟩)
  let s2 := s1.modEx e (putCause ⟨cause, .entered n⟩)
  rechooseFor (beaconSet s2 call) s2

/-- The first pending cause: lowest exhibit, then lowest cause code (R153). -/
def firstPending (s : State) : Option (Nat × Cause × Pending) :=
  (keys s.exhibits).findSome? (fun e =>
    [Cause.help, .guardTrip, .motionFault, .nodeSilent, .ordered].findSome? (fun c =>
      match (s.ex e).causeRec c with
      | some ⟨_, .pending p⟩ => some (e, c, p)
      | _ => none))

/-- Free a call's entry, which keeps its generation, and choose its beacons again (R163). -/
def freeEntry (n : Nat) (s : State) : State :=
  match (s.callEntry n).call with
  | none => s
  | some c =>
    let addrs := beaconSet s c
    rechooseFor addrs (s.modCall n (fun x => { x with call := none }))

/-- Take a cause out of its set; an entered one frees its entry (R163). -/
def removeCause (e : Nat) (c : Cause) (s : State) : State :=
  match (s.ex e).causeRec c with
  | none => s
  | some ⟨_, .pending _⟩ => s.modEx e (dropCause c)
  | some ⟨_, .entered n⟩ => freeEntry n (s.modEx e (dropCause c))

/-- An acknowledged HELP call whose hold expiry is already due. -/
def helpExpired (now : Tick) (c : Cause) (p : Pending) : Bool :=
  c == .help && dueNow now (p.ack.bind (·.holdExp))

/-- Enter pending causes while an entry is FREE (R153); a HELP cause that enters with its hold
expiry already due is cleared at once (R163). At most 160 causes exist, which bounds the loop. -/
def fillEntries : Nat → State → State
  | 0, s => s
  | k + 1, s =>
    match freeCall s, firstPending s with
    | some n, some (e, c, p) =>
      let s1 := enterCall n e c p s
      fillEntries k (if helpExpired s.tick c p then removeCause e c s1 else s1)
    | _, _ => s

/-- The bound on entries made at one event. -/
def fillBound : Nat := 160

/-- Clear causes of several exhibits at one event: all leave their sets, then pending causes enter the
freed entries (R163, R153; log entry 34). DESIGN CHOICE, unsafe: no rule orders the causes of one
exhibit, and they are taken in the order of the list, the beacons of each being chosen again before the
next: as R83 names them at a key release, and by cause code elsewhere (log entry 54). -/
def clearCausesOf (es : List Nat) (cs : List Cause) (s : State) : State :=
  fillEntries fillBound (es.foldl (fun u e => cs.foldl (fun v c => removeCause e c v) u) s)

/-- Clear causes of an exhibit at one event (R163). -/
def clearCauses (e : Nat) (cs : List Cause) (s : State) : State := clearCausesOf [e] cs s

/-- Raise a cause (R152). `sev` is its severity, which only ORDERED takes from its order. -/
def raiseCause (e : Nat) (c : Cause) (sev : Nat) (s : State) : State :=
  let up (old : Nat) : Nat := if c = .ordered then max old sev else old
  match (s.ex e).causeRec c with
  | none =>
    let p : Pending := ⟨s.tick, 0, sev, none⟩
    match freeCall s with
    | some n => enterCall n e c p s
    | none => s.modEx e (putCause ⟨c, .pending p⟩)
  | some ⟨_, .pending p⟩ =>
    s.modEx e (putCause ⟨c, .pending
      { p with repeats := min 255 (p.repeats + 1), severity := up p.severity }⟩)
  | some ⟨_, .entered n⟩ =>
    match (s.callEntry n).call with
    | none => s
    | some call =>
      let call1 : Call :=
        { call with repeats := min 255 (call.repeats + 1), severity := up call.severity }
      let s1 := s.modCall n (fun x => { x with call := some call1 })
      rechooseFor (beaconSet s1 call1) s1

/-! ### Acknowledgement (R162) -/

/-- The acknowledgement record made now: a HELP cause takes a hold expiry from its zone. -/
def ackMark (s : State) (e : Nat) (c : Cause) (src : AckSource) (tag : Byte) : AckMark :=
  { tick := s.tick, source := src, tag := tag,
    holdExp := if c = .help then some (after s.tick ((s.zone (s.ex e).call.zone).hold * 1000))
               else none }

/-- Acknowledge the call of an entry in use; each beacon that now shows it owes a BEACON (R162). DESIGN
CHOICE, unsafe: 'each beacon that now shows the acknowledged pattern' is read as each beacon that shows
this call; one that shows another acknowledged call under an unchanged pattern owes none (log
entry 48). -/
def ackEntry (n : Nat) (src : AckSource) (tag : Byte) (s : State) : State :=
  match (s.callEntry n).call with
  | none => s
  | some c =>
    match c.ack with
    | some _ => s
    | none =>
      let c1 : Call := { c with ack := some (ackMark s c.ex c.cause src tag), escalation := none }
      let s1 := s.modCall n (fun x => { x with call := some c1 })
      let s2 := rechooseFor (beaconSet s1 c1) s1
      (keys s2.beacons).foldl (fun u b =>
        if (s2.beacon b).shows == some n then
          u.modBeacon b (fun x => { x with beaconOwed := true })
        else u) s2

/-- Acknowledge one cause of an exhibit, entered or pending. -/
def ackCause (e : Nat) (src : AckSource) (c : Cause) (s : State) : State :=
  match (s.ex e).causeRec c with
  | none => s
  | some ⟨_, .entered n⟩ => ackEntry n src 0 s
  | some ⟨_, .pending p⟩ =>
    match p.ack with
    | some _ => s
    | none => s.modEx e (putCause ⟨c, .pending { p with ack := some (ackMark s e c src 0) }⟩)

/-- Every cause, in code order. -/
def allCauses : List Cause := [.help, .guardTrip, .motionFault, .nodeSilent, .ordered]

/-- Acknowledge several causes of an exhibit at one event (R162). DESIGN CHOICE, unsafe: no rule orders the
calls and pending causes of one exhibit, and they are taken in the order of their cause codes (log
entry 51). -/
def ackCauses (e : Nat) (src : AckSource) (cs : List Cause) (s : State) : State :=
  cs.foldl (fun s c => ackCause e src c s) s

/-- The cause is in the set and not acknowledged. -/
def unacknowledged (s : State) (e : Nat) (c : Cause) : Bool :=
  match (s.ex e).causeRec c with
  | none => false
  | some ⟨_, .pending p⟩ => p.ack.isNone
  | some ⟨_, .entered n⟩ =>
    match (s.callEntry n).call with | none => false | some k => k.ack.isNone

/-- The HELP call is RINGING, or pending because the table is full (R40). -/
def helpRings (s : State) (e : Nat) : Bool :=
  match (s.ex e).causeRec .help with
  | none => false
  | some ⟨_, .pending _⟩ => true
  | some ⟨_, .entered n⟩ =>
    match (s.callEntry n).call with | none => false | some k => k.ack.isNone

/-! ### Expiries and frames -/

/-- A RINGING call climbs one tier (R155). -/
def escalate (n : Nat) (s : State) : State :=
  match (s.callEntry n).call with
  | none => s
  | some c =>
    if c.ack.isNone && dueNow s.tick c.escalation then
      let z := s.zone (s.ex c.ex).call.zone
      let c1 : Call :=
        { c with tier := c.tier + 1, tierTick := s.tick,
                 escalation := if c.tier + 1 = 2 then some (after s.tick (z.t2 * 1000)) else none }
      let s1 := s.modCall n (fun x => { x with call := some c1 })
      rechooseFor (beaconSet s1 c1) s1
    else s

/-- The hold expiry of an exhibit's acknowledged HELP cause, entered or pending (R163). -/
def helpHoldExpiry (s : State) (e : Nat) : Option Tick :=
  match (s.ex e).causeRec .help with
  | none => none
  | some ⟨_, .pending p⟩ => p.ack.bind (·.holdExp)
  | some ⟨_, .entered n⟩ => ((s.callEntry n).call.bind (·.ack)).bind (·.holdExp)

/-- The CHECK byte: the 8-bit sum of the bytes with CHECK is 0 (R50, R158). -/
def checkByte (bs : List Byte) : Byte := 0 - bs.foldl (· + ·) 0

/-- A BEACON frame (R158). -/
def beaconFrame (addr pattern call gen : Nat) : List Byte :=
  let body := [0x01, 0x04, BitVec.ofNat 8 addr, BitVec.ofNat 8 pattern, BitVec.ofNat 8 call,
    BitVec.ofNat 8 gen]
  0x55 :: body ++ [checkByte body]

/-- A DARK frame (R158). -/
def darkFrame (addr : Nat) : List Byte :=
  let body := [0x02, 0x01, BitVec.ofNat 8 addr]
  0x55 :: body ++ [checkByte body]

/-- A beacon entry owes a frame. -/
def Beacon.owes (b : Beacon) : Bool := b.addr != 0 && (b.beaconOwed || b.darkOwed)

/-- The entry the transmitter takes next: DARK frames owed since a PART RESET first, in table order
(R169), then cyclic entry order after the entry served last (R159). -/
def nextServed (s : State) : Option Nat :=
  match (List.range 64).find? (fun b => (s.beacon b).resetDark) with
  | some b => some b
  | none =>
    ((List.range 64).map (fun k => (s.lastServed + 1 + k) % 64)).find?
      (fun b => (s.beacon b).owes)

/-- Send the BEACON that the next entry owes (R159); a DARK due first is not passed by. -/
def sendBeacon (s : State) : State :=
  match nextServed s with
  | none => s
  | some b =>
    let x := s.beacon b
    match x.pattern, x.beaconOwed && !x.resetDark with
    | some p, true =>
      let n := x.shows.getD 0
      let s1 := s.modBeacon b (fun y =>
        { y with beaconOwed := false, refresh := some (after s.tick 2000) })
      { s1 with lastServed := b, attTx := beaconFrame x.addr p n (s.callEntry n).gen }
    | _, _ => s

/-- Send the DARK that the next entry owes and clear its mark; an entry kept only for it becomes
FREE (R159, R167, R169). -/
def sendDark (s : State) : State :=
  match nextServed s with
  | none => s
  | some b =>
    let x := s.beacon b
    if x.resetDark || (x.darkOwed && x.pattern.isNone) then
      let s1 := s.modBeacon b (fun y =>
        if y.named then { y with darkOwed := false, resetDark := false } else Beacon.free)
      { s1 with lastServed := b, attTx := darkFrame x.addr }
    else s

/-- A refresh expiry of a lit beacon falls due: a BEACON is owed again (R159). -/
def refreshDue (b : Nat) (s : State) : State :=
  if dueNow s.tick (s.beacon b).refresh && (s.beacon b).pattern.isSome then
    s.modBeacon b (fun x => { x with beaconOwed := true, refresh := none })
  else s

/-- Match a good ACK against the call table (R161). -/
def matchAck (call gen tag : Byte) (s : State) : State :=
  let x := s.callEntry call.toNat
  if call.toNat < 48 ∧ x.call.isSome ∧ x.gen = gen.toNat then ackEntry call.toNat .frame tag s
  else { s with staleAcks := s.staleAcks + 1 }

/-- Count a bad frame (R160). -/
def countBad (s : State) : State := { s with badFrames := s.badFrames + 1 }

/-- Judge a whole frame, given its bytes after SYNC: KIND, COUNT, payload, CHECK (R160). -/
def judgeFrame (bs : List Byte) (s : State) : State :=
  match bs with
  | [kind, cnt, call, gen, tag, chk] =>
    if kind = 0x81 ∧ cnt = 3 ∧ kind + cnt + call + gen + tag + chk = 0 then matchAck call gen tag s
    else countBad s
  | _ => countBad s

/-- Take one received byte (R160): hunt for SYNC, take KIND and COUNT, then COUNT payload bytes and
CHECK. A COUNT above 8 and a bad stop bit end the frame at that byte. -/
def receiveByte (b : RxByte) (s : State) : State :=
  match s.rx with
  | none => if b.val = 0x55 ∧ b.stopOk then { s with rx := some [] } else s
  | some bs =>
    let all := bs ++ [b.val]
    if !b.stopOk then countBad { s with rx := none }
    else if all.length = 2 ∧ 8 < b.val.toNat then countBad { s with rx := none }
    else if 2 ≤ all.length ∧ all.length = (all.getD 1 0).toNat + 3 then
      judgeFrame all { s with rx := none }
    else { s with rx := some all }

/-- Take one received byte; the byte that ends a frame, good or bad, is an event of its own and writes the
views that it changes (R168, R182). -/
def takeByte (s : State) (b : RxByte) : State :=
  let t := receiveByte b s
  if s.rx.isSome && t.rx.isNone then publish t else t

/-- Take received bytes in order. -/
def receiveBytes (bs : List RxByte) (s : State) : State := bs.foldl takeByte s

/-- The bytes of an ACK frame, each with a valid stop bit (R158). -/
def ackFrame (call gen tag : Byte) : List RxByte :=
  (0x55 :: [0x81, 0x03, call, gen, tag, checkByte [0x81, 0x03, call, gen, tag]]).map (⟨·, true⟩)

/-! ### SET ZONE (R167) -/

/-- The address positions of a tier list as a list. -/
def Addrs.toList (a : Addrs) : List Nat := [a.a0.toNat, a.a1.toNat, a.a2.toNat, a.a3.toNat]

/-- The tier-1 list of the parameters; unused positions are not read (section 11.6). -/
def ZoneParams.list1 (z : ZoneParams) : List Nat := (Addrs.toList z.tier1).take z.count1.toNat
/-- The tier-2 list of the parameters. -/
def ZoneParams.list2 (z : ZoneParams) : List Nat := (Addrs.toList z.tier2).take z.count2.toNat

/-- No member occurs twice. -/
def noRepeat : List Nat → Bool
  | [] => true
  | a :: r => !r.contains a && noRepeat r

/-- The distinct members of a list, in order of first occurrence. -/
def distinct : List Nat → List Nat → List Nat
  | acc, [] => acc
  | acc, a :: r => if acc.contains a then distinct acc r else distinct (acc ++ [a]) r

/-- A number lies in a range. -/
def inRange (lo hi v : Nat) : Bool := decide (lo ≤ v) && decide (v ≤ hi)

/-- The parameters lie in the ranges of R154 and R167. -/
def zoneParamsOk (z : ZoneParams) : Bool :=
  inRange 0 15 z.zone.toNat && inRange 1 4 z.count1.toNat && inRange 0 4 z.count2.toNat &&
  (ZoneParams.list1 z ++ ZoneParams.list2 z).all (inRange 1 254) &&
  noRepeat (ZoneParams.list1 z ++ ZoneParams.list2 z) &&
  inRange 5 600 z.t1.toNat && inRange 5 600 z.t2.toNat && inRange 0 15 z.base.toNat &&
  [1, 2, 4].contains z.count.toNat && z.base.toNat % z.count.toNat == 0 &&
  inRange 0 15 z.ack.toNat && inRange 10 600 z.hold.toNat

/-- The zone record of the parameters. -/
def zoneOf (z : ZoneParams) : Zone :=
  ⟨true, ZoneParams.list1 z, ZoneParams.list2 z, z.t1.toNat, z.t2.toNat, z.base.toNat, z.count.toNat, z.ack.toNat,
   z.hold.toNat⟩

/-- The distinct addresses that the SET zones name. -/
def namedAddrs (s : State) : List Nat :=
  distinct [] ((keys s.zones).flatMap (fun k =>
    if (s.zone k).isSet then (s.zone k).tier1 ++ (s.zone k).tier2 else []))

/-- The state with a zone record replaced. -/
def withZone (z : ZoneParams) (s : State) : State :=
  { s with zones := store s.zones z.zone.toNat (zoneOf z) }

/-- A beacon entry whose address no zone names: a lit one, or one that owes a DARK, is kept with
the mark until its DARK has gone; any other becomes FREE (R167). -/
def giveUp (b : Beacon) : Beacon :=
  if b.pattern.isSome || b.darkOwed then
    { b with named := false, shows := none, pattern := none, refresh := none, beaconOwed := false,
             darkOwed := true }
  else .free

/-- The entries of addresses that no zone names any longer give up their addresses. -/
def giveUpUnnamed (s : State) : State :=
  (keys s.beacons).foldl (fun u b =>
    if (s.beacon b).addr != 0 && !(namedAddrs s).contains (s.beacon b).addr then
      u.modBeacon b giveUp
    else u) s

/-- The entry that holds an address. -/
def entryOf (s : State) (a : Nat) : Option Nat :=
  (List.range 64).find? (fun b => (s.beacon b).addr == a)

/-- An address takes its entry: one kept for its owed DARK again, which its record then shows, else the
lowest FREE one (R157; log entry 22). -/
def claimAddr (a : Nat) (s : State) : State :=
  match entryOf s a with
  | some b => s.modBeacon b (fun x => { x with named := true, readsFree := false })
  | none =>
    match (List.range 64).find? (fun b => (s.beacon b).addr == 0) with
    | none => s
    | some b => s.modBeacon b (fun _ => { Beacon.free with addr := a, named := true })

/-- The entries kept for an owed DARK under addresses that no zone names. -/
def keptCount (s : State) : Nat :=
  ((List.range 64).filter (fun b => (s.beacon b).addr != 0 && !(s.beacon b).named)).length

/-- The named addresses and the kept entries of a SET ZONE would exceed the table (R167). -/
def zoneFull (z : ZoneParams) (s : State) : Bool :=
  let s1 := giveUpUnnamed (withZone z s)
  decide (64 < (namedAddrs s1).length +
    ((List.range 64).filter (fun b => (s1.beacon b).addr != 0 &&
      !(namedAddrs s1).contains (s1.beacon b).addr)).length)

/-- The effect of an accepted SET ZONE on the tables (R167). -/
def applyZone (z : ZoneParams) (s : State) : State :=
  let s1 := giveUpUnnamed (withZone z s)
  rechoose (fun _ => true)
    ((ZoneParams.list1 z ++ ZoneParams.list2 z).foldl (fun u a => claimAddr a u) s1)

/-- The number of beacon addresses in use (R167). -/
def beaconsInUse (s : State) : Nat :=
  ((List.range 64).filter (fun b => (s.beacon b).named)).length

end Sys2Proof.Machine
end

