-- ==== Sys2Proof/Machine/Motion.lean ====
section
/-! DEFINITION. The motion unit (chapter 7): the axis channel's profile, pulses, starts, braking,
trip stop, release, homing. -/

namespace Sys2Proof.Machine

/-! ### One channel -/

/-- Move the position, issuing one STEP pulse for each change of floor(p / 1000) (R123). -/
def movePosition (c : Channel) (p : Int) : Channel :=
  { c with p := p, pulses := c.pulses + (p / 1000 - c.p / 1000).natAbs }

/-- End the held move: the channel is IDLE with no move (R117). -/
def endMove (c : Channel) : Channel :=
  { c with state := .idle, kind := none, phase := none, v := 0, target := none, counter := 0,
           exp := 0 }

/-- The position a number of milli-steps further in the channel's direction. -/
def ahead (c : Channel) (d : Nat) : Int :=
  match c.dir with
  | .up => c.p + d
  | .down => c.p - d

/-- Arrival at the target (R121): the position is exactly the target; with the confirm flag set the
channel is CONFIRMING until DRV_READY is active, at once if it is active already (R124). -/
def arriveAt (a : AxisRec) (t : Int) (c : Channel) : Channel :=
  let c1 := movePosition c (t * 1000)
  if a.confirm && !c.ready then { c1 with state := .confirming, v := 0, phase := none }
  else endMove c1

/-- Set an axis at its home position; a position that is set issues no pulse (R133, R123). -/
def setHome (a : AxisRec) (c : Channel) : Channel := { endMove c with p := a.home * 1000 }

/-- The remaining distance to the target, in milli-steps. -/
def remaining (c : Channel) (t : Int) : Nat := (t * 1000 - c.p).natAbs

/-- The stopping distance from velocity `v`, in milli-steps (R120). -/
def stoppingDistance (v delta : Nat) : Nat := v * v / (2 * delta)

/-- The phase latches in RAMP DOWN once the stopping distance meets the remaining one (R120). -/
def rampsDown (a : AxisRec) (c : Channel) (t : Int) : Bool :=
  c.phase == some .rampDown || decide (remaining c t ≤ stoppingDistance c.v a.delta)

/-- The new velocity of a tick (R120 steps 3 and 4). -/
def nextVelocity (a : AxisRec) (c : Channel) (t : Int) : Nat :=
  if rampsDown a c t then max (c.v - a.delta) a.vmin
  else min (max (c.v + a.delta) a.vmin) c.vc

/-- The new phase of a tick (R120 steps 3 and 4). -/
def nextPhase (a : AxisRec) (c : Channel) (t : Int) : Phase :=
  if rampsDown a c t then .rampDown else if nextVelocity a c t = c.vc then .cruise else .rampUp

/-- One motion tick of a MOVING channel with a WAYPOINT move, before the counter (R120). -/
def waypointTick (a : AxisRec) (t : Int) (c : Channel) : Channel :=
  let v := nextVelocity a c t
  if remaining c t ≤ v then arriveAt a t c
  else { movePosition c (ahead c v) with v := v, phase := some (nextPhase a c t) }

/-- One motion tick of a MOVING channel with a HOMING move, before the counter (R133). -/
def homingStep (a : AxisRec) (c : Channel) : Channel :=
  let v := min (max (c.v + a.delta) a.vmin) c.vc
  { movePosition c (ahead c v) with
      v := v, phase := some (if v = c.vc then .cruise else .rampUp) }

/-- Come to rest short of the end of a move, which stays held (R128, R131). -/
def stopShort (c : Channel) : Channel := { c with state := .stopped, v := 0, phase := none }

/-- One braking tick, before the counter (R128). -/
def brakingStep (a : AxisRec) (c : Channel) : Channel :=
  if c.v < a.vmin + a.delta then stopShort c
  else
    let v := c.v - a.delta
    match c.kind, c.target with
    | some .waypoint, some t =>
      if remaining c t ≤ v then arriveAt a t c else { movePosition c (ahead c v) with v := v }
    | _, _ => { movePosition c (ahead c v) with v := v }

/-- Whether the deadline counter counts at a tick, by the state after the profile step (R125). -/
def counts (c : Channel) : Bool :=
  c.state == .moving || c.state == .confirming ||
    (c.state == .braking && c.kind == some .homing)

/-- Advance the deadline counter (R125). -/
def countTick (c : Channel) : Channel :=
  if counts c then { c with counter := c.counter + 1 } else c

/-- The move has overrun: its counter has reached the limit and it still holds its move (R126). -/
def overran (c : Channel) : Bool := counts c && c.counter == c.limitTicks

/-- Trip stop (R131). -/
def tripChannel (c : Channel) : Channel := if c.isMoving then stopShort c else c

/-- Ask a channel to brake (R127): a MOVING channel enters BRAKING. -/
def brakeChannel (c : Channel) : Channel :=
  if c.state = .moving then { c with state := .braking } else c

/-- A position put back inside the travel limits (R134). -/
def clampPosition (a : AxisRec) (p : Int) : Int := max (a.low * 1000) (min p (a.high * 1000))

/-- Release a held move: the channel is IDLE where it stands; an unset HOMING move is brought back
inside the travel limits (R129, R134). -/
def releaseChannel (a : AxisRec) (c : Channel) : Channel :=
  match c.kind with
  | none => c
  | some .waypoint => endMove c
  | some .homing => { endMove c with p := clampPosition a c.p }

/-- Cruise speed of a waypoint move (R119). -/
def cruiseSpeed (a : AxisRec) (percent : Nat) : Nat := max a.vmin (a.vmax * percent / 100)

/-- The target clamped into the travel limits (R104). -/
def clampTarget (a : AxisRec) (t : Int) : Int := max a.low (min t a.high)

/-- Start a WAYPOINT move on a channel whose start check has passed (R119). An earlier held move is
replaced; a channel already at the target arrives at the start. DESIGN CHOICE, unsafe: with p equal to
T × 1,000 the rule gives no direction, and the channel keeps the one it had (log entry 47). -/
def startWaypoint (a : AxisRec) (t : Int) (percent exp : Nat) (c : Channel) : Channel :=
  let c1 : Channel :=
    { c with state := .moving, kind := some .waypoint, phase := some .rampUp, v := 0,
             target := some t, vc := cruiseSpeed a percent, counter := 0, exp := exp,
             dir := if c.p < t * 1000 then .up else if t * 1000 < c.p then .down else c.dir }
  if c.p = t * 1000 then arriveAt a t c1 else c1

/-- The direction of a homing move (R132). -/
def homingDir (a : AxisRec) : Dir :=
  match a.dir with
  | .towardLow => .down
  | .towardHigh => .up

/-- Start a HOMING move; an axis whose HOME is active is set at once (R132). -/
def startHoming (a : AxisRec) (c : Channel) : Channel :=
  if c.home then setHome a c
  else
    { c with state := .moving, kind := some .homing, phase := some .rampUp, v := 0, target := none,
             vc := a.homeSpeed, counter := 0, exp := a.homeExp, dir := homingDir a }

/-- Resume a STOPPED move from rest with its counter kept (R130). A homing axis whose HOME has become
active meanwhile is set at once (R133; log entry 14). A STOPPED channel is never at its target, since it
would have arrived there (R128). -/
def resumeMove (a : AxisRec) (c : Channel) : Channel :=
  match c.kind with
  | none => c
  | some .homing =>
    if c.home then setHome a c
    else { c with state := .moving, phase := some .rampUp, v := 0, dir := homingDir a }
  | some .waypoint =>
    let t := c.target.getD 0
    { c with state := .moving, phase := some .rampUp, v := 0,
             dir := if c.p < t * 1000 then .up else .down }

/-- An unowned channel after either reset, its sampled inputs kept (R116). -/
def unowned (c : Channel) : Channel :=
  { Channel.fresh with home := c.home, limit := c.limit, ready := c.ready, fault := c.fault,
                       pulses := c.pulses }

/-- A channel as BRING UP EXHIBIT claims it (R116). -/
def claimedBy (e : Nat) (a : AxisRec) (c : Channel) : Channel :=
  { unowned c with owner := some e, slot := a.slot, axis := some a, p := a.home * 1000 }

/-! ### All the axes of an exhibit -/

/-- Apply a change to the channel of every axis of an exhibit. -/
def modAxes (e : Nat) (f : AxisRec → Channel → Channel) (s : State) : State :=
  (s.ex e).axes.foldl (fun s a => s.modCh a.channel (f a)) s

/-- Brake every MOVING axis of an exhibit (R127). -/
def brakeAxes (e : Nat) (s : State) : State := modAxes e (fun _ => brakeChannel) s

/-- Trip-stop every moving axis of an exhibit (R131). -/
def tripAxes (e : Nat) (s : State) : State := modAxes e (fun _ => tripChannel) s

/-- Release every held move of an exhibit (R129). -/
def releaseAxes (e : Nat) (s : State) : State := modAxes e releaseChannel s

/-- Energise every axis of an exhibit (R118). -/
def energiseAxes (e : Nat) (s : State) : State :=
  modAxes e (fun _ c => { c with energised := true }) s

/-- De-energise every axis of an exhibit; a held move is released (R118, R134). -/
def deenergiseAxes (e : Nat) (s : State) : State :=
  modAxes e (fun a c => { releaseChannel a c with energised := false }) s

/-- The axes of an exhibit at a list of axis slots, lowest slot first. -/
def axesOf (s : State) (e : Nat) (slots : List Nat) : List AxisRec :=
  ((s.ex e).axisSlots.filter (fun k => slots.contains k)).filterMap (fun k => (s.ex e).axisAt k)

/-- A fault report of an axis, with its channel's position and a velocity (R170). -/
def reportOf (s : State) (k : FaultKind) (a : AxisRec) (v : Nat) : FaultReport :=
  ⟨k, a.slot, a.channel, (s.ch a.channel).steps, v⟩

/-- The lowest of some axes whose channel satisfies a test. -/
def lowestWith (s : State) (axes : List AxisRec) (t : Channel → Bool) : Option AxisRec :=
  axes.find? (fun a => t (s.ch a.channel))

/-- The start check over the axes of a movement (R119): LIMIT HIT if any has LIMIT active, otherwise
DRIVER FAULT if any has DRV_FAULT active, naming the lowest failing axis slot. -/
def startCheck (s : State) (axes : List AxisRec) : Option FaultReport :=
  match lowestWith s axes (fun c => c.limit) with
  | some _ =>
    (lowestWith s axes (fun c => c.limit || c.fault)).map (fun a => reportOf s .limitHit a 0)
  | none => (lowestWith s axes (fun c => c.fault)).map (fun a => reportOf s .driverFault a 0)

end Sys2Proof.Machine
end

