-- ==== Sys2Proof/Machine/Exhibits.lean ====
section
/-! DEFINITION. The exhibit manager: states and their entries (chapter 2), runs (chapter 6), first and
later faults (chapter 10), homing, holds, stops, lockouts, rest and wake. -/

namespace Sys2Proof.Machine

/-! ### Entering a state -/

/-- Enter a state other than BRAKING and HELD. The rest timer runs in READY alone (R32), a braking
target and a held activity only toward HELD or in HELD. A state passed through is written into the
view (R21). -/
def enter (e : Nat) (st : ExState) (s : State) : State :=
  publishExhibit e (s.modEx e (fun x =>
    { x with state := st, restTimer := none, target := none, heldAct := none }))

/-- Enter BRAKING with a target, and a held activity for target HELD (R27). -/
def enterBraking (e : Nat) (t : Target) (a : Option Activity) (s : State) : State :=
  publishExhibit e (s.modEx e (fun x =>
    { x with state := .braking, restTimer := none, target := some t, heldAct := a }))

/-- Enter HELD with a held activity (R28). -/
def enterHeld (e : Nat) (a : Activity) (s : State) : State :=
  publishExhibit e (s.modEx e (fun x =>
    { x with state := .held, restTimer := none, target := none, heldAct := some a }))

/-- Start the rest timer of a READY exhibit: only with a nonzero delay and every mat inactive
(R32). -/
def startRest (e : Nat) (s : State) : State :=
  if (s.ex e).rest.delay ≠ 0 ∧ s.matActive e = false then
    s.modEx e (fun x => { x with restTimer := some (after s.tick (x.rest.delay * 1000)) })
  else s

/-! ### Endings -/

/-- End the current run: its naming ends, and an order origin that has not completed completes with
the count of waypoints finished (R109, R111). -/
def endRun (e : Nat) (out : OrderOutcome) (s : State) : State :=
  match (s.ex e).run with
  | none => s
  | some r =>
    let s1 := decUse r.routine (s.modEx e (fun x => { x with run := none }))
    if r.originDone then s1 else completeOrigin r.origin out (BitVec.ofNat 32 r.finished) s1

/-- Drop the queued start: its naming ends and an order origin completes (R75; result 0, log
entry 17). -/
def dropQueued (e : Nat) (out : OrderOutcome) (s : State) : State :=
  match (s.ex e).queued with
  | none => s
  | some q =>
    completeOrigin q.origin out 0 (decUse q.routine (s.modEx e (fun x => { x with queued := none })))

/-- Set the queued start (R75): a replaced order origin completes SUPERSEDED, and the in-use counts
follow. The new naming is counted before the old one ends, so that the same routine's count does
not change. -/
def setQueued (e : Nat) (q : Queued) (s : State) : State :=
  let old := (s.ex e).queued
  let s1 := incUse q.routine (s.modEx e (fun x => { x with queued := some q }))
  match old with
  | none => s1
  | some o => completeOrigin o.origin .superseded 0 (decUse o.routine s1)

/-- The homing activity ends: a BRING UP EXHIBIT or HOME EXHIBIT order waiting on it completes
(R14, R45). -/
def endHomingOrder (e : Nat) (out : OrderOutcome) (s : State) : State :=
  match (s.ex e).homingOrder with
  | none => s
  | some h => complete h.slot out h.result (s.modEx e (fun x => { x with homingOrder := none }))

/-- Complete the STOP EXHIBIT orders that wait on braking (R47). -/
def endStopOrders (e : Nat) (out : OrderOutcome) (s : State) : State :=
  completeAll (s.ex e).stopOrders out (s.modEx e (fun x => { x with stopOrders := [] }))

/-- Complete the LOCK OUT orders that wait for LOCKED OUT (R44). -/
def endLockOrders (e : Nat) (out : OrderOutcome) (s : State) : State :=
  completeAll (s.ex e).lockOrders out (s.modEx e (fun x => { x with lockOrders := [] }))

/-- Enter LOCKED OUT with a lockout reason present (R25): the axes are de-energised, all units
returned, the rest timer stopped, and a LOCK OUT order completes DONE. -/
def lockDown (e : Nat) (s : State) : State :=
  endLockOrders e .done
    (enter e .lockedOut (returnAll e (deenergiseAxes e
      (s.modEx e (fun x => { x with wakePending := false })))))

/-! ### Faults (chapter 10) -/

/-- The capture record of a report (R171). -/
def captureOf (s : State) (e : Nat) (r : FaultReport) : Capture :=
  let x := s.ex e
  { report := r, tick := s.tick, before := x.state,
    routine := (x.run.map (·.routine)).getD 255, index := (x.run.map (·.index)).getD 255 }

/-- Steps 1 to 6 of the first fault (R172). -/
def firstFault (e : Nat) (r : FaultReport) (s : State) : State :=
  let s1 := s.modEx e (fun x => { x with capture := some (captureOf s e r), laterFaults := 0 })
  let s2 := tripAxes e s1
  let s3 := endStopOrders e .faulted (endHomingOrder e .faulted (endRun e .faulted s2))
  let s4 := dropQueued e .faulted (releaseAxes e s3)
  let s5 := returnRun e (withdraw e s4)
  raiseCause e r.kind.cause r.kind.cause.severity s5

/-- The exhibit is BRAKING toward LOCKED OUT. -/
def Exhibit.brakingToLock (x : Exhibit) : Bool :=
  x.state == .braking && x.target == some .lockedOut

/-- A fault report reaches the fault capture (R172, R174). None is handed for an exhibit with retire
pending (R18, R170). A fault during braking toward LOCKED OUT ends LOCKED OUT with the record full,
or FAULTED if the lockout reasons have emptied (R27). -/
def takeFault (e : Nat) (r : FaultReport) (s : State) : State :=
  let x := s.ex e
  if !x.installed || x.retire.isSome then s
  else
    match x.capture with
    | some _ => s.modEx e (fun y => { y with laterFaults := min 255 (y.laterFaults + 1) })
    | none =>
      let s1 := firstFault e r s
      if x.brakingToLock && !x.lock.isEmpty then lockDown e s1
      else endLockOrders e .faulted (enter e .faulted s1)

/-- The report of energising an exhibit's axes: DRIVER FAULT, naming the lowest axis slot whose
DRV_FAULT is active (R118). -/
def energiseReport (s : State) (e : Nat) : Option FaultReport :=
  (lowestWith s (axesOf s e (s.ex e).axisSlots) (fun c => c.fault)).map
    (fun a => reportOf s .driverFault a 0)

/-- Take the fault of energising, if there is one (R118). -/
def energiseFault (e : Nat) (s : State) : State :=
  match energiseReport s e with
  | some r => takeFault e r s
  | none => s

/-- The start check over the axes of a movement. At a grant that energises, one DRIVER FAULT stands
for it and for the energising, and names the lowest faulty axis slot of the exhibit (R118, R119). -/
def movementCheck (s : State) (e : Nat) (axes : List AxisRec) (energising : Bool) :
    Option FaultReport :=
  match startCheck s axes with
  | some r => if r.kind = .driverFault && energising then energiseReport s e else some r
  | none => none

/-- Take the fault of a failed start check. An energising that also finds DRV_FAULT beside a LIMIT HIT
hands its DRIVER FAULT after it (log entry 15). -/
def checkFault (e : Nat) (energising : Bool) (r : FaultReport) (s : State) : State :=
  let s1 := takeFault e r s
  if energising && r.kind = .limitHit then
    match energiseReport s e with
    | some d => takeFault e d s1
    | none => s1
  else s1

/-! ### Runs (section 6.4) -/

/-- How a waypoint's beginning ended. -/
inductive Begun where
  | rest | dwellDue | refused
  deriving DecidableEq, Repr

/-- The axis slots that the run's present waypoint moves: those of its mask that the exhibit has
(R104). -/
def runSlots (s : State) (x : Exhibit) (r : Run) : List Nat :=
  x.axisSlots.filter (fun k => (s.waypoint r.routine r.index).mask.getLsbD k)

/-- The commanded target of an axis at the present waypoint, unclamped. -/
def runTarget (s : State) (r : Run) (k : Nat) : Int :=
  (s.waypoint r.routine r.index).targets.getD k 0

/-- How many targets of the present waypoint clamping changes (R104). -/
def clampedCount (s : State) (e : Nat) (r : Run) : Nat :=
  ((axesOf s e (runSlots s (s.ex e) r)).filter (fun a =>
    clampTarget a (runTarget s r a.slot) != runTarget s r a.slot)).length

/-- Change the current run. -/
def modRun (e : Nat) (f : Run → Run) (s : State) : State :=
  s.modEx e (fun x => { x with run := x.run.map f })

/-- Form the present waypoint's movement (R104): every axis is marked not arrived, and the clamp
count counts the targets that clamping changes. -/
def formWaypoint (e : Nat) (s : State) : State :=
  match (s.ex e).run with
  | none => s
  | some r =>
    modRun e (fun r => { r with phase := .waitingGrant, started := false, arrived := [],
                                dwell := none, dwellLeft := none })
      (s.modEx e (fun x => { x with clamp := x.clamp + BitVec.ofNat 32 (clampedCount s e r) }))

/-- Pulse a cue line: active until 100 ms from now; line 0 pulses none (R106). -/
def pulseCue (c : Nat) (s : State) : State :=
  if c = 0 then s else { s with cues := store s.cues c (some (after s.tick 100)) }

/-- Every axis of the present waypoint has arrived. -/
def allArrived (s : State) (e : Nat) : Bool :=
  match (s.ex e).run with
  | none => false
  | some r => (runSlots s (s.ex e) r).all (fun k => r.arrived.contains k)

/-- The last axis of the waypoint has arrived (R107): the run units are returned and the dwell
begins; a dwell of 0 is due at once. -/
def arrivedAll (e : Nat) (s : State) : State × Begun :=
  match (s.ex e).run with
  | none => (s, .rest)
  | some r =>
    let w := s.waypoint r.routine r.index
    (modRun e (fun r => { r with phase := .dwelling, dwell := some (after s.tick w.dwell) })
      (returnRun e s), if w.dwell = 0 then .dwellDue else .rest)

/-- A RUN ROUTINE without COMPLETE AT END completes DONE at the grant of its run's first waypoint
(R105). -/
def completeAtGrant (e : Nat) (s : State) : State :=
  match (s.ex e).run with
  | none => s
  | some r =>
    if !r.atEnd && !r.originDone && originIsOrder r.origin then
      completeOrigin r.origin .done 0 (modRun e (fun r => { r with originDone := true }) s)
    else s

/-- Start the axes of the present waypoint after a passed check; those at their target arrive at
once (R105, R119). The view is written at the start (R137). -/
def startRunAxes (e : Nat) (r : Run) (axes : List AxisRec) (s : State) : State :=
  let w := s.waypoint r.routine r.index
  let s1 := axes.foldl (fun u a => u.modCh a.channel
    (startWaypoint a (clampTarget a (runTarget s r a.slot)) w.percent w.exp)) s
  publishExhibit e (modRun e (fun q => { q with
    arrived := q.arrived ++
      (axes.filter (fun a => (s1.ch a.channel).state == .idle)).map (·.slot) }) s1)

/-- The grant of a waypoint's claim (R105): the cue is pulsed and the axes start together. Where the
grant energises and an axis outside the movement has DRV_FAULT active, the DRIVER FAULT is handed once
the moves have started, and trip-stops them (R118; log entry 15). -/
def waypointGranted (e : Nat) (energising : Bool) (s : State) : State × Begun :=
  match (s.ex e).run with
  | none => (s, .rest)
  | some r =>
    let s1 := modRun e (fun r => { r with phase := .moving, started := true }) s
    let s2 := completeAtGrant e (pulseCue (s.waypoint r.routine r.index).cue s1)
    let axes := axesOf s2 e (runSlots s (s.ex e) r)
    match movementCheck s2 e axes energising with
    | some f => (checkFault e energising f s2, .rest)
    | none =>
      let s3 := startRunAxes e r axes s2
      if energising && (energiseReport s3 e).isSome then (energiseFault e s3, .rest)
      else if allArrived s3 e then arrivedAll e s3
      else (s3, .rest)

/-- Begin the present waypoint (R104): a claim above 0 goes to the arbiter, a claim of 0 is granted
at once. -/
def beginOnce (e : Nat) (s : State) : State × Begun :=
  match (s.ex e).run with
  | none => (s, .rest)
  | some r =>
    let claim := (s.ex e).runUnits (runSlots s (s.ex e) r)
    let s1 := formWaypoint e s
    if claim = 0 then waypointGranted e false s1
    else
      let q := request e claim .waypoint s1
      (q.1, if q.2 then .refused else .rest)

/-- The run that a start begins (R103). -/
def newRun (s : State) (routine : Nat) (o : Origin) (atEnd : Bool) : Run where
  routine := routine
  index := 0
  loopLeft :=
    match (s.routine routine).installed with
    | none => none
    | some c => if c.loop = 0 then none else some c.loop
  origin := o
  originDone := false
  atEnd := atEnd
  phase := .waitingGrant
  dwell := none
  dwellLeft := none
  started := false
  arrived := []
  finished := 0

/-- Give the exhibit a run and make it RUNNING (R103). -/
def beginRun (e routine : Nat) (o : Origin) (atEnd : Bool) (s : State) : State :=
  enter e .running (s.modEx e (fun x => { x with run := some (newRun s routine o atEnd) }))

/-- The queued start becomes the current run; its naming goes with it (R75, R103). -/
def beginQueued (e : Nat) (q : Queued) (s : State) : State :=
  beginRun e q.routine q.origin q.atEnd (s.modEx e (fun x => { x with queued := none }))

/-- What an exhibit does on reaching READY: a queued start begins if no hold reason is present
(the answer is then true and its first waypoint is to begin), otherwise the rest timer starts
(R28, R30, R109). -/
def readyContinue (e : Nat) (s : State) : State × Bool :=
  match (s.ex e).queued with
  | some q => if (s.ex e).hold.isEmpty then (beginQueued e q s, true) else (startRest e s, false)
  | none => (startRest e s, false)

/-- A run's claim was refused as over budget (R110): the run ends, the moves that its axes still hold
after a hold are released (R129), and the exhibit enters READY. -/
def runRefused (e : Nat) (s : State) : State :=
  enter e .ready (releaseAxes e (endRun e .overBudget s))

/-- Begin the present waypoint, following refusals: a queued start that begins after one may be
refused in turn (R110). The answer says whether a dwell of 0 is due at once. -/
def beginWaypoint (e : Nat) (s : State) : State × Bool :=
  match beginOnce e s with
  | (s1, .rest) => (s1, false)
  | (s1, .dwellDue) => (s1, true)
  | (s1, .refused) =>
    match readyContinue e (runRefused e s1) with
    | (s2, false) => (s2, false)
    | (s2, true) =>
      match beginOnce e s2 with
      | (s3, .rest) => (s3, false)
      | (s3, .dwellDue) => (s3, true)
      | (s3, .refused) => ((readyContinue e (runRefused e s3)).1, false)

/-- The run has passed its last waypoint (R109). The answer says whether a queued start began. -/
def finishRun (e : Nat) (s : State) : State × Bool :=
  readyContinue e (enter e .ready (endRun e .done s))

/-- Go on after a finished waypoint: the next waypoint, the next pass, or the end of the run
(R108). The answer says whether a waypoint is to begin. -/
def advanceRun (e : Nat) (s : State) : State × Bool :=
  match (s.ex e).run with
  | none => (s, false)
  | some r =>
    let n := match (s.routine r.routine).installed with | none => 0 | some c => c.count
    if r.index + 1 < n then (modRun e (fun r => { r with index := r.index + 1 }) s, true)
    else
      match r.loopLeft with
      | none => (modRun e (fun r => { r with index := 0 }) s, true)
      | some k =>
        if 1 < k then (modRun e (fun r => { r with index := 0, loopLeft := some (k - 1) }) s, true)
        else finishRun e s

/-- The run waits for STEP after its present waypoint, but for the last waypoint of the last pass
(R108). -/
def waitsForStep (s : State) (r : Run) : Bool :=
  match (s.routine r.routine).installed with
  | none => false
  | some c =>
    (c.stepped || (s.waypoint r.routine r.index).pause) &&
      !(r.index + 1 == c.count && r.loopLeft == some 1)

/-- The dwell has ended: the waypoint is finished, and the run waits for STEP or goes on (R108). -/
def afterDwell (e : Nat) (s : State) : State × Bool :=
  match (s.ex e).run with
  | none => (s, false)
  | some r =>
    let s1 := modRun e (fun r => { r with finished := r.finished + 1, dwell := none }) s
    if waitsForStep s r then (modRun e (fun r => { r with phase := .waitingStep }) s1, false)
    else advanceRun e s1

/-- Dwells of 0 that follow one another at one event (R107, R108). A run that would never leave the
event is left DWELLING with its expiry due after this many waypoints (log entry 16). -/
def dwellChain : Nat → Nat → State → State
  | 0, _, s => s
  | n + 1, e, s =>
    match afterDwell e s with
    | (s1, false) => s1
    | (s1, true) =>
      match beginWaypoint e s1 with
      | (s2, false) => s2
      | (s2, true) => dwellChain n e s2

/-- More waypoints than two whole runs of 64 waypoints and 255 passes. -/
def chainBound : Nat := 40000

/-- Begin the present waypoint with all that follows at the same event. -/
def goWaypoint (e : Nat) (s : State) : State :=
  match beginWaypoint e s with
  | (s1, false) => s1
  | (s1, true) => dwellChain chainBound e s1

/-- Follow the end of an arrival: a dwell of 0 is due at the same event. -/
def goBegun (e : Nat) (r : State × Begun) : State :=
  match r with
  | (s, .dwellDue) => dwellChain chainBound e s
  | (s, _) => s

/-- Reach READY from a state already entered: begin the queued start or start the rest timer. -/
def readyNow (e : Nat) (s : State) : State :=
  match readyContinue e s with
  | (s1, false) => s1
  | (s1, true) => goWaypoint e s1

/-- Enter READY with all that follows at the same event. -/
def toReady (e : Nat) (s : State) : State := readyNow e (enter e .ready s)

/-- Begin a run on a READY exhibit (R103): its naming is counted. -/
def startRun (e routine : Nat) (o : Origin) (atEnd : Bool) (s : State) : State :=
  goWaypoint e (beginRun e routine o atEnd (incUse routine s))

/-- STEP reaches a run in WAITING STEP (R108). -/
def stepWaiting (e : Nat) (s : State) : State :=
  match advanceRun e s with
  | (s1, false) => s1
  | (s1, true) => goWaypoint e s1

/-! ### Homing (section 2.4) -/

/-- Every axis of the exhibit is set in the present homing. -/
def allSet (s : State) (e : Nat) : Bool :=
  (s.ex e).axes.all (fun a => (s.ex e).axesSet.contains a.slot)

/-- Homing ends with every axis set (R30): the run units are returned, the waiting order completes
DONE, and the exhibit enters READY. -/
def homingEnd (e : Nat) (s : State) : State :=
  toReady e (endHomingOrder e .done (returnRun e s))

/-- Mark axes as set in the present homing. -/
def markSet (e : Nat) (slots : List Nat) (s : State) : State :=
  s.modEx e (fun x => { x with axesSet := x.axesSet ++ slots.filter (fun k => !x.axesSet.contains k) })

/-- The slots of axes whose HOME is active. -/
def homeActiveSlots (s : State) (axes : List AxisRec) : List Nat :=
  (axes.filter (fun a => (s.ch a.channel).home)).map (·.slot)

/-- Start or resume the homing move on some axes after the start check (R132, R130). An axis with a
held HOMING move resumes it; any other starts anew. The view is written at the start (R137). -/
def homeAxes (e : Nat) (energising : Bool) (axes : List AxisRec) (s : State) : State :=
  match movementCheck s e axes energising with
  | some f => checkFault e energising f s
  | none =>
    let s1 := markSet e (homeActiveSlots s axes) s
    let s2 := axes.foldl (fun u a => u.modCh a.channel (fun c =>
      if c.state = .stopped ∧ c.kind = some .homing then resumeMove a c else startHoming a c)) s1
    let s3 := publishExhibit e s2
    if allSet s3 e then homingEnd e s3 else s3

/-- The grant of a homing claim (R30): de-energised axes are energised and the homing move starts on
every axis. A fresh homing discards held moves (R132). -/
def homingGranted (e : Nat) (s : State) : State :=
  let energising := !s.energised e
  let s1 := releaseAxes e (if energising then energiseAxes e s else s)
  homeAxes e energising (axesOf s1 e (s1.ex e).axisSlots) s1

/-- A homing claim was refused as over budget (R30, R145): ORDER enters the lockout reasons and the
exhibit is LOCKED OUT. A queued start is dropped as by a lockout (R24). -/
def homingRefused (e : Nat) (s : State) : State :=
  let s1 := endHomingOrder e .overBudget s
  let s2 := dropQueued e .stopped s1
  lockDown e (s2.modEx e (fun x => { x with lock := { x.lock with order := true } }))

/-- Ask for the homing claim of an exhibit in HOMING (R30). -/
def askHoming (e : Nat) (s : State) : State :=
  let x := s.ex e
  let claim := if s.energised e then x.runUnits x.axisSlots else x.allRunLoads
  if claim = 0 then homingGranted e s
  else
    let q := request e claim .homing s
    if q.2 then homingRefused e q.1 else q.1

/-- Enter HOMING (R30). With hold reasons present a de-energised exhibit defers its claim, and an
energised one enters HELD with held activity HOMING. DESIGN CHOICE, unsafe: such an exhibit goes
straight to HELD, and HOMING is not written into the view as a state passed through (R21; log
entry 44). -/
def enterHoming (e : Nat) (s : State) : State :=
  let s1 := s.modEx e (fun x => { x with axesSet := [] })
  if (s.ex e).hold.isEmpty then askHoming e (enter e .homing s1)
  else if s.energised e then enterHeld e .homing s1
  else enter e .homing s1

/-! ### Lockouts -/

/-- Leave LOCKED OUT with the lockout reasons empty (R26). -/
def leaveLockedOut (e : Nat) (s : State) : State :=
  if (s.ex e).axes.isEmpty then toReady e s else enterHoming e s

/-- Enter LOCKED OUT, and leave it at once if the lockout reasons have emptied (R25). -/
def enterLockedOut (e : Nat) (s : State) : State :=
  let s1 := lockDown e s
  if (s1.ex e).lock.isEmpty then leaveLockedOut e s1 else s1

/-- Add a lockout reason (R24). -/
def addLock (e : Nat) (r : LockReason) (s : State) : State :=
  let x := s.ex e
  if !x.installed || x.retire.isSome || x.lock.has r then s
  else
    let s1 := s.modEx e (fun x => { x with lock := x.lock.put r true })
    if x.state = .lockedOut ∨ x.brakingToLock = true then s1
    else
      let s2 := endHomingOrder e .stopped (endRun e .stopped s1)
      let s3 := endStopOrders e .stopped (dropQueued e .stopped s2)
      let s4 := (withdraw e s3).modEx e (fun x => { x with wakePending := false })
      if s4.anyMoving e then enterBraking e .lockedOut none (brakeAxes e s4)
      else enterLockedOut e s4

/-- Remove a lockout reason (R26): a LOCKED OUT exhibit whose set empties leaves LOCKED OUT. -/
def removeLock (e : Nat) (r : LockReason) (s : State) : State :=
  let x := s.ex e
  if !x.lock.has r then s
  else
    let s1 := s.modEx e (fun x => { x with lock := x.lock.put r false })
    if x.state = .lockedOut ∧ (x.lock.put r false).isEmpty = true then leaveLockedOut e s1 else s1

/-! ### Rest and wake (section 2.6) -/

/-- The units a wake asks for (R34): hold units plus the run units of the first movement. -/
def wakeUnits (s : State) (e : Nat) : Nat :=
  let x := s.ex e
  if x.axes.isEmpty then 0
  else if x.rest.rehome then x.allRunLoads
  else
    match x.queued with
    | none => x.holdUnits
    | some q => x.holdUnits + x.runUnits (runSlots s x (newRun s q.routine q.origin q.atEnd))

/-- The grant of a wake (R35). Energising with no movement is still a check on the drivers (R118). -/
def wakeGranted (e : Nat) (s : State) : State :=
  let x := s.ex e
  let s1 := energiseAxes e (s.modEx e (fun x => { x with wakePending := false }))
  if x.rest.rehome && !x.axes.isEmpty then
    let s2 := enter e .homing (s1.modEx e (fun x => { x with axesSet := [] }))
    homeAxes e true (axesOf s2 e (s2.ex e).axisSlots) s2
  else
    match x.queued with
    | some q => goBegun e (waypointGranted e true (formWaypoint e (beginQueued e q s1)))
    | none => energiseFault e (startRest e (enter e .ready s1))

/-- A wake was refused as over budget (R35): the exhibit stays RESTING and the queued start is
dropped. -/
def wakeRefused (e : Nat) (s : State) : State :=
  dropQueued e .overBudget (s.modEx e (fun x => { x with wakePending := false }))

/-- A wake of a RESTING exhibit without hold reasons (R34, R35). A wake already pending with the
same units has no effect; with new units the request is withdrawn and made again. The wake pending flag
is written into the view before the request, so that a refusal at its arrival shows (R21, R149). -/
def wake (e : Nat) (s : State) : State :=
  let x := s.ex e
  let units := wakeUnits s e
  if x.state ≠ .resting ∨ x.hold.isEmpty = false then s
  else if x.wakePending ∧ (s.request e).map (·.units) = some units then s
  else
    let s1 := publishExhibit e ((withdraw e s).modEx e (fun x => { x with wakePending := true }))
    if units = 0 then wakeGranted e s1
    else
      let q := request e units .wake s1
      if q.2 then wakeRefused e q.1 else q.1

/-- A READY exhibit's rest timer expires (R33). -/
def restExpired (e : Nat) (s : State) : State :=
  if (s.ex e).state = .ready ∧ dueNow s.tick (s.ex e).restTimer = true then
    enter e .resting (returnAll e (deenergiseAxes e s))
  else s

/-! ### Holds (section 2.2) -/

/-- The axes of the present waypoint that a resumption claims: not arrived and not CONFIRMING
(R29). -/
def resumeSlots (s : State) (e : Nat) (r : Run) : List Nat :=
  (axesOf s e ((runSlots s (s.ex e) r).filter (fun k => !r.arrived.contains k))).filterMap
    (fun a => if (s.ch a.channel).state = .confirming then none else some a.slot)

/-- The grant of a resumption of a run (R29, R130). A waypoint that had no grant before the hold
starts as at its first grant, cue pulse included (R106; log entry 13). -/
def resumeGranted (e : Nat) (s : State) : State × Begun :=
  match (s.ex e).run with
  | none => (s, .rest)
  | some r =>
    if !r.started then waypointGranted e false s
    else
      let axes := axesOf s e (resumeSlots s e r)
      match startCheck s axes with
      | some f => (takeFault e f s, .rest)
      | none =>
        (modRun e (fun r => { r with phase := .moving })
          (axes.foldl (fun u a => u.modCh a.channel (resumeMove a)) s), .rest)

/-- Leave HELD with held activity RUNNING and the waypoint's movement unfinished (R29). -/
def resumeMovement (e : Nat) (r : Run) (s : State) : State :=
  if allArrived s e then goBegun e (arrivedAll e s)
  else if (resumeSlots s e r).isEmpty then modRun e (fun r => { r with phase := .moving }) s
  else
    let claim := (s.ex e).runUnits (resumeSlots s e r)
    let s1 := modRun e (fun r => { r with phase := .waitingGrant }) s
    if claim = 0 then goBegun e (resumeGranted e s1)
    else
      let q := request e claim .resume s1
      if q.2 then readyNow e (runRefused e q.1) else q.1

/-- The axes not yet set in the present homing. -/
def unsetSlots (x : Exhibit) : List Nat := x.axisSlots.filter (fun k => !x.axesSet.contains k)

/-- The grant of a resumption of homing (R29, R130). -/
def resumeHoming (e : Nat) (s : State) : State :=
  homeAxes e false (axesOf s e (unsetSlots (s.ex e))) s

/-- An exhibit leaves HELD and returns to its held activity (R29). -/
def leaveHeld (e : Nat) (s : State) : State :=
  let x := s.ex e
  match x.heldAct with
  | none => s
  | some .homing =>
    let s1 := enter e .homing s
    let claim := x.runUnits (unsetSlots x)
    if claim = 0 then resumeHoming e s1
    else
      let q := request e claim .resume s1
      if q.2 then homingRefused e q.1 else q.1
  | some .running =>
    let s1 := enter e .running s
    match x.run with
    | none => s1
    | some r =>
      match r.phase, r.dwellLeft with
      | .waitingStep, _ => s1
      | .dwelling, some n =>
        modRun e (fun r => { r with dwell := some (after s.tick n), dwellLeft := none }) s1
      | .dwelling, none => s1
      | _, _ => resumeMovement e r s1

/-- The milliseconds that a dwell has left. -/
def dwellRemaining (now : Tick) (d : Option Tick) : Option Nat :=
  d.map (fun t => if isDue now t then 0 else (t - now).toNat)

/-- Pause a RUNNING exhibit that has no axis moving (R22): the request is withdrawn, run units held
for CONFIRMING axes are returned, and the remaining dwell is kept. -/
def pauseRun (e : Nat) (s : State) : State :=
  let s1 := returnRun e (withdraw e s)
  enterHeld e .running (modRun e (fun r =>
    { r with dwell := none, dwellLeft := dwellRemaining s.tick r.dwell }) s1)

/-- What adding a hold reason does in each state (R22). -/
def holdEffect (e : Nat) (s : State) : State :=
  let x := s.ex e
  match x.state with
  | .homing =>
    if s.anyMoving e then enterBraking e .held (some .homing) (brakeAxes e s)
    else if s.energised e then enterHeld e .homing (withdraw e s)
    else withdraw e s
  | .running =>
    if s.anyMoving e then enterBraking e .held (some .running) (brakeAxes e s)
    else pauseRun e s
  | .resting =>
    if x.wakePending then (withdraw e s).modEx e (fun x => { x with wakePending := false }) else s
  | _ => s

/-- Add a hold reason (R22). -/
def addHold (e : Nat) (r : HoldReason) (s : State) : State :=
  let x := s.ex e
  if !x.installed || x.retire.isSome || x.hold.has r then s
  else holdEffect e (s.modEx e (fun x => { x with hold := x.hold.put r true }))

/-- What the emptying of the hold reasons does in each state (R23). -/
def releaseEffect (e : Nat) (s : State) : State :=
  let x := s.ex e
  match x.state with
  | .homing => if s.energised e then s else askHoming e s
  | .held => leaveHeld e s
  | .ready =>
    match x.queued with
    | none => s
    | some _ => readyNow e s
  | .resting =>
    match x.queued with
    | none => s
    | some _ => wake e s
  | _ => s

/-- Remove a hold reason; removing one that is not in the set is no emptying (R23). -/
def removeHold (e : Nat) (r : HoldReason) (s : State) : State :=
  let x := s.ex e
  if !x.hold.has r then s
  else
    let s1 := s.modEx e (fun x => { x with hold := x.hold.put r false })
    if (x.hold.put r false).isEmpty then releaseEffect e s1 else s1

/-! ### The end of braking (R28, R129) -/

/-- Retire ends (R17): the axes are de-energised, all units returned, the channels unowned, and the
entry is ABSENT. -/
def finishRetire (e k : Nat) (s : State) : State :=
  let s1 := returnAll e (deenergiseAxes e s)
  let s2 := modAxes e (fun _ => unowned) s1
  complete k .done 0 (publishExhibit e (s2.modEx e (fun _ => .absent)))

/-- Braking ends (R28). -/
def brakingEnd (e : Nat) (s : State) : State :=
  let x := s.ex e
  match x.retire with
  | some k => finishRetire e k s
  | none =>
    match x.target with
    | none => s
    | some .held =>
      match x.heldAct with
      | none => s
      | some a =>
        if a = .homing ∧ allSet s e = true then homingEnd e s
        else
          let s1 := enterHeld e a (returnRun e s)
          if (s1.ex e).hold.isEmpty then leaveHeld e s1 else s1
    | some .ready =>
      let s1 := enter e .ready (releaseAxes e (returnRun e s))
      readyNow e (endStopOrders e .done s1)
    | some .lockedOut => enterLockedOut e s

/-- Braking ends at the event that leaves the exhibit with no channel MOVING or BRAKING (R129). -/
def brakingCheck (e : Nat) (s : State) : State :=
  if (s.ex e).state = .braking ∧ s.anyMoving e = false then brakingEnd e s else s

/-! ### Stops (section 2.5) -/

/-- A stop of a RUNNING exhibit (R31). A stop from RESTART keeps the queued start. -/
def stopRunning (e : Nat) (keep : Bool) (s : State) : State :=
  let s1 := withdraw e (endRun e .stopped s)
  let s2 := if keep then s1 else dropQueued e .stopped s1
  if s2.anyMoving e then enterBraking e .ready none (brakeAxes e s2)
  else toReady e (releaseAxes e (returnRun e s2))

/-- A queued start that RESTART kept is dropped by STOP EXHIBIT (R27, R75). -/
def dropReplace (e : Nat) (s : State) : State :=
  match (s.ex e).queued with
  | none => s
  | some q => if q.replace then dropQueued e .stopped s else s

/-- STOP EXHIBIT waits until braking ends (R47). -/
def awaitStop (e k : Nat) (s : State) : State :=
  s.modEx e (fun x => { x with stopOrders := x.stopOrders ++ [k] })

/-- STOP EXHIBIT by the exhibit's state (R47, R27). The order is complete when READY is entered, at
once or when braking ends. -/
def stopExhibit (e k : Nat) (s : State) : State :=
  let x := s.ex e
  match x.state with
  | .running => brakingOrDone (stopRunning e false (awaitStop e k s))
  | .homing =>
    let s1 := dropQueued e .stopped (endHomingOrder e .stopped s)
    if s.anyMoving e then enterBraking e .ready none (brakeAxes e (awaitStop e k s1))
    else complete k .done 0 (toReady e (releaseAxes e (withdraw e s1)))
  | .braking =>
    match x.target with
    | some .held =>
      let s1 := endHomingOrder e .stopped (endRun e .stopped s)
      enterBraking e .ready none (awaitStop e k (dropQueued e .stopped s1))
    | _ => awaitStop e k (dropReplace e s)
  | .held =>
    let s1 := dropQueued e .stopped (endHomingOrder e .stopped (endRun e .stopped s))
    complete k .done 0 (toReady e (releaseAxes e s1))
  | .ready => complete k .done 0 (dropQueued e .stopped s)
  | .resting =>
    complete k .done 0 (dropQueued e .stopped
      ((withdraw e s).modEx e (fun x => { x with wakePending := false })))
  | _ => s
where
  /-- A stop that entered READY at once completes the order at once. -/
  brakingOrDone (u : State) : State :=
    if (u.ex e).state = .braking then u else endStopOrders e .done u

/-! ### Arrivals and homes found -/

/-- An axis of the run has arrived (R107): its view is written (R137), and the run goes on when the
last axis of the waypoint has. -/
def axisArrived (e k : Nat) (s : State) : State :=
  let s1 := publishExhibit e (modRun e (fun r =>
    { r with arrived := r.arrived ++ (if r.arrived.contains k then [] else [k]) }) s)
  match (s1.ex e).state, (s1.ex e).run with
  | .running, some r =>
    if r.phase = .moving ∧ allArrived s1 e = true then goBegun e (arrivedAll e s1) else s1
  | _, _ => s1

/-- An axis was set in the present homing (R133, R132): homing ends when every axis is set. -/
def axisSet (e k : Nat) (s : State) : State :=
  let s1 := markSet e [k] s
  let x := s1.ex e
  if allSet s1 e && (x.state == .homing || (x.state == .braking && x.target == some .held))
  then homingEnd e s1
  else brakingCheck e s1

end Sys2Proof.Machine
end

