-- ==== Sys2Proof/Machine/Journal.lean ====
section
/-! DEFINITION. The press journal (chapter 5): numbering and placing records, hand-over, the linger
expiry, and pages given back. -/

namespace Sys2Proof.Machine

/-- Hand a page over (R90): its hand-over tick and READY are written, the current page and the linger
expiry become absent, and JOURNAL is set (R93). -/
def handOver (k : Nat) (s : State) : State :=
  let s1 := s.modPage k (fun p => { p with state := .ready, handTick := s.tick })
  setNotice noticeJournal { s1 with curPage := none, linger := none }

/-- The pages in the order of the search: after the last page, ending with it; 0 to 7 with none
(R89). -/
def pageOrder (last : Option Nat) : List Nat :=
  match last with
  | none => List.range 8
  | some l => (List.range 8).map (fun k => (l + 1 + k) % 8)

/-- Write a record at position count of a page; the page is handed over at 31 records (R89, R90). -/
def writeRecord (k : Nat) (r : PressRec) (s : State) : State :=
  let s1 := s.modPage k (fun p => { p with recs := store p.recs p.count r, count := p.count + 1 })
  if 31 ≤ (s1.page k).count then handOver k s1 else s1

/-- Take a FREE page as the current page (R89 step 2). -/
def takePage (k : Nat) (seq : Half) (s : State) : State :=
  let s1 := s.modPage k (fun p =>
    { p with state := .filling, count := 0, handTick := 0, firstSeq := seq })
  { s1 with curPage := some k, lastPage := some k, linger := some (after s.tick 250) }

/-- The first FREE page of the search (R89). -/
def freePage (s : State) : Option Nat :=
  (pageOrder s.lastPage).find? (fun k => (s.page k).state == .free)

/-- Number a press record and place it, or drop it when no page is FREE (R88, R89). -/
def placeRecord (r : PressRec) (s : State) : State :=
  let q : PressRec := { r with seq := s.nextSeq }
  let s1 := { s with nextSeq := s.nextSeq + 1 }
  match s1.curPage with
  | some k => writeRecord k q s1
  | none =>
    match freePage s1 with
    | some k => writeRecord k q (takePage k s.nextSeq s1)
    | none => s1

/-- The linger expiry of the current page falls due (R91). -/
def lingerDue (s : State) : State :=
  if dueNow s.tick s.linger then
    match s.curPage with
    | some k => handOver k s
    | none => s
  else s

/-- A host write of FREE to the state field of a page: accepted over READY alone (R86, R92). -/
def giveBack (k : Nat) (s : State) : State :=
  if (s.page k).state = .ready then s.modPage k (fun p => { p with state := .free }) else s

end Sys2Proof.Machine
end

