-- ==== Sys2Proof/Machine/Inputs.lean ====
section
/-! DEFINITION. The input unit (chapter 4): presses, tokens, press map actions and busy policies,
mats, guards and keys. -/

namespace Sys2Proof.Machine

/-! ### Tokens (section 4.3) -/

/-- The token capacity that an exhibit gives its buttons. -/
def capacityOf (x : Exhibit) : Nat := (x.stations.map (·.capacity)).getD 0
/-- The refill interval of an exhibit's buttons, in ms. -/
def refillMs (x : Exhibit) : Nat := (x.stations.map (·.refill)).getD 0 * 50

/-- The tokens of an input. -/
def Input.tokens (x : Input) : Nat := (x.bucket.map (·.tokens)).getD 0

/-- Spend one token; a spend from a full bucket starts the refill countdown (R68). -/
def spendToken (e i : Nat) (s : State) : State :=
  s.modInp i (fun x => { x with bucket := x.bucket.map (fun b =>
    { tokens := b.tokens - 1,
      refill := if b.tokens = capacityOf (s.ex e) then some (after s.tick (refillMs (s.ex e)))
                else b.refill }) })

/-- A refill expiry falls due: one token more, and the next expiry keeps the cadence (R69). -/
def refillDue (i : Nat) (s : State) : State :=
  match (s.inp i).owner, (s.inp i).bucket with
  | some e, some b =>
    match b.refill with
    | some t =>
      if isDue s.tick t then
        let next := if b.tokens + 1 < capacityOf (s.ex e) then some (after t (refillMs (s.ex e)))
                    else none
        s.modInp i (fun x => { x with bucket := some ⟨b.tokens + 1, next⟩ })
      else s
    | none => s
  | _, _ => s

/-! ### Press map actions (section 4.4) -/

/-- The press map entry of an input, if the exhibit maps it. -/
def Exhibit.entryAt (x : Exhibit) (i : Nat) : Option MapEntry :=
  x.pressMap.find? (fun m => m.input == i)

/-- The action of a BUTTON: its entry's, or NOTE (R70). -/
def Exhibit.actionAt (x : Exhibit) (i : Nat) : PressAction :=
  match x.entryAt i with | none => .note | some m => m.action

/-- The busy policy of a START entry (R73, R74). -/
def busyStart (e r : Nat) (p : BusyPolicy) (s : State) : State × PressOutcome :=
  match p with
  | .ignore => (s, .declinedBusy)
  | .queue => (setQueued e ⟨r, .press, false, false⟩ s, .queued)
  | .restart =>
    if (s.ex e).state = .running then
      (stopRunning e true (setQueued e ⟨r, .press, false, true⟩ s), .restarted)
    else (setQueued e ⟨r, .press, false, false⟩ s, .queued)

/-- A START press by the exhibit's state (R71, R72). -/
def startPress (e r : Nat) (p : BusyPolicy) (s : State) : State × PressOutcome :=
  if !s.isInstalled r then (s, .declinedNoRoutine)
  else
    match (s.ex e).state with
    | .ready =>
      if (s.ex e).hold.isEmpty then (startRun e r .press false s, .acted) else busyStart e r p s
    | .resting =>
      let s1 := setQueued e ⟨r, .press, false, false⟩ s
      if (s.ex e).hold.isEmpty then (wake e s1, .acted) else (s1, .queued)
    | .running => busyStart e r p s
    | .homing => busyStart e r p s
    | .held => busyStart e r p s
    | .braking => if (s.ex e).brakingToLock then (s, .declinedState) else busyStart e r p s
    | .faulted => (s, .declinedState)
    | .lockedOut => (s, .declinedState)
    | .absent => (s, .declinedState)

/-- The exhibit's run waits for STEP (R76, R115). -/
def Exhibit.waitsStep (x : Exhibit) : Bool :=
  x.state == .running && x.run.any (fun r => r.phase == .waitingStep)

/-- A STEP press (R76). -/
def stepPress (e : Nat) (s : State) : State × PressOutcome :=
  if (s.ex e).waitsStep then (stepWaiting e s, .acted) else (s, .declinedState)

/-- A STOP press (R77). -/
def stopPress (e : Nat) (s : State) : State × PressOutcome :=
  if (s.ex e).state = .running then (stopRunning e false s, .acted) else (s, .declinedState)

/-- Apply the press map action of a press that has spent its token (R70). -/
def applyAction (e i : Nat) (s : State) : State × PressOutcome :=
  match (s.ex e).entryAt i with
  | none => (s, .acted)
  | some m =>
    match m.action with
    | .start => startPress e m.routine m.policy s
    | .step => stepPress e s
    | .stop => stopPress e s
    | .help => (s, .acted)
    | .note => (s, .acted)

/-- Steps 2 and 4 to 6 of a press on a BUTTON (R65). -/
def buttonPress (e i : Nat) (s : State) : State × PressOutcome :=
  if (s.ex e).actionAt i = .help then (raiseCause e .help Cause.help.severity s, .acted)
  else if s.mode ≠ .open then (s, .declinedClosed)
  else if (s.inp i).tokens = 0 then (s, .suppressed)
  else applyAction e i (spendToken e i s)

/-- Raise the tally of an outcome (R66). -/
def tallyPress (o : PressOutcome) (x : Input) : Input :=
  match o with
  | .acted => { x with acted := x.acted + 1 }
  | .queued => { x with acted := x.acted + 1 }
  | .restarted => { x with acted := x.acted + 1 }
  | .suppressed => { x with suppressed := x.suppressed + 1 }
  | .declinedBusy => { x with declined := x.declined + 1 }
  | .declinedState => { x with declined := x.declined + 1 }
  | .declinedClosed => { x with declined := x.declined + 1 }
  | .declinedUnclaimed => { x with declined := x.declined + 1 }
  | .declinedNoRoutine => { x with declined := x.declined + 1 }

/-- The press record of a press on input `i`, its sequence number still to be given (R67, R87). `s`
is the state in which the press was taken. -/
def pressRecord (s : State) (i : Nat) (o : PressOutcome) : PressRec :=
  match (s.inp i).owner with
  | none => ⟨0, i, 255, s.tick, 0, o.code, 255, 0⟩
  | some e =>
    let x := s.ex e
    { seq := 0, input := i, exhibit := e, tick := s.tick, action := (x.actionAt i).code,
      outcome := o.code,
      routine := match x.entryAt i with
        | none => 255
        | some m => if m.action = .start then m.routine else 255,
      state := x.state.code }

/-- Tally a decided press and hand its record to the journal writer unless it was suppressed (R66,
R67). -/
def finishPress (i : Nat) (o : PressOutcome) (r : PressRec) (s : State) : State :=
  let s1 := s.modInp i (tallyPress o)
  if o = .suppressed then s1 else placeRecord r s1

/-- A press: the activation of a BUTTON or of an unclaimed input (R65). -/
def press (i : Nat) (s : State) : State :=
  let s1 := s.modInp i (fun x => { x with presses := x.presses + 1, lastEvent := s.tick })
  match (s.inp i).owner with
  | none => finishPress i .declinedUnclaimed (pressRecord s i .declinedUnclaimed) s1
  | some e =>
    let r := buttonPress e i s1
    finishPress i r.2 (pressRecord s i r.2) r.1

/-! ### Mats, guards and keys -/

/-- A MAT activation (R79). -/
def matOn (e : Nat) (s : State) : State :=
  match (s.ex e).state with
  | .ready => s.modEx e (fun x => { x with restTimer := none })
  | .resting => wake e s
  | _ => s

/-- A MAT deactivation (R79, R32). -/
def matOff (e : Nat) (s : State) : State :=
  if (s.ex e).state = .ready ∧ s.matActive e = false then startRest e s else s

/-- A GUARD-HOLD activation (R80). -/
def guardOn (e : Nat) (s : State) : State := addHold e .guard s

/-- A guard deactivation: GUARD goes when every guard input of the exhibit is inactive (R80). -/
def guardOff (e : Nat) (s : State) : State := if s.guardActive e then s else removeHold e .guard s

/-- A GUARD-TRIP activation: a fault if an axis is moving, naming the lowest moving axis slot, and
GUARD in both cases (R81). -/
def tripOn (e : Nat) (s : State) : State :=
  match lowestWith s (axesOf s e (s.ex e).axisSlots) (fun c => c.isMoving) with
  | none => guardOn e s
  | some a => guardOn e (takeFault e (reportOf s .guardTrip a (s.ch a.channel).v) s)

/-- A KEY activation: every call of the exhibit is acknowledged, then KEY enters the lockout reasons
(R82). -/
def keyOn (e : Nat) (s : State) : State := addLock e .key (ackCauses e .key allCauses s)

/-- A key release: the capture record is emptied, the fault and HELP causes are cleared, and KEY
leaves the lockout reasons, in this order (R83). -/
def keyOff (e : Nat) (s : State) : State :=
  if s.keyActive e then s
  else
    removeLock e .key (clearCauses e [.guardTrip, .motionFault, .help]
      (s.modEx e (fun x => { x with capture := none, laterFaults := 0 })))

/-- Set the last event tick of an input. -/
def stampEvent (i : Nat) (s : State) : State := s.modInp i (fun x => { x with lastEvent := s.tick })

/-- What a changed level of a claimed input does, by its class (R64). -/
def classEvent (e i : Nat) (c : InputClass) (lvl : Bool) (s : State) : State :=
  match c, lvl with
  | .unused, _ => s
  | .button, true => press i s
  | .button, false => s
  | .mat, true => matOn e (stampEvent i s)
  | .mat, false => matOff e s
  | .guardHold, true => guardOn e (stampEvent i s)
  | .guardHold, false => guardOff e s
  | .guardTrip, true => tripOn e (stampEvent i s)
  | .guardTrip, false => guardOff e s
  | .key, true => keyOn e (stampEvent i s)
  | .key, false => keyOff e s

/-- One change of an input's accepted level: one event at the input unit (R64). -/
def inputEvent (i : Nat) (lvl : Bool) (s : State) : State :=
  let s1 := s.modInp i (fun x => { x with accepted := lvl })
  match (s.inp i).owner, s.classOf i with
  | some e, some c => classEvent e i c lvl s1
  | _, _ => if lvl then press i s1 else s1

end Sys2Proof.Machine
end

