-- ==== Sys2Proof/Machine/Events.lean ====
section
/-! DEFINITION. Events that one block hands to another and is acted on in an event of its own (grants,
overrun reports), the axis channels' events, and the exhibits' expiries. -/

namespace Sys2Proof.Machine

/-! ### What is handed (R142, R126) -/

/-- The run waits for a grant. -/
def Exhibit.waitsGrant (x : Exhibit) : Bool :=
  x.state == .running && x.run.any (fun r => r.phase == .waitingGrant)

/-- The exhibit acts on a grant by its purpose and its state (R142). -/
def takeGrant (e : Nat) (p : Purpose) (s : State) : State :=
  match p with
  | .waypoint => if (s.ex e).waitsGrant then goBegun e (waypointGranted e false s) else s
  | .homing => if (s.ex e).state = .homing then homingGranted e s else s
  | .resume =>
    if (s.ex e).waitsGrant then goBegun e (resumeGranted e s)
    else if (s.ex e).state = .homing then resumeHoming e s else s
  | .wake => if (s.ex e).state = .resting ∧ (s.ex e).wakePending then wakeGranted e s else s

/-- Act on one thing handed. -/
def deliver (h : Handed) (s : State) : State :=
  match h with
  | .grant e p => takeGrant e p s
  | .overrun e r => takeFault e r s

/-- Act on everything handed, oldest first, with what it hands in turn; each is an event of its own and
writes the views that it changes (R142, R182). -/
def settleLoop : Nat → State → State
  | 0, s => s
  | n + 1, s =>
    match s.handed with
    | [] => s
    | h :: r => settleLoop n (publish (deliver h { s with handed := r }))

/-- More deliveries than one event can set going. -/
def settleBound : Nat := 1000000

/-- Act on everything that has been handed (log entry 6). -/
def settle (s : State) : State := settleLoop settleBound s

/-- Take the first member of a list that satisfies a test out of the list. -/
def takeFirst {α : Type} (t : α → Bool) : List α → Option (α × List α)
  | [] => none
  | a :: r => if t a then some (a, r) else (takeFirst t r).map (fun q => (q.1, a :: q.2))

/-- The thing handed is a grant. -/
def Handed.isGrant : Handed → Bool
  | .grant _ _ => true | .overrun _ _ => false

/-- The thing handed is an overrun report of a channel. -/
def Handed.isOverrunOf (c : Nat) : Handed → Bool
  | .grant _ _ => false | .overrun _ r => r.channel == c

/-- Act on the first thing handed that satisfies a test. -/
def deliverFirst (t : Handed → Bool) (s : State) : State :=
  match takeFirst t s.handed with
  | none => s
  | some (h, r) => deliver h { s with handed := r }

/-- An event is over: what it handed is acted on, and every changed view is written (log entries 6
and 19). -/
def closeEvent (s : State) : State := publish (settle s)

/-- Apply an event for each number of a list, each closed before the next. -/
def eachEvent (f : Nat → State → State) (ks : List Nat) (s : State) : State :=
  ks.foldl (fun u k => closeEvent (f k u)) s

/-! ### Motion ticks (sections 7.4, 7.7, 7.8, 7.11) -/

/-- The fault kind of an overrun, by the move kind (R126). -/
def overrunKind (c : Channel) : FaultKind :=
  if c.kind = some .homing then .homingOverrun else .segmentOverrun

/-- Hand the report of an overrun (R126). -/
def handOverrun (e : Nat) (a : AxisRec) (s : State) : State :=
  let c := s.ch a.channel
  { s with handed := s.handed ++ [.overrun e (reportOf s (overrunKind c) a c.v)] }

/-- What the exhibit manager does with a channel's report after a tick (R117): an overrun is handed,
unless the exhibit is being retired (R18). A first fault comes before the end of braking and ends it
(R126, R172, R173; log entry 50); one that will count as a later fault does not, so braking may end at the
tick. Without an overrun a completed arrival counts, and braking may have ended (R129). -/
def afterTick (e : Nat) (a : AxisRec) (s : State) : State :=
  let c := s.ch a.channel
  if overran c && (s.ex e).retire.isNone then
    let s1 := handOverrun e a s
    if (s.ex e).capture.isSome then brakingCheck e s1 else s1
  else brakingCheck e (if c.state = .idle then axisArrived e a.slot s else s)

/-- One tick of an owned channel: the profile step, then the deadline counter (R120, R125). -/
def tickChannel (f : AxisRec → Channel → Channel) (c : Nat) (s : State) : State :=
  match (s.ch c).owner, (s.ch c).axis with
  | some e, some a => afterTick e a (s.modCh c (fun x => countTick (f a x)))
  | _, _ => s

/-- A motion tick of a channel with a WAYPOINT move: the profile of a MOVING channel (R120), and the
counter alone of a CONFIRMING one (R125). -/
def motionTickOf (c : Nat) (s : State) : State :=
  let x := s.ch c
  match x.state, x.kind, x.target with
  | .moving, some .waypoint, some t => tickChannel (fun a => waypointTick a t) c s
  | .confirming, _, _ => tickChannel (fun _ x => x) c s
  | _, _, _ => s

/-- A motion tick of a MOVING channel with a HOMING move (R133). -/
def homingTickOf (c : Nat) (s : State) : State :=
  if (s.ch c).state = .moving ∧ (s.ch c).kind = some .homing then tickChannel homingStep c s else s

/-- A motion tick of a BRAKING channel (R128). -/
def brakingTickOf (c : Nat) (s : State) : State :=
  if (s.ch c).state = .braking then tickChannel brakingStep c s else s

/-! ### Channel inputs (R133, R124, R135, R136) -/

/-- HOME becomes active: an axis with a HOMING move that is moving is set (R133). -/
def homeOn (c : Nat) (s : State) : State :=
  let x := s.ch c
  let s1 := s.modCh c (fun y => { y with home := true })
  match x.owner, x.axis with
  | some e, some a =>
    if !x.home && x.kind == some .homing && x.isMoving then axisSet e a.slot (s1.modCh c (setHome a))
    else s1
  | _, _ => s1

/-- LIMIT becomes active: a moving or confirming channel is trip-stopped and LIMIT HIT is handed
(R135). -/
def limitOn (c : Nat) (s : State) : State :=
  let x := s.ch c
  let s1 := s.modCh c (fun y => { y with limit := true })
  match x.owner, x.axis with
  | some e, some a =>
    if !x.limit && (x.isMoving || x.state == .confirming) then
      brakingCheck e (takeFault e (reportOf s .limitHit a x.v) (s1.modCh c tripChannel))
    else s1
  | _, _ => s1

/-- DRV_READY becomes active: a CONFIRMING channel completes its arrival (R124). -/
def readyOn (c : Nat) (s : State) : State :=
  let x := s.ch c
  let s1 := s.modCh c (fun y => { y with ready := true })
  match x.owner, x.axis with
  | some e, some a =>
    if x.state = .confirming then axisArrived e a.slot (s1.modCh c endMove) else s1
  | _, _ => s1

/-- DRV_FAULT becomes active: an energised channel is trip-stopped if it moves, and DRIVER FAULT is
handed (R136). -/
def faultOn (c : Nat) (s : State) : State :=
  let x := s.ch c
  let s1 := s.modCh c (fun y => { y with fault := true })
  match x.owner, x.axis with
  | some e, some a =>
    if !x.fault && x.energised then
      brakingCheck e (takeFault e (reportOf s .driverFault a x.v) (s1.modCh c tripChannel))
    else s1
  | _, _ => s1

/-- A sampled change of one of a channel's four inputs (R135): a level that becomes inactive is
recorded, and one that becomes active acts as its own rule gives. -/
def sampleChange (c : Nat) (i : ChanInput) (lvl : Bool) (s : State) : State :=
  match i, lvl with
  | .home, true => homeOn c s
  | .home, false => s.modCh c (fun y => { y with home := false })
  | .limit, true => limitOn c s
  | .limit, false => s.modCh c (fun y => { y with limit := false })
  | .ready, true => readyOn c s
  | .ready, false => s.modCh c (fun y => { y with ready := false })
  | .fault, true => faultOn c s
  | .fault, false => s.modCh c (fun y => { y with fault := false })

/-! ### Expiries -/

/-- A run's dwell expiry falls due (R108). -/
def dwellExpired (e : Nat) (s : State) : State :=
  match (s.ex e).run with
  | none => s
  | some r =>
    if (s.ex e).state = .running ∧ r.phase = .dwelling ∧ dueNow s.tick r.dwell = true then
      dwellChain chainBound e s
    else s

/-- The end tick of a cue line falls due: the line goes inactive (R106). -/
def cueEnd (l : Nat) (s : State) : State :=
  if dueNow s.tick (s.cue l) then { s with cues := store s.cues l none } else s

/-- An acknowledged HELP cause's hold expiry falls due (R163). -/
def helpHoldDue (e : Nat) (s : State) : State :=
  if dueNow s.tick (helpHoldExpiry s e) then clearCauses e [.help] s else s

/-! ### Gallery HALT (R38) -/

/-- Add GALLERY to the hold reasons of every installed exhibit in ascending order. -/
def holdGallery (s : State) : State := eachEvent (fun e u => addHold e .gallery u) (keys s.exhibits) s

/-- Remove GALLERY from the hold reasons of every installed exhibit (R39). -/
def releaseGallery (s : State) : State :=
  eachEvent (fun e u => removeHold e .gallery u) (keys s.exhibits) s

/-- Enter HALT; taken while the mode is HALT it changes nothing (R38). -/
def enterHalt (s : State) : State :=
  if s.mode = .halt then s else holdGallery { s with mode := .halt }

/-- GALLERY_HALT goes low: a fall from high enters HALT (R38). -/
def haltPinLow (s : State) : State :=
  if s.haltPin then enterHalt { s with haltPin := false } else s

/-- GALLERY_HALT goes high: recorded, HALT is not left (R39). -/
def haltPinHigh (s : State) : State := { s with haltPin := true }

end Sys2Proof.Machine
end

