-- ==== Sys2Proof/Machine/Link.lean ====
section
/-! DEFINITION. The station link controller (chapter 3) and the lamp patterns it sends (section 2.11):
POLL, the judging of replies, node states, debouncing, substitute levels, the NODE SILENT cause. -/

namespace Sys2Proof.Machine

/-! ### Lamps (R40) -/

/-- A button mapped to START with busy policy QUEUE. -/
def queueButton (x : Exhibit) (i : Nat) : Bool :=
  (x.entryAt i).any (fun m => m.action == .start && m.policy == .queue)

/-- The pattern of a BUTTON lamp: the first entry of R40's list that applies. -/
def lampPattern (s : State) (e i : Nat) : Lamp :=
  let x := s.ex e
  match x.lamp with
  | some l => l
  | none =>
    if x.actionAt i = .help ∧ helpRings s e = true then .fastBlink
    else if queueButton x i = true ∧ x.state = .running then .slowBlink
    else if (x.state = .ready ∨ x.state = .resting) ∧ s.mode = .open ∧ x.hold.isEmpty = true then .on
    else .off

/-- Whether a pattern is on at a gallery tick (R40). -/
def lampLit (now : Tick) : Lamp → Bool
  | .on => true
  | .off => false
  | .fastBlink => decide (now.toNat % 250 < 125)
  | .slowBlink => decide (now.toNat % 1000 < 500)

/-- The lamp output at an input's position (R50): on only for a BUTTON input of an installed exhibit. -/
def lampAt (s : State) (i : Nat) : Bool :=
  match (s.inp i).owner, s.classOf i with
  | some e, some .button => lampLit s.tick (lampPattern s e i)
  | _, _ => false

/-- The station input at bit position `k` of node `n`. -/
def inputOf (n k : Nat) : Nat := 8 * (n - 1) + k

/-- The inputs of a node, ascending. -/
def inputsOf (n : Nat) : List Nat := (List.range 8).map (inputOf n)

/-- The lamp byte of a POLL (R50). -/
def lampByte (s : State) (n : Nat) : Byte :=
  BitVec.ofNat 8 (((List.range 8).map (fun k => bitAt k (lampAt s (inputOf n k)))).sum)

/-! ### The poll cycle (R49, R50, R51) -/

/-- Node address `n` is in a present mask. -/
def present (m : Word) (n : Nat) : Bool := decide (1 ≤ n) && m.getLsbD (n - 1)

/-- The addresses 1 to 32. -/
def addresses : List Nat := (List.range 32).map (· + 1)

/-- The next node polled: the lowest present address above the node polled last, or the lowest
present address (R49). -/
def nextNode (m : Word) (pos : Nat) : Option Nat :=
  match addresses.find? (fun n => decide (pos < n) && present m n) with
  | some n => some n
  | none => addresses.find? (present m)

/-- A POLL frame (R50). -/
def pollFrame (n : Nat) (lamps : Byte) : List Byte :=
  [0xC3, BitVec.ofNat 8 n, lamps, checkByte [BitVec.ofNat 8 n, lamps]]

/-- Send a POLL to the next node and open its reply window (R49, R51). No POLL is sent while a window
is open or the mask is empty. -/
def sendPoll (s : State) : State :=
  match s.window, nextNode s.linkMask s.pollPos with
  | none, some n =>
    { s with pollPos := n, window := some ⟨n, s.linkTimeout, []⟩,
             linkTx := pollFrame n (lampByte s n) }
  | _, _ => s

/-- The input byte and status byte of a good reply of a node (R51). -/
def goodReply (n : Nat) (bs : List RxByte) : Option (Byte × Byte) :=
  match bs with
  | [b0, b1, b2, b3, b4] =>
    if b0.stopOk && b1.stopOk && b2.stopOk && b3.stopOk && b4.stopOk && b0.val == 0x3C &&
        b1.val == BitVec.ofNat 8 n && b1.val + b2.val + b3.val + b4.val == 0
    then some (b2.val, b3.val) else none
  | _ => none

/-! ### Accepted levels (R57, R60) -/

/-- The substitute level of a class while its node does not answer (R57). -/
def substitute (c : Option InputClass) (debounced : Bool) : Bool :=
  match c with
  | some .guardHold => true
  | some .guardTrip => true
  | some .mat => true
  | some .button => debounced
  | some .key => debounced
  | some .unused => debounced
  | none => debounced

/-- The node of a station input. -/
def nodeOf (i : Nat) : Nat := i / 8 + 1

/-- The accepted level formed from the node's state and the input's class (R57, R60). -/
def formLevel (s : State) (i : Nat) : Bool :=
  if (s.node (nodeOf i)).state = .answering then (s.inp i).debounced
  else substitute (s.classOf i) (s.inp i).debounced

/-- Hand the input unit each changed level of a list of inputs, one event each, in the order of the
list (R56, R58, R59). `f` gives the level an input takes. -/
def handLevels (f : State → Nat → Bool) (is : List Nat) (s : State) : State :=
  is.foldl (fun u i =>
    if (u.inp i).accepted != f u i then closeEvent (inputEvent i (f u i) u) else u) s

/-! ### The NODE SILENT cause (R61) -/

/-- The exhibits that own an input on a node, ascending. -/
def ownersOn (s : State) (n : Nat) : List Nat :=
  (List.range 32).filter (fun e => (inputsOf n).any (fun i => (s.inp i).owner == some e))

/-- The exhibit owns an input on a SILENT node. -/
def onSilentNode (s : State) (e : Nat) : Bool :=
  (List.range 32).any (fun k => (s.node (k + 1)).state == .silent && (ownersOn s (k + 1)).contains e)

/-- Raise NODE SILENT for an exhibit that does not have it (R61). -/
def raiseSilent (e : Nat) (s : State) : State :=
  match (s.ex e).causeRec .nodeSilent with
  | some _ => s
  | none => raiseCause e .nodeSilent Cause.nodeSilent.severity s

/-- A node has become SILENT: NODE SILENT is handed for every exhibit with an input on it. -/
def silentCauses (n : Nat) (s : State) : State :=
  (ownersOn s n).foldl (fun u e => raiseSilent e u) s

/-- A node has left SILENT: a clear is handed for every exhibit with no other SILENT node. All the
clears are made at the node's one event (R61, R153). -/
def reviewCauses (n : Nat) (s : State) : State :=
  clearCausesOf ((ownersOn s n).filter (fun e => !onSilentNode s e)) [.nodeSilent] s

/-! ### Node states (R52, R53, R56, R58, R59) -/

/-- Set the agreement count of a node's inputs to 0. -/
def clearAgree (n : Nat) (s : State) : State :=
  (inputsOf n).foldl (fun u i => u.modInp i (fun x => { x with agree := 0 })) s

/-- A node leaves ANSWERING: its inputs take their substitute levels with events (R58). -/
def nodeLeaves (n : Nat) (st : NodeState) (s : State) : State :=
  let s1 := s.modNode n (fun x => { x with state := st, missRun := 0, goodRun := 0 })
  handLevels formLevel (inputsOf n) (clearAgree n (setNotice noticeLink s1))

/-- A node falls SILENT (R58, R61). -/
def nodeSilent (n : Nat) (s : State) : State := silentCauses n (nodeLeaves n .silent s)

/-- The raw level of an input in a reply's input byte. -/
def rawLevel (input : Byte) (i : Nat) : Bool := input.getLsbD (i % 8)

/-- A node enters ANSWERING: its inputs take the raw levels of the reply, with events, and NODE
SILENT is reviewed if it was SILENT (R59, R61). -/
def nodeAnswers (n : Nat) (input : Byte) (s : State) : State :=
  let was := (s.node n).state
  let s1 := s.modNode n (fun x => { x with state := .answering, missRun := 0, goodRun := 0 })
  let s2 := (inputsOf n).foldl (fun u i =>
    u.modInp i (fun x => { x with debounced := rawLevel input i, agree := 0 }))
    (setNotice noticeLink s1)
  let s3 := handLevels formLevel (inputsOf n) s2
  if was = .silent then reviewCauses n s3 else s3

/-- Debounce one input against the depth (R56). -/
def debounceInput (depth : Nat) (raw : Bool) (x : Input) : Input :=
  if raw = x.debounced then { x with agree := 0 }
  else if depth ≤ x.agree + 1 then { x with debounced := raw, agree := 0 }
  else { x with agree := x.agree + 1 }

/-- Debounce the inputs of a reply together, then hand their changes in ascending order (R56). -/
def debounceNode (n : Nat) (input : Byte) (s : State) : State :=
  handLevels formLevel (inputsOf n)
    ((inputsOf n).foldl (fun u i => u.modInp i (debounceInput s.depth (rawLevel input i))) s)

/-- A good reply applied to its node (R52). -/
def applyGood (n : Nat) (input status : Byte) (s : State) : State :=
  let x := s.node n
  let s1 := s.modNode n (fun y => { y with missRun := 0, status := status })
  let s2 := if x.status = status then s1 else setNotice noticeLink s1
  match x.state with
  | .unknown => nodeAnswers n input s2
  | .answering => debounceNode n input s2
  | .silent =>
    if 2 ≤ x.goodRun + 1 then nodeAnswers n input s2
    else s2.modNode n (fun y => { y with goodRun := y.goodRun + 1 })

/-- A miss applied to its node (R52). -/
def applyMiss (n : Nat) (s : State) : State :=
  let x := s.node n
  let s1 := s.modNode n (fun y => { y with miss := y.miss + 1, goodRun := 0 })
  match x.state with
  | .answering =>
    if 3 ≤ x.missRun + 1 then nodeSilent n s1
    else s1.modNode n (fun y => { y with missRun := y.missRun + 1 })
  | .unknown => s1
  | .silent => s1

/-- Bytes arrive on the station link: outside a window they are discarded, and within one the first
five are the reply. A good fifth byte closes the window and the reply is applied, unless its node
has left the mask (R49, R51). DESIGN CHOICE, unsafe: the mask is tested when the window closes alone, so
a node removed and added again meanwhile takes the old exchange's outcome (log entry 46). -/
def receiveReply (bs : List RxByte) (s : State) : State :=
  match s.window with
  | none => s
  | some w =>
    let all := (w.bytes ++ bs).take 5
    match goodReply w.node all with
    | some (input, status) =>
      let s1 := { s with window := none }
      if present s.linkMask w.node then applyGood w.node input status s1 else s1
    | none => { s with window := some { w with bytes := all } }

/-- The reply window closes without a good reply: a miss, unless its node has left the mask (R51). The
mask is tested here alone, as in `receiveReply` (log entry 46). -/
def windowCloses (s : State) : State :=
  match s.window with
  | none => s
  | some w =>
    let s1 := { s with window := none }
    if present s.linkMask w.node then applyMiss w.node s1 else s1

/-! ### SET STATION LINK (R54, R62) -/

/-- A node as a new present mask finds it (R54). -/
def remask (old new : Word) (n : Nat) (s : State) : State :=
  if present new n && !present old n then s.modNode n (fun _ => Node.fresh)
  else if present old n && !present new n then
    match (s.node n).state with
    | .unknown => s
    | .answering => nodeLeaves n .unknown s
    | .silent =>
      reviewCauses n (setNotice noticeLink (s.modNode n (fun x =>
        { x with state := .unknown, missRun := 0, goodRun := 0 })))
  else s

/-- Replace the link settings (R62). DESIGN CHOICE, unsafe: the nodes that one change of the mask
removes are taken in ascending address, each with its level events, their effects and the clear of its
NODE SILENT before the next (R54; log entry 45). -/
def applyLink (mask : Word) (timeout depth : Nat) (s : State) : State :=
  let s1 := { s with linkMask := mask, linkTimeout := timeout, depth := depth }
  let s2 := addresses.foldl (fun u n => clearAgree n u) s1
  eachEvent (remask s.linkMask mask)
    (addresses.filter (fun n => present mask n != present s.linkMask n)) (setNotice noticeLink s2)

end Sys2Proof.Machine
end

