-- ==== Sys2Proof/Machine/Walker.lean ====
section
/-! DEFINITION. The descriptor walker (chapter 1): the head, the chain of parts, the checks across
parts, ownership, and installation. The places of the fields inside a part's units are a DESIGN
CHOICE (log entry 3): the reference lays out the head and the part header alone. -/

namespace Sys2Proof.Machine

/-- What a walk has read so far. AXIS parts and the PRESS MAP keep their offsets for the reasons of
R11. -/
structure Walk where
  parts    : Nat
  stations : Option StationRange
  axes     : List (Nat × AxisRec)
  call     : Option CallSettings
  map      : Option (Nat × List MapEntry)
  rest     : Option RestSettings
  deriving DecidableEq, Repr

/-- A walk before its first part. -/
def Walk.start : Walk := ⟨0, none, [], none, none, none⟩

/-- The head as read (R4). -/
structure Head where
  label  : List Byte
  access : BitVec 4
  first  : Nat
  locked : Bool
  deriving DecidableEq, Repr

/-- Where a walk stopped, and the reason code of R11. -/
structure WalkFault where
  offset : Nat
  reason : Nat
  deriving DecidableEq, Repr

/-- A walk's step: what it read, or where it stopped. -/
inductive Walked (α : Type) where
  | ok (a : α)
  | bad (f : WalkFault)
  deriving DecidableEq, Repr

/-- A byte of the descriptor area. -/
def descByte (m : List Host.Cell) (o : Nat) : Nat := (peek m (0x4000 + o)).toNat
/-- A halfword of the descriptor area. -/
def descHalf (m : List Host.Cell) (o : Nat) : Nat := (peekHalf m (0x4000 + o)).toNat
/-- A signed word of the descriptor area. -/
def descInt (m : List Host.Cell) (o : Nat) : Int := (peekWord m (0x4000 + o)).toInt

/-- The reason a place is not valid for a record of some length (R3). -/
def placeFault (o len : Nat) : Option Nat :=
  if o % 8 ≠ 0 then some 1 else if 16384 < o + len then some 2 else none

/-- Check and read the head at an offset for an exhibit (R4). -/
def readHead (m : List Host.Cell) (o e : Nat) : Walked Head :=
  match placeFault o 16 with
  | some r => .bad ⟨o, r⟩
  | none =>
    let b := descByte m (o + 13)
    if descByte m (o + 12) ≠ e then .bad ⟨o, 3⟩
    else if b / 16 % 8 ≠ 0 then .bad ⟨o, 4⟩
    else .ok
      { label := (List.range 12).map (fun k => peek m (0x4000 + o + k)),
        access := BitVec.ofNat 4 b, first := descHalf m (o + 14), locked := decide (128 ≤ b) }

/-- An input class from its code (R6). -/
def classFrom : Nat → Option InputClass
  | 0 => some .unused | 1 => some .button | 2 => some .mat | 3 => some .guardHold
  | 4 => some .guardTrip | 5 => some .key | _ => none

/-- A press map action from its code (R9). -/
def actionFrom : Nat → Option PressAction
  | 1 => some .start | 2 => some .step | 3 => some .stop | 4 => some .help | 5 => some .note
  | _ => none

/-- A busy policy from its code (R9). -/
def policyFrom : Nat → Option BusyPolicy
  | 0 => some .ignore | 1 => some .queue | 2 => some .restart | _ => none

/-- Every member of a list of options, if all are present. -/
def allSome {α : Type} : List (Option α) → Option (List α)
  | [] => some []
  | none :: _ => none
  | some a :: r => (allSome r).map (fun l => a :: l)

/-- Read a STATIONS part (R6). -/
def readStations (m : List Host.Cell) (o : Nat) : Option StationRange :=
  let base := descByte m (o + 8)
  let count := descByte m (o + 9)
  let cap := descByte m (o + 10)
  let refill := descByte m (o + 11)
  if inRange 1 15 cap && inRange 1 128 refill && decide (base + count ≤ 256) then
    (allSome ((List.range count).map (fun k => classFrom (descByte m (o + 16 + k))))).map
      (fun cs => ⟨base, count, cap, refill, cs⟩)
  else none

/-- Read the fields of an AXIS part, unchecked. -/
def axisFields (m : List Host.Cell) (o : Nat) : AxisRec where
  slot := descByte m (o + 8)
  channel := descByte m (o + 9)
  group := descByte m (o + 10)
  runLoad := descByte m (o + 11)
  holdLoad := descByte m (o + 12)
  vmin := descHalf m (o + 14)
  vmax := descHalf m (o + 16)
  delta := descHalf m (o + 18)
  low := descInt m (o + 20)
  high := descInt m (o + 24)
  home := descInt m (o + 28)
  dir := if descByte m (o + 32) = 0 then .towardLow else .towardHigh
  homeSpeed := descHalf m (o + 34)
  homeExp := descByte m (o + 36)
  confirm := decide (descByte m (o + 37) = 1)

/-- A signed number lies in a range. -/
def inIntRange (lo hi v : Int) : Bool := decide (lo ≤ v) && decide (v ≤ hi)

/-- The absolute ranges of an AXIS part (R7, first step); the two flag bytes must be 0 or 1. -/
def axisRangesOk (a : AxisRec) (dirByte confirmByte : Nat) : Bool :=
  inRange 0 3 a.slot && inRange 0 23 a.channel && inRange 0 3 a.group && inRange 1 255 a.runLoad &&
  inRange 1 5000 a.vmin && inRange 1 40000 a.vmax && inRange 1 4000 a.delta &&
  inIntRange (-524288) 524287 a.low && inIntRange (-524288) 524287 a.high &&
  inRange 0 1 dirByte && inRange 4 15 a.homeExp && inRange 0 1 confirmByte

/-- The reason an AXIS part fails its field checks (R7). -/
def axisFault (a : AxisRec) (dirByte confirmByte : Nat) : Option Nat :=
  if !axisRangesOk a dirByte confirmByte then some 9
  else if a.vmax < a.vmin then some 10
  else if !(decide (a.holdLoad ≤ a.runLoad) && inRange a.vmin a.vmax a.homeSpeed &&
      decide (a.low < a.high)) then some 9
  else if !inIntRange a.low a.high a.home then some 11
  else none

/-- Read one PRESS MAP entry (R9). -/
def readEntry (m : List Host.Cell) (o : Nat) : Option MapEntry :=
  let r := descByte m (o + 2)
  match actionFrom (descByte m (o + 1)), policyFrom (descByte m (o + 3)) with
  | some a, some p =>
    if (a = .start ∧ r ≤ 63) ∨ (a ≠ .start ∧ r = 255) then some ⟨descByte m o, a, r, p⟩ else none
  | _, _ => none

/-- The count field of a part whose length follows from one, with its range (R5). -/
def countField (m : List Host.Cell) (o kind : Nat) : Option (Nat × Nat) :=
  if kind = 1 then some (descByte m (o + 9), 32)
  else if kind = 4 then some (descByte m (o + 8), 16)
  else none

/-- The length, in 8-byte units, that a kind asks for (section 1.2.2). -/
def kindUnits (kind count : Nat) : Nat :=
  if kind = 1 then 2 + (count + 7) / 8
  else if kind = 2 then 5
  else if kind = 4 then 2 + (count + 1) / 2
  else 2

/-- How many parts of a kind have been walked. -/
def kindSeen (w : Walk) (kind : Nat) : Nat :=
  if kind = 1 then (if w.stations.isSome then 1 else 0)
  else if kind = 2 then w.axes.length
  else if kind = 3 then (if w.call.isSome then 1 else 0)
  else if kind = 4 then (if w.map.isSome then 1 else 0)
  else (if w.rest.isSome then 1 else 0)

/-- How many parts of a kind a chain may have. -/
def kindMost (kind : Nat) : Nat := if kind = 2 then 4 else 1

/-- The checks of a part before its fields, in the order of R5: place, number, kind, count, length,
extent, repetition. -/
def partFault (m : List Host.Cell) (w : Walk) (o : Nat) : Option Nat :=
  match placeFault o 8 with
  | some r => some r
  | none =>
    let kind := descByte m o
    let len := descByte m (o + 1)
    if 8 ≤ w.parts then some 5
    else if !inRange 1 5 kind then some 6
    else if (countField m o kind).isSome && decide (16384 < o + 16) then some 2
    else if !((countField m o kind).all (fun c => inRange 1 c.2 c.1)) then some 9
    else if len ≠ kindUnits kind (((countField m o kind).map (·.1)).getD 0) then some 7
    else if 16384 < o + 8 * len then some 2
    else if kindMost kind ≤ kindSeen w kind then some 8
    else none

/-- Add a part's fields to the walk (R6 to R10), or the reason they fail. -/
def readPart (m : List Host.Cell) (w : Walk) (o : Nat) : Walked Walk :=
  let w1 : Walk := { w with parts := w.parts + 1 }
  match descByte m o with
  | 1 =>
    match readStations m o with
    | some r => .ok { w1 with stations := some r }
    | none => .bad ⟨o, 9⟩
  | 2 =>
    let a := axisFields m o
    match axisFault a (descByte m (o + 32)) (descByte m (o + 37)) with
    | some r => .bad ⟨o, r⟩
    | none => .ok { w1 with axes := w.axes ++ [(o, a)] }
  | 3 =>
    let z := descByte m (o + 8)
    let l := descByte m (o + 9)
    let f := descByte m (o + 10)
    if inRange 0 15 z && [1, 2, 4].contains l && inRange 0 1 f then
      .ok { w1 with call := some ⟨z, l, decide (f = 1)⟩ }
    else .bad ⟨o, 9⟩
  | 4 =>
    match allSome ((List.range (descByte m (o + 8))).map (fun k => readEntry m (o + 16 + 4 * k))) with
    | some l => .ok { w1 with map := some (o, l) }
    | none => .bad ⟨o, 9⟩
  | _ =>
    let d := descHalf m (o + 8)
    let f := descByte m (o + 10)
    if inRange 0 3600 d && inRange 0 1 f then .ok { w1 with rest := some ⟨d, decide (f = 1)⟩ }
    else .bad ⟨o, 9⟩

/-- Follow the chain from an offset (R5). Nine steps reach the ninth part, which is refused. -/
def walkChain (m : List Host.Cell) : Nat → Nat → Walk → Walked Walk
  | 0, o, _ => .bad ⟨o, 5⟩
  | n + 1, o, w =>
    if o = 0 then .ok w
    else
      match partFault m w o with
      | some r => .bad ⟨o, r⟩
      | none =>
        match readPart m w o with
        | .bad f => .bad f
        | .ok w1 => walkChain m n (descHalf m (o + 2)) w1

/-- The first AXIS part, in chain order, that repeats a value of an earlier one. -/
def firstRepeat (f : AxisRec → Nat) : List Nat → List (Nat × AxisRec) → Option Nat
  | _, [] => none
  | seen, (o, a) :: r => if seen.contains (f a) then some o else firstRepeat f (f a :: seen) r

/-- The first AXIS part whose group differs from that of the first AXIS part. -/
def groupMismatch (axes : List (Nat × AxisRec)) : Option Nat :=
  match axes with
  | [] => none
  | (_, a) :: r => (r.find? (fun p => p.2.group != a.group)).map (·.1)

/-- A PRESS MAP entry names a BUTTON input inside the range. -/
def namesButton (r : Option StationRange) (i : Nat) : Bool :=
  match r with
  | none => false
  | some r => decide (r.base ≤ i) && decide (i < r.base + r.count) &&
      r.classes[i - r.base]? == some .button

/-- The checks across parts, in the order of R11. -/
def endFault (head : Nat) (w : Walk) : Option WalkFault :=
  if w.call.isNone then some ⟨head, 12⟩
  else
    match groupMismatch w.axes with
    | some o => some ⟨o, 13⟩
    | none =>
      match firstRepeat (·.slot) [] w.axes with
      | some o => some ⟨o, 14⟩
      | none =>
        match firstRepeat (·.channel) [] w.axes with
        | some o => some ⟨o, 15⟩
        | none =>
          match w.map with
          | none => none
          | some (o, l) =>
            if !l.all (fun x => namesButton w.stations x.input) then some ⟨o, 16⟩
            else if !noRepeat (l.map (·.input)) then some ⟨o, 17⟩
            else none

/-- The whole walk (R4 to R11). -/
def walkDescriptor (m : List Host.Cell) (o e : Nat) : Walked (Head × Walk) :=
  match readHead m o e with
  | .bad f => .bad f
  | .ok h =>
    match walkChain m 9 h.first Walk.start with
    | .bad f => .bad f
    | .ok w =>
      match endFault o w with
      | some f => .bad f
      | none => .ok (h, w)

/-- The result word of a BAD PARAMETER walk (R11). -/
def WalkFault.word (f : WalkFault) : Word := BitVec.ofNat 32 (f.offset + 65536 * f.reason)

/-! ### Ownership (R12, R15) -/

/-- The inputs of a range, ascending. -/
def rangeInputs (r : Option StationRange) : List Nat :=
  match r with
  | none => []
  | some r => (List.range r.count).map (fun k => r.base + k)

/-- The first ownership conflict, inputs before channels, as the result word of R12. -/
def ownershipConflict (s : State) (w : Walk) : Option Word :=
  match (rangeInputs w.stations).find? (fun i => (s.inp i).owner.isSome) with
  | some i => some (BitVec.ofNat 32 (i + 65536 * 1 + 16777216 * (s.inp i).owner.getD 255))
  | none =>
    match (List.range 24).find? (fun c =>
        w.axes.any (fun p => p.2.channel == c) && (s.ch c).owner.isSome) with
    | some c => some (BitVec.ofNat 32 (c + 65536 * 2 + 16777216 * (s.ch c).owner.getD 255))
    | none => none

/-! ### Installation (R13, R14) -/

/-- An input record when its owner changes: tallies and last event tick 0 (R63). -/
def restartInput (o : Option Nat) (b : Option Bucket) (x : Input) : Input :=
  { x with owner := o, presses := 0, acted := 0, declined := 0, suppressed := 0, lastEvent := 0,
           bucket := b }

/-- The bucket of an input of an exhibit's range: full for a BUTTON (R13). -/
def fullBucket (x : Exhibit) (i : Nat) : Option Bucket :=
  if x.classOf i = some .button then some ⟨capacityOf x, none⟩ else none

/-- Form the accepted level of an input again, with no event (R60). -/
def reform (i : Nat) (s : State) : State :=
  s.modInp i (fun x => { x with accepted := formLevel s i })

/-- The entry that installation fills (R13 steps 2 and 4). -/
def installedEntry (h : Head) (w : Walk) : Exhibit :=
  { Exhibit.absent with
      label := h.label, access := h.access, stations := w.stations, axes := w.axes.map (·.2),
      call := w.call.getD ⟨0, 0, false⟩, pressMap := (w.map.map (·.2)).getD [],
      rest := w.rest.getD ⟨0, false⟩, lock := ⟨false, h.locked⟩ }

/-- Claim inputs and channels, and form the accepted levels and the reason sets (R13). -/
def claimAll (e : Nat) (h : Head) (w : Walk) (s : State) : State :=
  let s1 := s.modEx e (fun _ => installedEntry h w)
  let s2 := (rangeInputs w.stations).foldl (fun u i =>
    reform i (u.modInp i (restartInput (some e) (fullBucket (u.ex e) i)))) s1
  let s3 := modAxes e (claimedBy e) s2
  s3.modEx e (fun x =>
    { x with hold := ⟨s3.guardActive e, false, s3.mode == .halt⟩,
             lock := { x.lock with key := s3.keyActive e } })

/-- Choose the new exhibit's state (R14). The order completes DONE at once, or waits for homing. -/
def chooseState (e k : Nat) (parts : Nat) (s : State) : State :=
  let r : Word := BitVec.ofNat 32 parts
  if !(s.ex e).lock.isEmpty then complete k .done r (enter e .lockedOut s)
  else if (s.ex e).axes.isEmpty then complete k .done r (toReady e s)
  else enterHoming e (s.modEx e (fun x => { x with homingOrder := some ⟨k, r⟩ }))

/-- Install an exhibit (R13, R14), and hand NODE SILENT if it owns an input on a SILENT node (R61). -/
def install (e k : Nat) (h : Head) (w : Walk) (s : State) : State :=
  let s1 := chooseState e k w.parts (claimAll e h w s)
  if onSilentNode s1 e then raiseSilent e s1 else s1

end Sys2Proof.Machine
end

