-- ==== Sys2Proof/Machine/Store.lean ====
section
/-! DEFINITION. The routine store (chapter 6): the checks of COMMIT ROUTINE, first-fit allocation,
installing, staging and clearing. -/

namespace Sys2Proof.Machine

/-- A byte of the routine staging area. -/
def stageByte (m : List Host.Cell) (o : Nat) : Nat := (peek m (0x8000 + o)).toNat

/-- The 16-bit sum of `n` halfwords of the staging area from an offset (R94). -/
def halfSum (m : List Host.Cell) : Nat → Nat → Half
  | 0, _ => 0
  | n + 1, o => peekHalf m (0x8000 + o) + halfSum m n (o + 2)

/-- Read a waypoint (R94, section 11.11). -/
def readWaypoint (m : List Host.Cell) (o : Nat) : Waypoint where
  mask := BitVec.ofNat 4 (stageByte m (o + 18))
  targets := (List.range 4).map (fun k => (peekWord m (0x8000 + o + 4 * k)).toInt)
  percent := stageByte m (o + 19)
  dwell := (peekHalf m (0x8000 + o + 16)).toNat
  exp := stageByte m (o + 20)
  cue := stageByte m (o + 21)
  pause := decide (stageByte m (o + 22) % 2 = 1)

/-- The fields of a waypoint hold values that R94 allows. -/
def waypointOk (m : List Host.Cell) (o : Nat) : Bool :=
  inRange 0 15 (stageByte m (o + 18)) && inRange 1 100 (stageByte m (o + 19)) &&
  inRange 4 15 (stageByte m (o + 20)) && inRange 0 8 (stageByte m (o + 21)) &&
  inRange 0 1 (stageByte m (o + 22))

/-- The offset of waypoint `i` of a record. -/
def waypointAt (o i : Nat) : Nat := o + 16 + 24 * i

/-- The first waypoint of a record whose fields fail. -/
def badWaypoint (m : List Host.Cell) (o n : Nat) : Option Nat :=
  (List.range n).find? (fun i => !waypointOk m (waypointAt o i))

/-- The result word of a BAD PARAMETER refusal: reason in the high half, waypoint index or 65,535 in
the low half (R97). -/
def commitWord (reason : Nat) (index : Option Nat) : Word :=
  BitVec.ofNat 32 (index.getD 65535 + 65536 * reason)

/-- Checks 1 to 6 of COMMIT ROUTINE, in order (R97). -/
def commitFault (m : List Host.Cell) (due : Bool) (r o : Nat) : Option Word :=
  let n := stageByte m o
  if due then some (commitWord 5 none)
  else if 63 < r then some (commitWord 4 none)
  else if o % 16 ≠ 0 then some (commitWord 1 none)
  else if 16384 < o + 16 then some (commitWord 2 none)
  else if !inRange 1 64 n then some (commitWord 4 none)
  else if 16384 < o + 16 + 24 * n then some (commitWord 2 none)
  else if halfSum m (8 + 12 * n) o ≠ 0 then some (commitWord 3 none)
  else if !inRange 0 1 (stageByte m (o + 2)) then some (commitWord 4 none)
  else
    match badWaypoint m o n with
    | some i => some (commitWord 4 (some i))
    | none => none

/-- The header fields of a record, with the first place of its extent. -/
def readCopy (m : List Host.Cell) (o first : Nat) : RoutineCopy where
  count := stageByte m o
  loop := stageByte m (o + 1)
  stepped := decide (stageByte m (o + 2) = 1)
  check := peekHalf m (0x8000 + o + 4)
  first := first

/-- Copy the waypoints of a record into the pool, in order from a first place (R98). -/
def fillPool (first o n : Nat) (s : State) : State :=
  { s with pool := (List.range n).foldl (fun p i =>
      store p (first + i) (readWaypoint s.mem (waypointAt o i))) s.pool }

/-- Install or stage a copy whose extent is allocated (R99, R100, R101). -/
def placeCopy (k r : Nat) (c : RoutineCopy) (s : State) : State :=
  let x := s.routine r
  match x.installed, x.inUse, x.staged with
  | some _, _ + 1, none => s.modRoutine r (fun y => { y with staged := some ⟨c, k⟩ })
  | some _, _ + 1, some old =>
    complete old.slot .superseded 0 (s.modRoutine r (fun y => { y with staged := some ⟨c, k⟩ }))
  | _, _, _ =>
    complete k .done c.resultWord (s.modRoutine r (fun _ => ⟨some c, 0, none⟩))

/-- A record that has passed its checks is copied and placed; with no room the largest free extent is
answered (R97 check 7, R98). -/
def commitRecord (k r o : Nat) (s : State) : Option State :=
  let n := stageByte s.mem o
  match firstFit n s with
  | none => none
  | some f => some (placeCopy k r (readCopy s.mem o f) (fillPool f o n s))

/-- A routine that CLEAR ROUTINE may free: installed, not in use, no staged copy (R102). -/
def clearable (x : Routine) : Option RoutineCopy :=
  match x.installed with
  | none => none
  | some c => if x.inUse = 0 ∧ x.staged.isNone then some c else none

end Sys2Proof.Machine
end

