-- ==== Sys2Proof/Machine/Operands.lean ====
section
/-! DEFINITION. The operand forms of the orders (section 11.6): kind codes, scopes, and the parameters
in the slot's parameter field, each at the next offset that is a multiple of its own size. -/

namespace Sys2Proof.Machine

/-- The scope of a kind (section 11.6). -/
inductive Scope where
  | gallery | exhibit | slot
  deriving DecidableEq, Repr

/-- The kind code of an order (section 11.6). -/
def kindCodeOf : OrderBody → Nat
  | .bringUp _ => 1 | .retire => 2 | .setAccess _ => 3 | .home => 4 | .stop => 5 | .hold => 6
  | .release => 7 | .lockOut => 8 | .returnToService => 9 | .setMode _ => 10 | .setLamps _ => 11
  | .setLink _ _ _ => 12 | .runRoutine _ => 13 | .stepRun => 14 | .commit _ _ => 15
  | .clearRoutine _ => 16 | .setBudget _ _ => 17 | .setZone _ => 18 | .raiseCall _ => 19
  | .ackCall _ => 20 | .clearCall _ => 21 | .clearFault => 22 | .setControl _ => 23
  | .setClock _ => 24 | .cancel _ => 25

/-- The scope of an order (section 11.6). SET ACCESS and BRING UP EXHIBIT are gallery-wide. -/
def scopeOf : OrderBody → Scope
  | .bringUp _ => .gallery | .retire => .exhibit | .setAccess _ => .gallery | .home => .exhibit
  | .stop => .exhibit | .hold => .exhibit | .release => .exhibit | .lockOut => .exhibit
  | .returnToService => .exhibit | .setMode _ => .gallery | .setLamps _ => .exhibit
  | .setLink _ _ _ => .gallery | .runRoutine _ => .exhibit | .stepRun => .exhibit
  | .commit _ _ => .gallery | .clearRoutine _ => .gallery | .setBudget _ _ => .gallery
  | .setZone _ => .gallery | .raiseCall _ => .exhibit | .ackCall _ => .exhibit
  | .clearCall _ => .exhibit | .clearFault => .exhibit | .setControl _ => .gallery
  | .setClock _ => .gallery | .cancel _ => .slot

/-- The kinds that may carry a due tick (section 11.6). -/
def dueAllowed : OrderBody → Bool
  | .stop => true | .lockOut => true | .returnToService => true | .setMode _ => true
  | .setLamps _ => true | .runRoutine _ => true
  | .bringUp _ => false | .retire => false | .setAccess _ => false | .home => false
  | .hold => false | .release => false | .setLink _ _ _ => false | .stepRun => false
  | .commit _ _ => false | .clearRoutine _ => false | .setBudget _ _ => false | .setZone _ => false
  | .raiseCall _ => false | .ackCall _ => false | .clearCall _ => false | .clearFault => false
  | .setControl _ => false | .setClock _ => false | .cancel _ => false

/-- Byte `k` of a word, the least significant first. -/
def byteOf {n : Nat} (k : Nat) (v : BitVec n) : Byte := v.extractLsb' (8 * k) 8

/-- Four address positions as parameter bytes. -/
def addrBytes (o : Nat) (a : Addrs) : List (Nat × Byte) :=
  [(o, a.a0), (o + 1, a.a1), (o + 2, a.a2), (o + 3, a.a3)]

/-- A halfword parameter as bytes. -/
def halfBytes (o : Nat) (h : Half) : List (Nat × Byte) := [(o, byteOf 0 h), (o + 1, byteOf 1 h)]

/-- A word parameter as bytes. -/
def wordBytes (o : Nat) (w : Word) : List (Nat × Byte) :=
  [(o, byteOf 0 w), (o + 1, byteOf 1 w), (o + 2, byteOf 2 w), (o + 3, byteOf 3 w)]

/-- The parameter bytes of an order by offset in the parameter field (section 11.6). -/
def paramBytes : OrderBody → List (Nat × Byte)
  | .bringUp o => halfBytes 0 o
  | .setAccess m => [(0, m)]
  | .setMode m => [(0, m)]
  | .setLamps p => [(0, p)]
  | .setLink m t d => wordBytes 0 m ++ halfBytes 4 t ++ [(6, d)]
  | .runRoutine r => [(0, r)]
  | .commit r o => (0, r) :: halfBytes 2 o
  | .clearRoutine r => [(0, r)]
  | .setBudget g b => (0, g) :: halfBytes 2 b
  | .setZone z =>
    [(0, z.zone), (1, z.count1), (2, z.count2)] ++ addrBytes 3 z.tier1 ++ addrBytes 7 z.tier2 ++
    halfBytes 12 z.t1 ++ halfBytes 14 z.t2 ++ [(16, z.base), (17, z.count), (18, z.ack)] ++
    halfBytes 20 z.hold
  | .raiseCall v => [(0, v)]
  | .ackCall c => [(0, c)]
  | .clearCall c => [(0, c)]
  | .setControl m => [(0, m)]
  | .setClock t => wordBytes 0 t
  | .cancel k => [(0, k)]
  | .retire => [] | .home => [] | .stop => [] | .hold => [] | .release => [] | .lockOut => []
  | .returnToService => [] | .stepRun => [] | .clearFault => []

/-- A parameter field holding the given bytes and zeros elsewhere. -/
def paramField (bs : List (Nat × Byte)) : Tab Byte := bs.foldl (fun t p => poke t p.1 p.2) []

/-- The four address positions at an offset of a parameter field. -/
def addrsAt (p : Tab Byte) (o : Nat) : Addrs :=
  ⟨peek p o, peek p (o + 1), peek p (o + 2), peek p (o + 3)⟩

/-- SET ZONE's parameters, as read from the parameter field. -/
def zoneAt (p : Tab Byte) : ZoneParams where
  zone := peek p 0
  count1 := peek p 1
  count2 := peek p 2
  tier1 := addrsAt p 3
  tier2 := addrsAt p 7
  t1 := peekHalf p 12
  t2 := peekHalf p 14
  base := peek p 16
  count := peek p 17
  ack := peek p 18
  hold := peekHalf p 20

/-- The order that a kind byte and a parameter field spell; none for an unknown kind (R185). -/
def readOrder (kind : Byte) (p : Tab Byte) : Option OrderBody :=
  match kind.toNat with
  | 1 => some (.bringUp (peekHalf p 0))
  | 2 => some .retire
  | 3 => some (.setAccess (peek p 0))
  | 4 => some .home
  | 5 => some .stop
  | 6 => some .hold
  | 7 => some .release
  | 8 => some .lockOut
  | 9 => some .returnToService
  | 10 => some (.setMode (peek p 0))
  | 11 => some (.setLamps (peek p 0))
  | 12 => some (.setLink (peekWord p 0) (peekHalf p 4) (peek p 6))
  | 13 => some (.runRoutine (peek p 0))
  | 14 => some .stepRun
  | 15 => some (.commit (peek p 0) (peekHalf p 2))
  | 16 => some (.clearRoutine (peek p 0))
  | 17 => some (.setBudget (peek p 0) (peekHalf p 2))
  | 18 => some (.setZone (zoneAt p))
  | 19 => some (.raiseCall (peek p 0))
  | 20 => some (.ackCall (peek p 0))
  | 21 => some (.clearCall (peek p 0))
  | 22 => some .clearFault
  | 23 => some (.setControl (peek p 0))
  | 24 => some (.setClock (peekWord p 0))
  | 25 => some (.cancel (peek p 0))
  | _ => none

/-- The host fields that spell an order in its slot (section 11.11). -/
def hostFieldsOf (h : OrderHead) (b : OrderBody) : HostFields where
  flags := h.flags
  kind := BitVec.ofNat 8 (kindCodeOf b)
  exhibit := h.exhibit
  tag := h.tag
  due := h.due
  params := paramField (paramBytes b)

/-- DUE PRESENT, bit 0 of the flags. -/
def HostFields.duePresent (h : HostFields) : Bool := h.flags.getLsbD 0
/-- COMPLETE AT END, bit 1 of the flags; read for RUN ROUTINE alone (R185). -/
def HostFields.completeAtEnd (h : HostFields) : Bool := h.flags.getLsbD 1

/-! ### Parameter ranges (R185 check 4) -/

/-- A mask parameter holds only sources 0 to 3. -/
def sourceMask (m : Byte) : Bool := decide (m.toNat < 16)

/-- SET LAMPS' parameter as an override; RELEASE is none (section 11.6). -/
def lampFrom : Nat → Option (Option Lamp)
  | 0 => some none | 2 => some (some .fastBlink) | 3 => some (some .slowBlink)
  | 4 => some (some .on) | 5 => some (some .off) | _ => none

/-- The parameters of an order are in range. BRING UP EXHIBIT's walk and COMMIT ROUTINE's checks give
result words of their own and are made after this one. -/
def paramsOk : OrderBody → Bool
  | .setAccess m => sourceMask m
  | .setMode m => inRange 0 2 m.toNat
  | .setLamps p => (lampFrom p.toNat).isSome
  | .setLink _ t d => inRange 100 800 t.toNat && t.toNat % 50 == 0 && inRange 1 4 d.toNat
  | .runRoutine r => inRange 0 63 r.toNat
  | .clearRoutine r => inRange 0 63 r.toNat
  | .setBudget g b => inRange 0 3 g.toNat && inRange 0 1023 b.toNat
  | .setZone z => zoneParamsOk z
  | .raiseCall v => inRange 1 4 v.toNat
  | .ackCall c => inRange 0 5 c.toNat
  | .clearCall c => inRange 0 5 c.toNat
  | .setControl m => sourceMask m && m != 0
  | .cancel k => inRange 0 31 k.toNat
  | .bringUp _ => true | .retire => true | .home => true | .stop => true | .hold => true
  | .release => true | .lockOut => true | .returnToService => true | .stepRun => true
  | .commit _ _ => true | .clearFault => true | .setClock _ => true

end Sys2Proof.Machine
end

