-- ==== Sys2Proof/Machine/Orders.lean ====
section
/-! DEFINITION. The order unit (chapter 11): the take, the checks of R185, each kind's effect, the due
list, refusals, the denial capture, SET CLOCK and CANCEL. -/

namespace Sys2Proof.Machine

/-- What performing an order gives: a refusal by its kind's own rule with an acceptance code and a
result word, or the state after its effect. -/
inductive Verdict where
  | refuse (a : Acceptance) (r : Word)
  | go (s : State)
  deriving DecidableEq, Repr

/-- Perform an order that has no refusals of its own and completes at once. -/
def doneWith (k : Nat) (r : Word) (s : State) : Verdict := .go (complete k .done r s)

/-! ### Exhibit orders -/

/-- The exhibit with every held move of its axes at rest released (R129). -/
def releaseResting (e : Nat) (s : State) : State :=
  modAxes e (fun a c => if c.isMoving then c else releaseChannel a c) s

/-- Steps 1 to 3 of R16: everything under way ends STOPPED. -/
def retireEndings (e : Nat) (s : State) : State :=
  let s1 := dropQueued e .stopped (endRun e .stopped s)
  let s2 := endLockOrders e .stopped (endStopOrders e .stopped (endHomingOrder e .stopped s1))
  withdraw e s2

/-- Steps 4 to 7 of R16: reasons, causes, capture record and inputs. -/
def retireClears (e : Nat) (s : State) : State :=
  let s1 := s.modEx e (fun x =>
    { x with hold := ⟨false, false, false⟩, lock := ⟨false, false⟩, heldAct := none, lamp := none,
             wakePending := false })
  let s2 := (clearCauses e allCauses s1).modEx e (fun x =>
    { x with capture := none, laterFaults := 0 })
  (rangeInputs (s.ex e).stations).foldl (fun u i =>
    reform i (u.modInp i (restartInput none none))) s2

/-- RETIRE EXHIBIT (R16, R17). -/
def retireExhibit (e k : Nat) (s : State) : State :=
  let s1 := s.modEx e (fun x => { x with retire := some k })
  let s2 := releaseResting e (retireClears e (retireEndings e s1))
  if s2.anyMoving e then enterBraking e .lockedOut none (brakeAxes e s2)
  else finishRetire e k (publishExhibit e s2)

/-- HOME EXHIBIT (R45, R46). -/
def homeOrder (e k : Nat) (s : State) : Verdict :=
  if (s.ex e).state ≠ .ready then .refuse .state 0
  else if (s.ex e).axes.isEmpty then doneWith k 0 s
  else .go (enterHoming e (s.modEx e (fun x => { x with homingOrder := some ⟨k, 0⟩ })))

/-- STOP EXHIBIT's state refusals (R47). -/
def stopRefused (s : State) (e : Nat) : Bool :=
  match (s.ex e).state with
  | .homing => !s.energised e
  | .braking => (s.ex e).brakingToLock
  | .faulted => true
  | .lockedOut => true
  | .absent => true
  | .running => false
  | .held => false
  | .ready => false
  | .resting => false

/-- STOP EXHIBIT (R47). -/
def stopOrder (e k : Nat) (s : State) : Verdict :=
  if stopRefused s e then .refuse .state 0 else .go (stopExhibit e k s)

/-- HOLD (R43): the result word is the number of hold reasons present after it. -/
def holdOrder (e k : Nat) (s : State) : Verdict :=
  doneWith k (BitVec.ofNat 32 ((s.ex e).hold.put .order true).size) (addHold e .order s)

/-- RELEASE (R43). -/
def releaseOrder (e k : Nat) (s : State) : Verdict :=
  doneWith k (BitVec.ofNat 32 ((s.ex e).hold.put .order false).size) (removeHold e .order s)

/-- LOCK OUT (R44): DONE when the exhibit is LOCKED OUT, at once if it is already. -/
def lockOrder (e k : Nat) (s : State) : Verdict :=
  if (s.ex e).state = .lockedOut then doneWith k 0 (addLock e .order s)
  else .go (addLock e .order (s.modEx e (fun x => { x with lockOrders := x.lockOrders ++ [k] })))

/-- RETURN TO SERVICE (R44): refused if it would empty the lockout reasons beside a full record. -/
def returnOrder (e k : Nat) (s : State) : Verdict :=
  let x := s.ex e
  if x.lock.order && !x.lock.key && x.capture.isSome then .refuse .state 0
  else doneWith k (BitVec.ofNat 32 (x.lock.put .order false).size) (removeLock e .order s)

/-- SET LAMPS (R41): the result word is the previous override. -/
def lampsOrder (e k p : Nat) (s : State) : Verdict :=
  doneWith k (BitVec.ofNat 32 (lampCode (s.ex e).lamp))
    (s.modEx e (fun x => { x with lamp := (lampFrom p).getD none }))

/-- RUN ROUTINE (R113). -/
def runOrder (e k r : Nat) (atEnd : Bool) (s : State) : Verdict :=
  let q : Queued := ⟨r, .order k, atEnd, false⟩
  if !s.isInstalled r then .refuse .state 0
  else
    match (s.ex e).state with
    | .ready =>
      if (s.ex e).hold.isEmpty then .go (startRun e r (.order k) atEnd s) else .go (setQueued e q s)
    | .resting => .go (wake e (setQueued e q s))
    | .homing => .go (setQueued e q s)
    | .running => .go (setQueued e q s)
    | .held => .go (setQueued e q s)
    | .braking => if (s.ex e).brakingToLock then .refuse .state 0 else .go (setQueued e q s)
    | .faulted => .refuse .state 0
    | .lockedOut => .refuse .state 0
    | .absent => .refuse .state 0

/-- The index of the waypoint that a STEP begins (R115). -/
def steppedIndex (e : Nat) (s : State) : Nat :=
  (((advanceRun e s).1.ex e).run.map (·.index)).getD 0

/-- STEP (R115). -/
def stepOrder (e k : Nat) (s : State) : Verdict :=
  if (s.ex e).waitsStep then doneWith k (BitVec.ofNat 32 (steppedIndex e s)) (stepWaiting e s)
  else .refuse .state 0

/-- The result word of RAISE CALL: call number, or 255 while pending, and repeat count (R164). -/
def raiseWord (s : State) (e : Nat) : Word :=
  match (s.ex e).causeRec .ordered with
  | none => 0
  | some ⟨_, .pending p⟩ => BitVec.ofNat 32 (255 + 65536 * p.repeats)
  | some ⟨_, .entered n⟩ =>
    BitVec.ofNat 32 (n + 65536 * (((s.callEntry n).call.map (·.repeats)).getD 0))

/-- RAISE CALL (R164). -/
def raiseOrder (e k sev : Nat) (s : State) : Verdict :=
  let s1 := raiseCause e .ordered sev s
  doneWith k (raiseWord s1 e) s1

/-- A cause from its code (R150). -/
def causeFrom : Nat → Option Cause
  | 1 => some .help | 2 => some .guardTrip | 3 => some .motionFault | 4 => some .nodeSilent
  | 5 => some .ordered | _ => none

/-- The causes that a code names: all for 0. -/
def causesNamed (all : List Cause) (c : Nat) : List Cause :=
  if c = 0 then all else match causeFrom c with | some x => [x] | none => []

/-- ACKNOWLEDGE CALL (R165): the result word counts what it acknowledged. -/
def ackOrder (e k c : Nat) (s : State) : Verdict :=
  let cs := causesNamed allCauses c
  doneWith k (BitVec.ofNat 32 ((cs.filter (unacknowledged s e)).length)) (ackCauses e .order cs s)

/-- CLEAR CALL (R166). -/
def clearOrder (e k c : Nat) (s : State) : Verdict :=
  if inRange 2 4 c then .refuse .state 0
  else
    let cs := causesNamed [.help, .ordered] c
    doneWith k (BitVec.ofNat 32 ((cs.filter (fun x => ((s.ex e).causeRec x).isSome)).length))
      (clearCauses e cs s)

/-- Clear a fault (R175). -/
def clearFaultOf (e : Nat) (c : Capture) (s : State) : State :=
  let st := (s.ex e).state
  let s1 := clearCauses e [c.report.kind.cause]
    (s.modEx e (fun x => { x with capture := none, laterFaults := 0 }))
  if st = .faulted then
    if (s.ex e).axes.isEmpty then toReady e s1 else enterHoming e s1
  else s1

/-- CLEAR FAULT (R177). -/
def faultOrder (e k : Nat) (s : State) : Verdict :=
  let x := s.ex e
  match x.capture with
  | none => .refuse .state 0
  | some c =>
    if !x.call.remoteClear || c.report.kind == .guardTrip then
      .refuse .state (BitVec.ofNat 32 c.report.kind.code)
    else
      doneWith k (BitVec.ofNat 32 (c.report.kind.code + 65536 * x.laterFaults)) (clearFaultOf e c s)

/-! ### Gallery orders -/

/-- BRING UP EXHIBIT (R12): the walk, the ownership check, installation. -/
def bringUpOrder (e k o : Nat) (s : State) : Verdict :=
  match walkDescriptor s.mem o e with
  | .bad f => .refuse .badParameter f.word
  | .ok (h, w) =>
    match ownershipConflict s w with
    | some r => .refuse .full r
    | none => .go (install e k h w s)

/-- SET ACCESS (R19): the result word is the previous mask, and EXHIBITS is set whatever it was. -/
def accessOrder (e k : Nat) (m : Byte) (s : State) : Verdict :=
  doneWith k (BitVec.ofNat 32 (s.ex e).access.toNat)
    (setNotice noticeExhibits (s.modEx e (fun x => { x with access := BitVec.ofNat 4 m.toNat })))

/-- A gallery mode from its code (R37). -/
def modeFrom : Nat → GalleryMode
  | 0 => .closed | 1 => .open | _ => .halt

/-- Set the gallery mode (R38, R39): entering HALT holds, leaving it releases. -/
def setMode (m : GalleryMode) (s : State) : State :=
  if m = .halt then enterHalt s
  else if s.mode = .halt then releaseGallery { s with mode := m }
  else { s with mode := m }

/-- SET GALLERY MODE (R39). -/
def modeOrder (k m : Nat) (s : State) : Verdict :=
  if modeFrom m ≠ .halt ∧ s.haltPin = false then .refuse .state 0
  else doneWith k (BitVec.ofNat 32 s.mode.code) (setMode (modeFrom m) s)

/-- SET STATION LINK (R62): the result word is the previous mask. -/
def linkOrder (k : Nat) (m : Word) (t d : Nat) (s : State) : Verdict :=
  doneWith k s.linkMask (applyLink m t d s)

/-- COMMIT ROUTINE (R97 to R101). -/
def commitOrder (k r o : Nat) (due : Bool) (s : State) : Verdict :=
  match commitFault s.mem due r o with
  | some w => .refuse .badParameter w
  | none =>
    match commitRecord k r o s with
    | none => .refuse .full (BitVec.ofNat 32 (largestFree s))
    | some s1 => .go s1

/-- CLEAR ROUTINE (R102). -/
def clearRoutineOrder (k r : Nat) (s : State) : Verdict :=
  match clearable (s.routine r) with
  | none => .refuse .state 0
  | some c => doneWith k (BitVec.ofNat 32 c.count) (s.modRoutine r (fun _ => .free))

/-- Act on a request that a SET BUDGET refuses, but for the requests that follow (R145, R146). -/
def refuseWaiting (r : Request) (s : State) : State :=
  match r.purpose with
  | .waypoint => runRefused r.ex s
  | .homing => homingRefused r.ex s
  | .wake => wakeRefused r.ex s
  | .resume => if (s.ex r.ex).state = .homing then homingRefused r.ex s else runRefused r.ex s

/-- What follows a refusal that ended a run: a queued start begins, or the rest timer starts (R110). -/
def afterRefusal (r : Request) (s : State) : State :=
  if (s.ex r.ex).state = .ready then readyNow r.ex s else s

/-- SET BUDGET (R146). -/
def budgetOrder (k g b : Nat) (s : State) : Verdict :=
  let excess := (s.group g).wait.filter (fun r => decide (b < r.units))
  let s1 := s.modGroup g (fun x =>
    { x with budget := b, wait := x.wait.filter (fun r => decide (r.units ≤ b)) })
  let s2 := evaluate g (excess.foldl (fun u r => publish (refuseWaiting r u)) s1)
  let s3 := complete k .done (BitVec.ofNat 32 (s2.group g).granted) s2
  .go (excess.foldl (fun u r => afterRefusal r (closeEvent u)) s3)

/-- SET ZONE (R167): the result word is the number of beacon addresses in use. -/
def zoneOrder (k : Nat) (z : ZoneParams) (s : State) : Verdict :=
  if zoneFull z s then .refuse .full 0
  else
    let s1 := applyZone z s
    doneWith k (BitVec.ofNat 32 (beaconsInUse s1)) s1

/-- SET CONTROL (R186): the result word is the previous mask. -/
def controlOrder (k : Nat) (m : Byte) (s : State) : Verdict :=
  doneWith k (BitVec.ofNat 32 s.control.toNat) { s with control := BitVec.ofNat 4 m.toNat }

/-- CANCEL (R189). -/
def cancelOrder (k n : Nat) (s : State) : Verdict :=
  if s.dueList.any (fun d => d.slot == n) then
    doneWith k 1 (complete n .cancelled 0
      { s with dueList := s.dueList.filter (fun d => d.slot != n) })
  else doneWith k 0 s

/-! ### The order of the due list (R188) -/

/-- The signed offset of a due tick from the present tick, -2^31 to 2^31 - 1. -/
def dueOffset (now t : Tick) : Int := (t - now).toInt

/-- Place a new entry after every entry whose offset is at or below its own. -/
def insertDue (now : Tick) (d : DueEntry) : List DueEntry → List DueEntry
  | [] => [d]
  | x :: r =>
    if dueOffset now x.due ≤ dueOffset now d.due then x :: insertDue now d r else d :: x :: r

/-- A due list in order from a tick; entries with equal offsets keep their order. -/
def sortDue (now : Tick) (l : List DueEntry) : List DueEntry :=
  l.foldl (fun acc d => insertDue now d acc) []

/-! ### SET CLOCK's shift of expiries (R190) -/

/-- Change every record of a table. -/
def mapTab {α : Type} (f : α → α) (t : Tab α) : Tab α := t.map (fun p => (p.1, f p.2))

/-- Move the hold expiry of an acknowledgement. -/
def shiftAck (d : Tick) (a : AckMark) : AckMark := { a with holdExp := a.holdExp.map (· + d) }

/-- Move the hold expiry of a pending cause. -/
def shiftCause (d : Tick) (c : CauseRec) : CauseRec :=
  match c.state with
  | .entered _ => c
  | .pending p => { c with state := .pending { p with ack := p.ack.map (shiftAck d) } }

/-- Move the expiries of an exhibit: its rest timer, its dwell, its pending HELP hold. -/
def shiftExhibit (d : Tick) (x : Exhibit) : Exhibit :=
  { x with restTimer := x.restTimer.map (· + d),
           run := x.run.map (fun r => { r with dwell := r.dwell.map (· + d) }),
           causes := x.causes.map (shiftCause d) }

/-- Move the refill expiry of an input. -/
def shiftInput (d : Tick) (x : Input) : Input :=
  { x with bucket := x.bucket.map (fun b => { b with refill := b.refill.map (· + d) }) }

/-- Move the escalation and hold expiries of a call. -/
def shiftCall (d : Tick) (x : CallEntry) : CallEntry :=
  { x with call := x.call.map (fun c =>
      { c with escalation := c.escalation.map (· + d), ack := c.ack.map (shiftAck d) }) }

/-- Move the refresh expiry of a beacon. -/
def shiftBeacon (d : Tick) (x : Beacon) : Beacon := { x with refresh := x.refresh.map (· + d) }

/-- The gallery tick takes a new value, and every expiry moves by the same difference (R190 steps 1
and 2). Due ticks and ticks that record the past stay, and the due list is put in order from the new
tick (R188; log entry 49). -/
def shiftClock (t : Tick) (s : State) : State :=
  let d := t - s.tick
  { s with
    tick := t
    dueList := sortDue t s.dueList
    exhibits := mapTab (shiftExhibit d) s.exhibits
    inputs := mapTab (shiftInput d) s.inputs
    calls := mapTab (shiftCall d) s.calls
    beacons := mapTab (shiftBeacon d) s.beacons
    cues := mapTab (fun c => c.map (· + d)) s.cues
    linger := s.linger.map (· + d) }

/-- SET CLOCK, but for the evaluation of the due list that ends it (R190). -/
def clockOrder (k : Nat) (t : Tick) (s : State) : Verdict :=
  doneWith k s.tick (shiftClock t s)

/-! ### Performing an order -/

/-- Perform an order of a slot as just taken, with its kind's own refusals (R185, R188). -/
def performOrder (k : Nat) (h : HostFields) (b : OrderBody) (s : State) : Verdict :=
  let e := h.exhibit.toNat
  match b with
  | .bringUp o => bringUpOrder e k o.toNat s
  | .retire => .go (retireExhibit e k s)
  | .setAccess m => accessOrder e k m s
  | .home => homeOrder e k s
  | .stop => stopOrder e k s
  | .hold => holdOrder e k s
  | .release => releaseOrder e k s
  | .lockOut => lockOrder e k s
  | .returnToService => returnOrder e k s
  | .setMode m => modeOrder k m.toNat s
  | .setLamps p => lampsOrder e k p.toNat s
  | .setLink m t d => linkOrder k m t.toNat d.toNat s
  | .runRoutine r => runOrder e k r.toNat h.completeAtEnd s
  | .stepRun => stepOrder e k s
  | .commit r o => commitOrder k r.toNat o.toNat h.duePresent s
  | .clearRoutine r => clearRoutineOrder k r.toNat s
  | .setBudget g b => budgetOrder k g.toNat b.toNat s
  | .setZone z => zoneOrder k z s
  | .raiseCall v => raiseOrder e k v.toNat s
  | .ackCall c => ackOrder e k c.toNat s
  | .clearCall c => clearOrder e k c.toNat s
  | .clearFault => faultOrder e k s
  | .setControl m => controlOrder k m s
  | .setClock t => clockOrder k t s
  | .cancel n => cancelOrder k n.toNat s

/-! ### Checks (R185, R186) -/

/-- The source of a slot: its slot group (R186). -/
def sourceOf (k : Nat) : Nat := k / 8

/-- Check 2: the exhibit field (R185). -/
def exhibitCheck (s : State) (e : Nat) (b : OrderBody) : Option Acceptance :=
  let named : Option Acceptance :=
    if 31 < e ∨ (s.ex e).installed = false then some .badExhibit
    else if (s.ex e).retire.isSome then some .state else none
  match b, scopeOf b with
  | .bringUp _, _ =>
    if 31 < e then some .badExhibit else if (s.ex e).installed then some .state else none
  | .setAccess _, _ => named
  | _, .exhibit => named
  | _, .gallery => none
  | _, .slot => none

/-- Check 3: the source is allowed (R186). -/
def accessAllowed (s : State) (k e : Nat) (b : OrderBody) : Bool :=
  match b, scopeOf b with
  | .cancel n, _ =>
    s.control.getLsbD (sourceOf k) || (decide (n.toNat < 32) && sourceOf n.toNat == sourceOf k)
  | _, .exhibit => (s.ex e).access.getLsbD (sourceOf k)
  | _, .gallery => s.control.getLsbD (sourceOf k)
  | _, .slot => s.control.getLsbD (sourceOf k)

/-- Check 4 for the kinds whose parameters it judges, and DUE PRESENT (R185). COMMIT ROUTINE makes its
own check with a result word (R97). -/
def paramCheck (h : HostFields) (b : OrderBody) : Bool :=
  match b with
  | .commit _ _ => true
  | _ => paramsOk b && (dueAllowed b || !h.duePresent)

/-- The first take-time check that fails (R185). -/
def takeRefusal (s : State) (k : Nat) (h : HostFields) : Option Acceptance :=
  match readOrder h.kind h.params with
  | none => some .unknownKind
  | some b =>
    match exhibitCheck s h.exhibit.toNat b with
    | some a => some a
    | none =>
      if !accessAllowed s k h.exhibit.toNat b then some .denied
      else if !paramCheck h b then some .badParameter
      else if dueAllowed b && h.duePresent && decide (16 ≤ s.dueList.length) then some .full
      else none

/-! ### Verdicts (R185, R187) -/

/-- The exhibit field that the denial capture shows: 255 for a gallery-wide kind (R187). -/
def denialExhibit (h : HostFields) : Byte :=
  match (readOrder h.kind h.params).map scopeOf with
  | some .gallery => 255
  | _ => h.exhibit

/-- A denied order acts on the denial capture (R187). -/
def captureDenial (k : Nat) (h : HostFields) (s : State) : State :=
  match s.denial with
  | some d => { s with denial := some { d with later := min 255 (d.later + 1) } }
  | none =>
    setNotice noticeDenial
      { s with denial := some ⟨k, sourceOf k, h.kind, denialExhibit h, h.tag, s.tick, 0⟩ }

/-- Refuse the order of a slot at its take (R185). -/
def refuseAtTake (k : Nat) (h : HostFields) (a : Acceptance) (r : Word) (s : State) : State :=
  let s1 := setNotice noticeOrders (s.modSlot k (fun x =>
    { x with edit := x.edit + 2, state := .done, acceptance := a, outcome := .refused,
             doneTick := x.takenTick, result := r }))
  if a = .denied then captureDenial k h s1 else s1

/-- Accept the order of a slot (R185). DESIGN CHOICE, unsafe: the acceptance is a change of the slot's
record of its own, between the take and the completion (R182; log entry 53). -/
def acceptOrder (k : Nat) (s : State) : State :=
  s.modSlot k (fun x => { x with edit := x.edit + 2, acceptance := .accepted })

/-! ### The due list (R188) -/

/-- Perform an order that has fallen due, with the checks of R188. -/
def performDue (d : DueEntry) (s : State) : State :=
  match readOrder d.host.kind d.host.params with
  | none => s
  | some b =>
    match exhibitCheck s d.host.exhibit.toNat b with
    | some a => complete d.slot .refused (BitVec.ofNat 32 a.code) s
    | none =>
      if !accessAllowed s d.slot d.host.exhibit.toNat b then
        captureDenial d.slot d.host
          (complete d.slot .denied (BitVec.ofNat 32 Acceptance.denied.code) s)
      else
        match performOrder d.slot d.host b s with
        | .go s1 => s1
        | .refuse a _ => complete d.slot .refused (BitVec.ofNat 32 a.code) s

/-- The first entry of the due list, if its tick is due, leaves the list and is performed (R188). DESIGN
CHOICE, unsafe: an entry that entered exactly 2^31 ahead stands first by its offset of -2^31 and is not
due, and while it is first nothing behind it is performed (log entry 52). -/
def dueEvent (s : State) : State :=
  match s.dueList with
  | [] => s
  | d :: r => if isDue s.tick d.due then performDue d { s with dueList := r } else s

/-- The first entry that is due leaves the list and is performed. -/
def dueNext (s : State) : State :=
  match takeFirst (fun d => isDue s.tick d.due) s.dueList with
  | none => s
  | some (d, r) => performDue d { s with dueList := r }

/-- Evaluate the due list: every entry now due is performed in list order, each as one event (R190
step 4). -/
def evaluateDue (s : State) : State :=
  eachEvent (fun _ u => dueNext u) (List.range s.dueList.length) s

/-- Put an accepted timed order into the due list; one already due falls due at that event (R188). -/
def enterDue (k : Nat) (h : HostFields) (s : State) : State :=
  let s1 := { s with dueList := insertDue s.tick ⟨k, h.due, h⟩ s.dueList }
  if isDue s.tick h.due then evaluateDue s1 else s1

/-! ### The take (R184, R185) -/

/-- Copy the order and write TAKEN, the taken tick, and zeros (R184). -/
def markTaken (k : Nat) (s : State) : State :=
  let s1 := s.modSlot k (fun x =>
    { x with edit := x.edit + 2, state := .taken, outcome := .none, takenTick := s.tick,
             doneTick := 0, result := 0 })
  { s1 with lastTaken := k }

/-- Decide the order of a TAKEN slot (R185): the checks, then the due list or the effect. SET CLOCK ends
with the evaluation of the due list (R190 step 4). DESIGN CHOICE, unsafe: the views that its step 2 rewrites
are written together with those of the first entry then performed (log entry 55). -/
def decideOrder (k : Nat) (h : HostFields) (s : State) : State :=
  match takeRefusal s k h, readOrder h.kind h.params with
  | some a, _ => refuseAtTake k h a 0 s
  | none, none => refuseAtTake k h .unknownKind 0 s
  | none, some b =>
    if dueAllowed b && h.duePresent then enterDue k h (acceptOrder k s)
    else
      match performOrder k h b (acceptOrder k s) with
      | .refuse a r => refuseAtTake k h a r s
      | .go s1 => if kindCodeOf b = 24 then evaluateDue s1 else s1

/-- Take a POSTED slot (R184, R185). -/
def takeSlot (k : Nat) (s : State) : State := decideOrder k (s.slot k).host (markTaken k s)

/-- The host posts an order in a slot, and the order unit takes it (R183, R184; log entry 5). A TAKEN
slot discards the writes. A running pass does not visit the slot again. -/
def postAndTake (h : OrderHead) (b : OrderBody) (s : State) : State :=
  let k := h.slot.val
  if (s.slot k).state = .taken then s
  else
    let s1 := s.modSlot k (fun x => { x with state := .posted, host := hostFieldsOf h b })
    takeSlot k { s1 with pass := s1.pass.map (fun l => l.filter (fun j => j != k)) }

/-! ### Scanning (R184) -/

/-- The 32 slots in cyclic order after the slot taken last. -/
def passOrder (last : Nat) : List Nat := (List.range 32).map (fun k => (last + 1 + k) % 32)

/-- A scan is requested by the gallery clock: kept until a pass starts. -/
def requestScan (s : State) : State := { s with scanKept := true }

/-- A running pass has no POSTED slot ahead of it, so it ends. -/
def passEnded (s : State) : Bool :=
  match s.pass with
  | none => true
  | some l => !l.any (fun k => (s.slot k).state == .posted)

/-- A pass starts when a scan has been requested and no pass is running. -/
def startPass (s : State) : State :=
  if s.scanKept && passEnded s then
    { s with pass := some (passOrder s.lastTaken), scanBit := false, scanKept := false }
  else s

/-- The first POSTED slot that a pass still visits, with what comes after it. -/
def nextPosted (s : State) : List Nat → Option (Nat × List Nat)
  | [] => none
  | k :: r => if (s.slot k).state = .posted then some (k, r) else nextPosted s r

/-- The running pass goes on to its next POSTED slot and takes it; with none left it ends. -/
def takeNext (s : State) : State :=
  match s.pass with
  | none => s
  | some l =>
    match nextPosted s l with
    | none => { s with pass := none }
    | some (k, r) => takeSlot k { s with pass := if r.isEmpty then none else some r }

end Sys2Proof.Machine
end

