-- ==== Sys2Proof/Machine/Port.lean ====
section
/-! DEFINITION. The exchange port (chapter 11): the host-write filter, the registers, power-on and PART
RESET. -/

namespace Sys2Proof.Machine

/-! ### PART RESET and power-on (R191) -/

/-- A table with every number below `n` listed, each record changed. -/
def everyRecord {α : Type} (d : α) (n : Nat) (f : Nat → α → α) (t : Tab α) : Tab α :=
  (List.range n).map (fun k => (k, f k (lookup d t k)))

/-- A beacon entry at PART RESET: one that was lit or owed a DARK keeps its address for a DARK frame
and reads FREE, and any other is FREE (R169). -/
def resetBeacon (b : Beacon) : Beacon :=
  if b.addr != 0 && (b.pattern.isSome || b.darkOwed) then
    { Beacon.free with addr := b.addr, darkOwed := true, resetDark := true, readsFree := true }
  else .free

/-- A part-written record cleared under its own edit count (R182). -/
def clearView {α : Type} (b : α) (v : View α) : View α := ⟨v.edit + 2, b⟩

/-- The views after PART RESET: every record cleared under its edit count, with the fields whose reset
value is not zero (R182, R191). -/
def resetViews (h : HeaderBody) (v : Views) : Views where
  header := clearView h v.header
  exhibits := everyRecord ⟨0, bytesOf 126 0⟩ 32 (fun _ => clearView (bytesOf 126 0)) v.exhibits
  calls := everyRecord ⟨0, bytesOf 30 0⟩ 48 (fun _ => clearView (bytesOf 30 0)) v.calls
  groups := everyRecord ⟨0, .fresh⟩ 4 (fun _ => clearView .fresh) v.groups
  beacons := everyRecord ⟨0, ⟨0, 0⟩⟩ 64 (fun _ => clearView ⟨0, 0⟩) v.beacons
  tallies := everyRecord ⟨0, .fresh⟩ 256 (fun _ => clearView .fresh) v.tallies

/-- The blocks after either reset, but for what a reset keeps: the wiring's levels (R116), the level of
GALLERY_HALT, the model's own queue, and its record of the outputs. -/
def powerBlocks (s : State) : State :=
  { State.reset with
    pending := s.pending, haltPin := s.haltPin, channels := mapTab unowned s.channels }

/-- The gallery enters HALT if GALLERY_HALT is low when a reset ends (R38). -/
def haltIfLow (s : State) : State := if s.haltPin then s else enterHalt s

/-- Power-on (R191): the exchange memory is cleared to zero and every block takes its power-on state. -/
def powerOn (s : State) : State :=
  let s1 := powerBlocks s
  haltIfLow { s1 with views := { s1.views with header := ⟨0, headerBody s1⟩ } }

/-- PART RESET, in the order of R191. -/
def partReset (s : State) : State :=
  let s1 := powerBlocks s
  let s2 := { s1 with
    tick := s.tick
    mem := s.mem
    slots := everyRecord .zero 32 (fun _ x => { Slot.zero with edit := x.edit + 2 }) s.slots
    beacons := mapTab resetBeacon s.beacons
    linkTx := s.linkTx
    attTx := s.attTx }
  haltIfLow { s2 with views := resetViews (headerBody s2) s.views }

/-! ### Registers (R180, R181) -/

/-- A write of 1 to the ORDERS bit of SCAN: a scan is requested and the bit reads 1 until it starts. -/
def requestOrdersScan (s : State) : State := { s with scanBit := true, scanKept := true }

/-- Clear notice categories; clearing DENIAL also empties the denial capture (R181, R187). -/
def clearNotices (bits : BitVec 6) (s : State) : State :=
  { s with notice := s.notice &&& ~~~bits,
           denial := if bits.getLsbD 4 then none else s.denial }

/-- Store NOTICE ENABLE. -/
def writeEnable (bits : BitVec 6) (s : State) : State := { s with enable := bits }

/-- A byte written to CONTROL: PART RESET at the write, then HALT (R180; log entry 11). -/
def writeControl (b : Byte) (s : State) : State :=
  let s1 := if b.getLsbD 0 then partReset s else s
  if b.getLsbD 1 then enterHalt s1 else s1

/-- A byte written in the register area. IDENT, the unnamed bits and the reserved offsets discard it
(R180). -/
def writeRegister (o : Nat) (b : Byte) (s : State) : State :=
  match o with
  | 2 => if b.getLsbD 0 then requestOrdersScan s else s
  | 4 => clearNotices (BitVec.ofNat 6 b.toNat) s
  | 6 => writeEnable (BitVec.ofNat 6 b.toNat) s
  | 8 => writeControl b s
  | _ => s

/-! ### The write filter (R179, R183, R86) -/

/-- POSTED written over EMPTY or DONE (R183). -/
def hostPost (k : Nat) (s : State) : State :=
  if (s.slot k).state = .empty ∨ (s.slot k).state = .done then
    s.modSlot k (fun x => { x with state := .posted })
  else s

/-- EMPTY written over POSTED or DONE (R183). -/
def hostEmpty (k : Nat) (s : State) : State :=
  if (s.slot k).state = .posted ∨ (s.slot k).state = .done then
    s.modSlot k (fun x => { x with state := .empty })
  else s

/-- Replace byte `i` of a bit vector. -/
def putByte {n : Nat} (v : BitVec n) (i : Nat) (b : Byte) : BitVec n :=
  (v &&& ~~~(BitVec.ofNat n (255 * 2 ^ (8 * i)))) ||| BitVec.ofNat n (b.toNat * 2 ^ (8 * i))

/-- The host field of a slot that an offset falls in takes a byte; the part-written fields discard it
(R183, section 11.11). -/
def putHostByte (o : Nat) (b : Byte) (h : HostFields) : HostFields :=
  if o = 3 then { h with flags := b }
  else if o = 4 then { h with kind := b }
  else if o = 5 then { h with exhibit := b }
  else if 6 ≤ o ∧ o ≤ 7 then { h with tag := putByte h.tag (o - 6) b }
  else if 8 ≤ o ∧ o ≤ 11 then { h with due := putByte h.due (o - 8) b }
  else if 26 ≤ o ∧ o ≤ 63 then { h with params := poke h.params (o - 26) b }
  else h

/-- A byte written in a slot (R183). -/
def writeSlotByte (k o : Nat) (b : Byte) (s : State) : State :=
  if o = 2 then
    if b = 1 then hostPost k s else if b = 0 then hostEmpty k s else s
  else if (s.slot k).state = .taken then s
  else s.modSlot k (fun x => { x with host := putHostByte o b x.host })

/-- A byte written in the journal area: FREE to the state field of a READY page, and nothing else
(R86). -/
def writeJournalByte (o : Nat) (b : Byte) (s : State) : State :=
  if o % 512 = 0 ∧ b = 0 then giveBack (o / 512) s else s

/-- One byte of a host write, filtered by the area and the field it lands in (R179). -/
def writeByte (a : Nat) (b : Byte) (s : State) : State :=
  if 0x200 ≤ a ∧ a < 0xA00 then writeSlotByte ((a - 0x200) / 64) ((a - 0x200) % 64) b s
  else if 0x3000 ≤ a ∧ a < 0x4000 then writeJournalByte (a - 0x3000) b s
  else if 0x4000 ≤ a ∧ a < 0xC000 then { s with mem := poke s.mem a b }
  else if 0xFFF0 ≤ a ∧ a < 0x10000 then writeRegister (a - 0xFFF0) b s
  else s

/-- A host write: a halfword is taken as two byte writes, one to each offset (R179). -/
def hostWriteOf (a : Nat) (d : HostData) (s : State) : State :=
  match d with
  | .byte b => writeByte a b s
  | .half h => writeByte ((a + 1) % 65536) (byteOf 1 h) (writeByte a (byteOf 0 h) s)

end Sys2Proof.Machine
end

