-- ==== Sys2Proof/Machine/Flags.lean ====
section
/-! DEFINITION. What the registers and the NOTICE_N line read (section 11.2), and the host's reads of
the exchange memory (R179, section 11.11). No command of the table reads, so nothing here changes the
state. -/

namespace Sys2Proof.Machine

/-- NOTICE_N is driven low while a category is set in both NOTICE and NOTICE ENABLE (R181). -/
def State.noticeLow (s : State) : Bool := (s.notice &&& s.enable) != 0

/-- IDENT: family code 0x32, silicon revision (section 11.2). -/
def identRead : Half := 0x32#8 ++ Config.siliconRevision

/-- SCAN: bit 0 ORDERS (R180). -/
def State.scanRead (s : State) : Half := if s.scanBit then 1 else 0

/-- CONTROL: bit 1 reads 1 while the mode is HALT, PART RESET reads 0 (R180). -/
def State.controlRead (s : State) : Half := if s.mode = .halt then 2 else 0

/-- ENABLE of a channel is driven active while its energised flag is set (R118). -/
def State.enableOut (s : State) (c : Nat) : Bool := (s.ch c).energised

/-- DIR is high while the direction is UP; an unowned channel holds it low (R123, R15). -/
def State.dirOut (s : State) (c : Nat) : Bool := (s.ch c).owner.isSome && (s.ch c).dir == .up

/-- Cue line `c` is active (R106). -/
def State.cueOut (s : State) (c : Nat) : Bool := (s.cue c).isSome

/-! ### The bytes of each record -/

/-- Byte `k` of a list of bytes, 0 beyond its end. -/
def byteAt (l : List Byte) (k : Nat) : Byte := l.getD k 0

/-- The 64 bytes of an order slot (section 11.11). -/
def slotBytes (x : Slot) : List Byte :=
  bytesOf 2 x.edit.toNat ++ bytesOf 1 x.state.code ++ [x.host.flags, x.host.kind, x.host.exhibit] ++
  bytesOf 2 x.host.tag.toNat ++ bytesOf 4 x.host.due.toNat ++ bytesOf 1 x.acceptance.code ++
  bytesOf 1 x.outcome.code ++ bytesOf 4 x.takenTick.toNat ++ bytesOf 4 x.doneTick.toNat ++
  bytesOf 4 x.result.toNat ++ (List.range 38).map (fun k => peek x.host.params k)

/-- The 16 bytes of a press record (section 11.11). -/
def recordBytes (r : PressRec) : List Byte :=
  bytesOf 2 r.seq.toNat ++ bytesOf 1 r.input ++ bytesOf 1 r.exhibit ++ bytesOf 4 r.tick.toNat ++
  bytesOf 1 r.action ++ bytesOf 1 r.outcome ++ bytesOf 1 r.routine ++ bytesOf 1 r.state ++ bytesOf 4 0

/-- The 16 bytes of a journal page header (section 11.11). -/
def pageHeaderBytes (p : Page) : List Byte :=
  bytesOf 2 p.state.code ++ bytesOf 2 p.count ++ bytesOf 2 p.firstSeq.toNat ++ bytesOf 2 0 ++
  bytesOf 4 p.handTick.toNat ++ bytesOf 4 0

/-- A byte of a journal page. -/
def pageByte (p : Page) (o : Nat) : Byte :=
  if o < 16 then byteAt (pageHeaderBytes p) o
  else byteAt (recordBytes (lookup .zero p.recs (o / 16 - 1))) (o % 16)

/-- A byte of a part-written record: the edit count, then the body. -/
def viewByte (edit : Half) (body : Nat → Byte) (o : Nat) : Byte :=
  if o < 2 then byteAt (bytesOf 2 edit.toNat) o else body (o - 2)

/-- The fields of a tally record, for its free layout (log entry 2). -/
def tallyFields (b : TallyBody) : List Nat :=
  [b.accepted.toNat, b.cls, b.exhibit, b.presses.toNat, b.acted.toNat, b.declined.toNat,
   b.suppressed.toNat, b.tokens, b.lastEvent.toNat]

/-- The fields of a group record, for its free layout (log entry 2). -/
def groupFields (b : GroupBody) : List Nat :=
  [b.budget, b.granted, b.waiting, b.head, b.headUnits, b.last]

/-- The fields of the denial capture. -/
def denialFields (d : Option Denial) : List Nat :=
  match d with
  | none => []
  | some d => [d.slot, d.source, d.kind.toNat, d.exhibit.toNat, d.tag.toNat, d.tick.toNat, d.later]

/-- The fields of the gallery header, for its free layout (log entry 2). -/
def headerFields (h : HeaderBody) : List Nat :=
  [h.mode, h.haltPin.toNat, h.linkMask.toNat, h.timeout, h.depth] ++
  addresses.flatMap (fun n =>
    let v := lookup ⟨0, 0, 0⟩ h.nodes n
    [v.state, v.miss.toNat, v.status.toNat]) ++
  [h.curPage, h.lastPage, h.nextSeq.toNat, h.free, h.largest, h.pending, h.bad.toNat,
   h.stale.toNat] ++
  (List.range 24).flatMap (fun c =>
    let v := lookup ⟨false, false, false, false⟩ h.levels c
    [v.home.toNat, v.limit.toNat, v.ready.toNat, v.fault.toNat]) ++
  [h.control.toNat, h.dueCount] ++ denialFields h.denial

/-- The byte that a host read of an exchange memory offset gives (R179). Unassigned offsets read 0. -/
def State.readByte (s : State) (a : Nat) : Byte :=
  if a < 0x200 then
    viewByte s.views.header.edit (Config.headerByte (headerFields s.views.header.body)) a
  else if a < 0xA00 then byteAt (slotBytes (s.slot ((a - 0x200) / 64))) ((a - 0x200) % 64)
  else if a < 0x1A00 then
    let v := s.exView ((a - 0xA00) / 128)
    viewByte v.edit (byteAt v.body) ((a - 0xA00) % 128)
  else if a < 0x2200 then 0
  else if a < 0x2800 then
    let v := lookup ⟨0, bytesOf 30 0⟩ s.views.calls ((a - 0x2200) / 32)
    viewByte v.edit (byteAt v.body) ((a - 0x2200) % 32)
  else if a < 0x2900 then
    let v := lookup ⟨0, .fresh⟩ s.views.groups ((a - 0x2800) / 64)
    viewByte v.edit (Config.groupByte (groupFields v.body)) ((a - 0x2800) % 64)
  else if a < 0x2A00 then
    let v := lookup ⟨0, ⟨0, 0⟩⟩ s.views.beacons ((a - 0x2900) / 4)
    viewByte v.edit (byteAt (bytesOf 1 v.body.addr ++ bytesOf 1 v.body.display)) ((a - 0x2900) % 4)
  else if a < 0x3000 then 0
  else if a < 0x4000 then pageByte (s.page ((a - 0x3000) / 512)) ((a - 0x3000) % 512)
  else if a < 0xC000 then peek s.mem a
  else if a < 0xE000 then
    let v := lookup ⟨0, .fresh⟩ s.views.tallies ((a - 0xC000) / 32)
    viewByte v.edit (Config.tallyByte (tallyFields v.body)) ((a - 0xC000) % 32)
  else if a < 0xFFF0 then 0
  else if a < 0xFFF2 then byteOf (a - 0xFFF0) identRead
  else if a < 0xFFF4 then byteOf (a - 0xFFF2) s.scanRead
  else if a < 0xFFF6 then byteOf (a - 0xFFF4) (s.notice.setWidth 16)
  else if a < 0xFFF8 then byteOf (a - 0xFFF6) (s.enable.setWidth 16)
  else if a < 0xFFFA then byteOf (a - 0xFFF8) s.controlRead
  else 0

end Sys2Proof.Machine
end

