-- ==== Sys2Proof/Machine/Meaning.lean ====
section
/-! DEFINITION. The form that every command's meaning has: everything handed over is acted on first,
then the command's own effect is made, and every changed view is written. -/

namespace Sys2Proof.Machine

/-- A command with an effect: settle, the effect, the views (log entry 6). -/
def act (f : State → State) (s : State) : Host.Outcome State Fault Refusal :=
  .next (publish (f (settle s)))

/-- A command that acts on one thing that has been handed over: no settling before it. -/
def actNow (f : State → State) (s : State) : Host.Outcome State Fault Refusal :=
  .next (publish (f s))

/-- More than 1 ms passes between two bytes of a frame: the frame is bad and the receiver hunts again
(R160). While it hunts, a gap is no event. -/
def gapPasses (s : State) : State :=
  match s.rx with
  | none => s
  | some _ => countBad { s with rx := none }

end Sys2Proof.Machine
end

