-- ==== Sys2Proof/Machine/AxisCommands.lean ====
section
/-! DEFINITION. Meanings: events of the axis channels. -/

namespace Sys2Proof.Machine

/-- MOTION_TICK (R120, R125). -/
def execMotionTick (ch : Fin 24) (s : State) : Host.Outcome State Fault Refusal :=
  act (motionTickOf ch.val) s

/-- HOMING_TICK (R133). -/
def execHomingTick (ch : Fin 24) (s : State) : Host.Outcome State Fault Refusal :=
  act (homingTickOf ch.val) s

/-- BRAKING_TICK (R128). -/
def execBrakingTick (ch : Fin 24) (s : State) : Host.Outcome State Fault Refusal :=
  act (brakingTickOf ch.val) s

/-- DEADLINE_OVERRUN: the fault capture takes the overrun report of a channel (R126, R172). -/
def execDeadlineOverrun (ch : Fin 24) (s : State) : Host.Outcome State Fault Refusal :=
  actNow (deliverFirst (Handed.isOverrunOf ch.val)) s

/-- HOME_ACTIVE (R133). -/
def execHomeActive (ch : Fin 24) (s : State) : Host.Outcome State Fault Refusal :=
  act (homeOn ch.val) s

/-- LIMIT_ACTIVE (R135). -/
def execLimitActive (ch : Fin 24) (s : State) : Host.Outcome State Fault Refusal :=
  act (limitOn ch.val) s

/-- DRV_READY_ACTIVE (R124). -/
def execDrvReadyActive (ch : Fin 24) (s : State) : Host.Outcome State Fault Refusal :=
  act (readyOn ch.val) s

/-- DRV_FAULT_ACTIVE (R136). -/
def execDrvFaultActive (ch : Fin 24) (s : State) : Host.Outcome State Fault Refusal :=
  act (faultOn ch.val) s

/-- CHANNEL_INPUT_CHANGE: a sampled change of a channel input (R135). -/
def execChannelInputChange (ch : Fin 24) (input : ChanInput) (level : Bool) (s : State) : Host.Outcome State Fault Refusal :=
  act (sampleChange ch.val input level) s

end Sys2Proof.Machine
end

