-- ==== Sys2Proof/Machine/ClockCommands.lean ====
section
/-! DEFINITION. Meanings: expiries of the gallery clock, and grants. -/

namespace Sys2Proof.Machine

/-- REFILL_EXPIRY (R69). -/
def execRefillExpiry (input : Fin 256) (s : State) : Host.Outcome State Fault Refusal :=
  act (refillDue input.val) s

/-- LINGER_EXPIRY (R91). -/
def execLingerExpiry (s : State) : Host.Outcome State Fault Refusal :=
  act lingerDue s

/-- REST_TIMER_EXPIRY (R33). -/
def execRestTimerExpiry (e : Fin 32) (s : State) : Host.Outcome State Fault Refusal :=
  act (restExpired e.val) s

/-- GRANT: the exhibit acts on the first grant handed to it (R142). -/
def execGrant (s : State) : Host.Outcome State Fault Refusal :=
  actNow (deliverFirst Handed.isGrant) s

/-- CUE_PULSE_END (R106). -/
def execCuePulseEnd (line : Fin 8) (s : State) : Host.Outcome State Fault Refusal :=
  act (cueEnd (line.val + 1)) s

/-- DWELL_EXPIRY (R108). -/
def execDwellExpiry (e : Fin 32) (s : State) : Host.Outcome State Fault Refusal :=
  act (dwellExpired e.val) s

/-- ESCALATION_EXPIRY (R155). -/
def execEscalationExpiry (call : Fin 48) (s : State) : Host.Outcome State Fault Refusal :=
  act (escalate call.val) s

/-- HOLD_EXPIRY: an acknowledged HELP cause's hold expiry falls due (R163). -/
def execHoldExpiry (e : Fin 32) (s : State) : Host.Outcome State Fault Refusal :=
  act (helpHoldDue e.val) s

/-- REFRESH_EXPIRY (R159). -/
def execRefreshExpiry (entry : Fin 64) (s : State) : Host.Outcome State Fault Refusal :=
  act (refreshDue entry.val) s

end Sys2Proof.Machine
end

