-- ==== Sys2Proof/Machine/OrderCommands.lean ====
section
/-! DEFINITION. Meanings: the 25 orders, each posted in its slot and taken. -/

namespace Sys2Proof.Machine

/-- BRING_UP_EXHIBIT: the order is posted in its slot and taken (R12 to R14). -/
def execBringUpExhibit (h : OrderHead) (offset : Half) (s : State) : Host.Outcome State Fault Refusal :=
  act (postAndTake h (.bringUp offset)) s

/-- RETIRE_EXHIBIT: the order is posted in its slot and taken (R16, R17). -/
def execRetireExhibit (h : OrderHead) (s : State) : Host.Outcome State Fault Refusal :=
  act (postAndTake h .retire) s

/-- SET_ACCESS: the order is posted in its slot and taken (R19). -/
def execSetAccess (h : OrderHead) (mask : Byte) (s : State) : Host.Outcome State Fault Refusal :=
  act (postAndTake h (.setAccess mask)) s

/-- HOME_EXHIBIT: the order is posted in its slot and taken (R45, R46). -/
def execHomeExhibit (h : OrderHead) (s : State) : Host.Outcome State Fault Refusal :=
  act (postAndTake h .home) s

/-- STOP_EXHIBIT: the order is posted in its slot and taken (R47). -/
def execStopExhibit (h : OrderHead) (s : State) : Host.Outcome State Fault Refusal :=
  act (postAndTake h .stop) s

/-- HOLD: the order is posted in its slot and taken (R43). -/
def execHold (h : OrderHead) (s : State) : Host.Outcome State Fault Refusal :=
  act (postAndTake h .hold) s

/-- RELEASE: the order is posted in its slot and taken (R43). -/
def execRelease (h : OrderHead) (s : State) : Host.Outcome State Fault Refusal :=
  act (postAndTake h .release) s

/-- LOCK_OUT: the order is posted in its slot and taken (R44). -/
def execLockOut (h : OrderHead) (s : State) : Host.Outcome State Fault Refusal :=
  act (postAndTake h .lockOut) s

/-- RETURN_TO_SERVICE: the order is posted in its slot and taken (R44). -/
def execReturnToService (h : OrderHead) (s : State) : Host.Outcome State Fault Refusal :=
  act (postAndTake h .returnToService) s

/-- SET_GALLERY_MODE: the order is posted in its slot and taken (R39). -/
def execSetGalleryMode (h : OrderHead) (mode : Byte) (s : State) : Host.Outcome State Fault Refusal :=
  act (postAndTake h (.setMode mode)) s

/-- SET_LAMPS: the order is posted in its slot and taken (R41). -/
def execSetLamps (h : OrderHead) (pattern : Byte) (s : State) : Host.Outcome State Fault Refusal :=
  act (postAndTake h (.setLamps pattern)) s

/-- SET_STATION_LINK: the order is posted in its slot and taken (R62). -/
def execSetStationLink (h : OrderHead) (mask : Word) (timeout : Half) (depth : Byte) (s : State) : Host.Outcome State Fault Refusal :=
  act (postAndTake h (.setLink mask timeout depth)) s

/-- RUN_ROUTINE: the order is posted in its slot and taken (R113). -/
def execRunRoutine (h : OrderHead) (routine : Byte) (s : State) : Host.Outcome State Fault Refusal :=
  act (postAndTake h (.runRoutine routine)) s

/-- STEP: the order is posted in its slot and taken (R115). -/
def execStepRun (h : OrderHead) (s : State) : Host.Outcome State Fault Refusal :=
  act (postAndTake h .stepRun) s

/-- COMMIT_ROUTINE: the order is posted in its slot and taken (R97 to R101). -/
def execCommitRoutine (h : OrderHead) (routine : Byte) (offset : Half) (s : State) : Host.Outcome State Fault Refusal :=
  act (postAndTake h (.commit routine offset)) s

/-- CLEAR_ROUTINE: the order is posted in its slot and taken (R102). -/
def execClearRoutine (h : OrderHead) (routine : Byte) (s : State) : Host.Outcome State Fault Refusal :=
  act (postAndTake h (.clearRoutine routine)) s

/-- SET_BUDGET: the order is posted in its slot and taken (R146). -/
def execSetBudget (h : OrderHead) (group : Byte) (budget : Half) (s : State) : Host.Outcome State Fault Refusal :=
  act (postAndTake h (.setBudget group budget)) s

/-- SET_ZONE: the order is posted in its slot and taken (R167). -/
def execSetZone (h : OrderHead) (z : ZoneParams) (s : State) : Host.Outcome State Fault Refusal :=
  act (postAndTake h (.setZone z)) s

/-- RAISE_CALL: the order is posted in its slot and taken (R164). -/
def execRaiseCall (h : OrderHead) (severity : Byte) (s : State) : Host.Outcome State Fault Refusal :=
  act (postAndTake h (.raiseCall severity)) s

/-- ACKNOWLEDGE_CALL: the order is posted in its slot and taken (R165). -/
def execAcknowledgeCall (h : OrderHead) (cause : Byte) (s : State) : Host.Outcome State Fault Refusal :=
  act (postAndTake h (.ackCall cause)) s

/-- CLEAR_CALL: the order is posted in its slot and taken (R166). -/
def execClearCall (h : OrderHead) (cause : Byte) (s : State) : Host.Outcome State Fault Refusal :=
  act (postAndTake h (.clearCall cause)) s

/-- CLEAR_FAULT: the order is posted in its slot and taken (R177). -/
def execClearFault (h : OrderHead) (s : State) : Host.Outcome State Fault Refusal :=
  act (postAndTake h .clearFault) s

/-- SET_CONTROL: the order is posted in its slot and taken (R186). -/
def execSetControl (h : OrderHead) (mask : Byte) (s : State) : Host.Outcome State Fault Refusal :=
  act (postAndTake h (.setControl mask)) s

/-- SET_CLOCK: the order is posted in its slot and taken (R190). -/
def execSetClock (h : OrderHead) (tick : Tick) (s : State) : Host.Outcome State Fault Refusal :=
  act (postAndTake h (.setClock tick)) s

/-- CANCEL: the order is posted in its slot and taken (R189). -/
def execCancel (h : OrderHead) (slot : Byte) (s : State) : Host.Outcome State Fault Refusal :=
  act (postAndTake h (.cancel slot)) s

end Sys2Proof.Machine
end

