-- ==== Sys2Proof/Machine/PortCommands.lean ====
section
/-! DEFINITION. Meanings: the host's commands to the exchange port and the order unit's own steps. -/

namespace Sys2Proof.Machine

/-- POWER_ON (R191). -/
def execPowerOn (s : State) : Host.Outcome State Fault Refusal :=
  act powerOn s

/-- PART_RESET: a write of 1 to the PART RESET bit of CONTROL (R191). -/
def execPartReset (s : State) : Host.Outcome State Fault Refusal :=
  act partReset s

/-- CONTROL_HALT: a write of 1 to the HALT bit of CONTROL (R38, R180). -/
def execControlHalt (s : State) : Host.Outcome State Fault Refusal :=
  act enterHalt s

/-- SCAN_ORDERS: a write of 1 to the ORDERS bit of SCAN (R180, R184). -/
def execScanOrders (s : State) : Host.Outcome State Fault Refusal :=
  act requestOrdersScan s

/-- NOTICE_CLEAR: a write of 1 to NOTICE bits (R181, R187). -/
def execNoticeClear (bits : BitVec 6) (s : State) : Host.Outcome State Fault Refusal :=
  act (clearNotices bits) s

/-- NOTICE_ENABLE_WRITE (R181). -/
def execNoticeEnableWrite (bits : BitVec 6) (s : State) : Host.Outcome State Fault Refusal :=
  act (writeEnable bits) s

/-- REGISTER_WRITE: a byte written in the register area (R180). -/
def execRegisterWrite (offset : Fin 16) (value : Byte) (s : State) : Host.Outcome State Fault Refusal :=
  act (writeRegister offset.val value) s

/-- HOST_WRITE: a host write through the filter (R179). -/
def execHostWrite (offset : Half) (data : HostData) (s : State) : Host.Outcome State Fault Refusal :=
  act (hostWriteOf offset.toNat data) s

/-- SLOT_POST: POSTED over EMPTY or DONE (R183). -/
def execSlotPost (slot : Fin 32) (s : State) : Host.Outcome State Fault Refusal :=
  act (hostPost slot.val) s

/-- SLOT_EMPTY: EMPTY over POSTED or DONE (R183). -/
def execSlotEmpty (slot : Fin 32) (s : State) : Host.Outcome State Fault Refusal :=
  act (hostEmpty slot.val) s

/-- PAGE_FREE: FREE over a READY page (R92). -/
def execPageFree (page : Fin 8) (s : State) : Host.Outcome State Fault Refusal :=
  act (giveBack page.val) s

/-- SCAN_PERIOD: 20 ms have passed (R184). -/
def execScanPeriod (s : State) : Host.Outcome State Fault Refusal :=
  act requestScan s

/-- SCAN_PASS: a pass starts (R184). -/
def execScanPass (s : State) : Host.Outcome State Fault Refusal :=
  act startPass s

/-- TAKE: the pass takes its next POSTED slot (R184, R185). -/
def execTake (s : State) : Host.Outcome State Fault Refusal :=
  act takeNext s

/-- DUE_EXPIRY: the first due-list entry falls due (R188). -/
def execDueExpiry (s : State) : Host.Outcome State Fault Refusal :=
  act dueEvent s

end Sys2Proof.Machine
end

