-- ==== Sys2Proof/Machine/WireCommands.lean ====
section
/-! DEFINITION. Meanings: events of the GALLERY_HALT pin and the two serial links. -/

namespace Sys2Proof.Machine

/-- GALLERY_HALT_LOW (R38). -/
def execGalleryHaltLow (s : State) : Host.Outcome State Fault Refusal :=
  act haltPinLow s

/-- GALLERY_HALT_HIGH (R39). -/
def execGalleryHaltHigh (s : State) : Host.Outcome State Fault Refusal :=
  act haltPinHigh s

/-- POLL (R49, R50). -/
def execPoll (s : State) : Host.Outcome State Fault Refusal :=
  act sendPoll s

/-- REPLY: bytes arrive on the station link (R51, R52). -/
def execReply (bytes : List RxByte) (s : State) : Host.Outcome State Fault Refusal :=
  act (receiveReply bytes) s

/-- REPLY_TIMEOUT: the reply window closes (R51, R52). -/
def execReplyTimeout (s : State) : Host.Outcome State Fault Refusal :=
  act windowCloses s

/-- BEACON (R159). -/
def execBeacon (s : State) : Host.Outcome State Fault Refusal :=
  act sendBeacon s

/-- DARK (R159). -/
def execDark (s : State) : Host.Outcome State Fault Refusal :=
  act sendDark s

/-- ACK: a good ACK frame arrives (R160, R161). -/
def execAck (call : Byte) (gen : Byte) (tag : Byte) (s : State) : Host.Outcome State Fault Refusal :=
  act (receiveBytes (ackFrame call gen tag)) s

/-- BAD_FRAME: attendant bytes arrive (R160). -/
def execBadFrame (bytes : List RxByte) (s : State) : Host.Outcome State Fault Refusal :=
  act (receiveBytes bytes) s

/-- INTERBYTE_GAP: more than 1 ms passes inside a frame (R160). -/
def execInterbyteGap (s : State) : Host.Outcome State Fault Refusal :=
  act gapPasses s

end Sys2Proof.Machine
end

