-- ==== Sys2Proof/Machine/Dispatch.lean ====
section
/-! DEFINITION. The dispatch: one arm for each command. -/

namespace Sys2Proof.Machine

def exec (i : Instr) (s : State) : Host.Outcome State Fault Refusal :=
  match i with
  | .powerOn => Sys2Proof.Machine.execPowerOn s
  | .partReset => Sys2Proof.Machine.execPartReset s
  | .controlHalt => Sys2Proof.Machine.execControlHalt s
  | .scanOrders => Sys2Proof.Machine.execScanOrders s
  | .noticeClear bits => Sys2Proof.Machine.execNoticeClear bits s
  | .noticeEnableWrite bits => Sys2Proof.Machine.execNoticeEnableWrite bits s
  | .registerWrite offset value => Sys2Proof.Machine.execRegisterWrite offset value s
  | .hostWrite offset data => Sys2Proof.Machine.execHostWrite offset data s
  | .slotPost slot => Sys2Proof.Machine.execSlotPost slot s
  | .slotEmpty slot => Sys2Proof.Machine.execSlotEmpty slot s
  | .pageFree page => Sys2Proof.Machine.execPageFree page s
  | .scanPeriod => Sys2Proof.Machine.execScanPeriod s
  | .scanPass => Sys2Proof.Machine.execScanPass s
  | .take => Sys2Proof.Machine.execTake s
  | .dueExpiry => Sys2Proof.Machine.execDueExpiry s
  | .bringUpExhibit h offset => Sys2Proof.Machine.execBringUpExhibit h offset s
  | .retireExhibit h => Sys2Proof.Machine.execRetireExhibit h s
  | .setAccess h mask => Sys2Proof.Machine.execSetAccess h mask s
  | .homeExhibit h => Sys2Proof.Machine.execHomeExhibit h s
  | .stopExhibit h => Sys2Proof.Machine.execStopExhibit h s
  | .hold h => Sys2Proof.Machine.execHold h s
  | .release h => Sys2Proof.Machine.execRelease h s
  | .lockOut h => Sys2Proof.Machine.execLockOut h s
  | .returnToService h => Sys2Proof.Machine.execReturnToService h s
  | .setGalleryMode h mode => Sys2Proof.Machine.execSetGalleryMode h mode s
  | .setLamps h pattern => Sys2Proof.Machine.execSetLamps h pattern s
  | .setStationLink h mask timeout depth => Sys2Proof.Machine.execSetStationLink h mask timeout depth s
  | .runRoutine h routine => Sys2Proof.Machine.execRunRoutine h routine s
  | .stepRun h => Sys2Proof.Machine.execStepRun h s
  | .commitRoutine h routine offset => Sys2Proof.Machine.execCommitRoutine h routine offset s
  | .clearRoutine h routine => Sys2Proof.Machine.execClearRoutine h routine s
  | .setBudget h group budget => Sys2Proof.Machine.execSetBudget h group budget s
  | .setZone h z => Sys2Proof.Machine.execSetZone h z s
  | .raiseCall h severity => Sys2Proof.Machine.execRaiseCall h severity s
  | .acknowledgeCall h cause => Sys2Proof.Machine.execAcknowledgeCall h cause s
  | .clearCall h cause => Sys2Proof.Machine.execClearCall h cause s
  | .clearFault h => Sys2Proof.Machine.execClearFault h s
  | .setControl h mask => Sys2Proof.Machine.execSetControl h mask s
  | .setClock h tick => Sys2Proof.Machine.execSetClock h tick s
  | .cancel h slot => Sys2Proof.Machine.execCancel h slot s
  | .galleryHaltLow => Sys2Proof.Machine.execGalleryHaltLow s
  | .galleryHaltHigh => Sys2Proof.Machine.execGalleryHaltHigh s
  | .poll => Sys2Proof.Machine.execPoll s
  | .reply bytes => Sys2Proof.Machine.execReply bytes s
  | .replyTimeout => Sys2Proof.Machine.execReplyTimeout s
  | .refillExpiry input => Sys2Proof.Machine.execRefillExpiry input s
  | .lingerExpiry => Sys2Proof.Machine.execLingerExpiry s
  | .restTimerExpiry e => Sys2Proof.Machine.execRestTimerExpiry e s
  | .grant => Sys2Proof.Machine.execGrant s
  | .cuePulseEnd line => Sys2Proof.Machine.execCuePulseEnd line s
  | .motionTick ch => Sys2Proof.Machine.execMotionTick ch s
  | .homingTick ch => Sys2Proof.Machine.execHomingTick ch s
  | .brakingTick ch => Sys2Proof.Machine.execBrakingTick ch s
  | .deadlineOverrun ch => Sys2Proof.Machine.execDeadlineOverrun ch s
  | .dwellExpiry e => Sys2Proof.Machine.execDwellExpiry e s
  | .homeActive ch => Sys2Proof.Machine.execHomeActive ch s
  | .limitActive ch => Sys2Proof.Machine.execLimitActive ch s
  | .drvReadyActive ch => Sys2Proof.Machine.execDrvReadyActive ch s
  | .drvFaultActive ch => Sys2Proof.Machine.execDrvFaultActive ch s
  | .channelInputChange ch input level => Sys2Proof.Machine.execChannelInputChange ch input level s
  | .escalationExpiry call => Sys2Proof.Machine.execEscalationExpiry call s
  | .holdExpiry e => Sys2Proof.Machine.execHoldExpiry e s
  | .refreshExpiry entry => Sys2Proof.Machine.execRefreshExpiry entry s
  | .beacon => Sys2Proof.Machine.execBeacon s
  | .dark => Sys2Proof.Machine.execDark s
  | .ack call gen tag => Sys2Proof.Machine.execAck call gen tag s
  | .badFrame bytes => Sys2Proof.Machine.execBadFrame bytes s
  | .interbyteGap => Sys2Proof.Machine.execInterbyteGap s

end Sys2Proof.Machine
end

