-- ==== Sys2Proof/Safety.lean ====
section
/-! DEFINITION. The terms that claims about the part use: frames, the outcome of an order in its slot,
who may give an order, what the arbiter, a move, a press and a call come to, and the invariants that
every step keeps. -/

namespace Sys2Proof.Machine

/-! ### Frames -/

/-- The fields of `State`, by name, so that a frame can list those that a command may change. -/
inductive Field where
  | pending | tick | mem | slots | lastTaken | pass
  | scanBit | scanKept | dueList | control | denial | notice
  | enable | mode | haltPin | exhibits | linkMask | linkTimeout
  | depth | nodes | inputs | pollPos | window | linkTx
  | pages | curPage | lastPage | nextSeq | linger | routines
  | pool | channels | groups | handed | calls | zones
  | beacons | lastServed | badFrames | staleAcks | rx | attTx
  | cues | views
  deriving DecidableEq, Repr

/-- A field is the same in two states. -/
def Field.kept : Field → State → State → Prop
  | .pending, s, t => t.pending = s.pending
  | .tick, s, t => t.tick = s.tick
  | .mem, s, t => t.mem = s.mem
  | .slots, s, t => t.slots = s.slots
  | .lastTaken, s, t => t.lastTaken = s.lastTaken
  | .pass, s, t => t.pass = s.pass
  | .scanBit, s, t => t.scanBit = s.scanBit
  | .scanKept, s, t => t.scanKept = s.scanKept
  | .dueList, s, t => t.dueList = s.dueList
  | .control, s, t => t.control = s.control
  | .denial, s, t => t.denial = s.denial
  | .notice, s, t => t.notice = s.notice
  | .enable, s, t => t.enable = s.enable
  | .mode, s, t => t.mode = s.mode
  | .haltPin, s, t => t.haltPin = s.haltPin
  | .exhibits, s, t => t.exhibits = s.exhibits
  | .linkMask, s, t => t.linkMask = s.linkMask
  | .linkTimeout, s, t => t.linkTimeout = s.linkTimeout
  | .depth, s, t => t.depth = s.depth
  | .nodes, s, t => t.nodes = s.nodes
  | .inputs, s, t => t.inputs = s.inputs
  | .pollPos, s, t => t.pollPos = s.pollPos
  | .window, s, t => t.window = s.window
  | .linkTx, s, t => t.linkTx = s.linkTx
  | .pages, s, t => t.pages = s.pages
  | .curPage, s, t => t.curPage = s.curPage
  | .lastPage, s, t => t.lastPage = s.lastPage
  | .nextSeq, s, t => t.nextSeq = s.nextSeq
  | .linger, s, t => t.linger = s.linger
  | .routines, s, t => t.routines = s.routines
  | .pool, s, t => t.pool = s.pool
  | .channels, s, t => t.channels = s.channels
  | .groups, s, t => t.groups = s.groups
  | .handed, s, t => t.handed = s.handed
  | .calls, s, t => t.calls = s.calls
  | .zones, s, t => t.zones = s.zones
  | .beacons, s, t => t.beacons = s.beacons
  | .lastServed, s, t => t.lastServed = s.lastServed
  | .badFrames, s, t => t.badFrames = s.badFrames
  | .staleAcks, s, t => t.staleAcks = s.staleAcks
  | .rx, s, t => t.rx = s.rx
  | .attTx, s, t => t.attTx = s.attTx
  | .cues, s, t => t.cues = s.cues
  | .views, s, t => t.views = s.views

/-- Every field of the state outside a list is unchanged. -/
def KeptBut (fs : List Field) (s t : State) : Prop := ∀ f, f ∉ fs → Field.kept f s t

/-- What every command may change besides its own effect: the views, and the notices of changed
views (R181, R182). -/
def viewFields : List Field := [.views, .notice]

/-- What the handling of an order may change besides the order's own effect (R183 to R185). -/
def orderFields : List Field := [.slots, .lastTaken, .pass, .notice, .views]

/-- The fields that the exhibits, with the blocks they act on, may change. -/
def exhibitFields : List Field :=
  [.slots, .lastTaken, .pass, .notice, .views, .exhibits, .channels, .groups, .handed, .calls, .beacons,
   .routines, .cues]

/-- Every exhibit but one is unchanged. -/
def OtherExhibits (e : Nat) (s t : State) : Prop := ∀ j, j ≠ e → t.ex j = s.ex j
/-- Every slot but one is unchanged. -/
def OtherSlots (k : Nat) (s t : State) : Prop := ∀ j, j ≠ k → t.slot j = s.slot j
/-- Every channel but one is unchanged. -/
def OtherChannels (c : Nat) (s t : State) : Prop := ∀ j, j ≠ c → t.ch j = s.ch j
/-- Every input but one is unchanged. -/
def OtherInputs (i : Nat) (s t : State) : Prop := ∀ j, j ≠ i → t.inp j = s.inp j

/-! ### Orders -/

/-- The command that gives an order. -/
def orderCommand (h : OrderHead) : OrderBody → Instr
  | .bringUp o => .bringUpExhibit h o
  | .retire => .retireExhibit h
  | .setAccess m => .setAccess h m
  | .home => .homeExhibit h
  | .stop => .stopExhibit h
  | .hold => .hold h
  | .release => .release h
  | .lockOut => .lockOut h
  | .returnToService => .returnToService h
  | .setMode m => .setGalleryMode h m
  | .setLamps p => .setLamps h p
  | .setLink m t d => .setStationLink h m t d
  | .runRoutine r => .runRoutine h r
  | .stepRun => .stepRun h
  | .commit r o => .commitRoutine h r o
  | .clearRoutine r => .clearRoutine h r
  | .setBudget g b => .setBudget h g b
  | .setZone z => .setZone h z
  | .raiseCall v => .raiseCall h v
  | .ackCall c => .acknowledgeCall h c
  | .clearCall c => .clearCall h c
  | .clearFault => .clearFault h
  | .setControl m => .setControl h m
  | .setClock t => .setClock h t
  | .cancel n => .cancel h n

/-- The exhibit number that an order's exhibit field holds. -/
def OrderHead.ex (h : OrderHead) : Nat := h.exhibit.toNat

/-- The order's slot is not TAKEN, so the host may post in it (R183). -/
abbrev SlotOpen (u : State) (h : OrderHead) : Prop := (u.slot h.slot.val).state ≠ .taken

/-- The order carries no due tick. -/
abbrev Untimed (h : OrderHead) : Prop := h.flags.getLsbD 0 = false

/-- The exhibit field names an installed exhibit without retire pending (R42). -/
abbrev NamesExhibit (u : State) (h : OrderHead) : Prop :=
  OrderHead.ex h ≤ 31 ∧ (u.ex (OrderHead.ex h)).installed = true ∧ (u.ex (OrderHead.ex h)).retire = none

/-- The slot is open and its source may give the named exhibit orders (R42, R186). -/
abbrev MayOrderExhibit (u : State) (h : OrderHead) : Prop :=
  SlotOpen u h ∧ NamesExhibit u h ∧ (u.ex (OrderHead.ex h)).access.getLsbD (sourceOf h.slot.val) = true

/-- The slot is open and its source is in the control mask (R186). -/
abbrev MayOrderGallery (u : State) (h : OrderHead) : Prop :=
  SlotOpen u h ∧ u.control.getLsbD (sourceOf h.slot.val) = true

/-- The order of a slot has been accepted and has completed DONE with a result word, and the ORDERS
notice is set (R185). -/
def SlotDone (u t : State) (h : OrderHead) (b : OrderBody) (r : Word) : Prop :=
  let x := t.slot h.slot.val
  x.state = .done ∧ x.acceptance = .accepted ∧ x.outcome = .done ∧ x.result = r ∧
  x.takenTick = u.tick ∧ x.doneTick = t.tick ∧ x.host = hostFieldsOf h b ∧
  t.lastTaken = h.slot.val ∧ t.notice.getLsbD 0 = true

/-- The order of a slot has been accepted and stays TAKEN (R184, R185). -/
def SlotWaits (u t : State) (h : OrderHead) (b : OrderBody) : Prop :=
  let x := t.slot h.slot.val
  x.state = .taken ∧ x.acceptance = .accepted ∧ x.outcome = .none ∧ x.result = 0 ∧
  x.takenTick = u.tick ∧ x.doneTick = 0 ∧ x.host = hostFieldsOf h b ∧ t.lastTaken = h.slot.val

/-- The order of a slot has been refused at its take (R185). -/
def SlotRefused (u t : State) (h : OrderHead) (b : OrderBody) (a : Acceptance) (r : Word) : Prop :=
  let x := t.slot h.slot.val
  x.state = .done ∧ x.acceptance = a ∧ x.outcome = .refused ∧ x.result = r ∧
  x.takenTick = u.tick ∧ x.doneTick = u.tick ∧ x.host = hostFieldsOf h b ∧
  t.lastTaken = h.slot.val ∧ t.notice.getLsbD 0 = true

/-- A refusal changes nothing but the slot's handling (R185). -/
def RefusedOnly (u t : State) (h : OrderHead) (b : OrderBody) (a : Acceptance) (r : Word) : Prop :=
  SlotRefused u t h b a r ∧ OtherSlots h.slot.val u t ∧ KeptBut orderFields u t

/-! ### The load arbiter (chapter 8) -/

/-- The place of an exhibit in the rotation that starts after the last-granted one: 0 is first (R140). -/
def rotationPlace (last : Option Nat) (e : Nat) : Nat :=
  match last with
  | none => e
  | some l => (e + 31 - l) % 32

/-- A group's wait list is in exhibit-number order with one place for each exhibit, and it and the
last-granted exhibit hold exhibit numbers (R138). -/
abbrev WaitOrdered (g : Group) : Prop :=
  g.wait.Pairwise (fun a b => a.ex < b.ex) ∧ (∀ q ∈ g.wait, q.ex < 32) ∧ g.last.getD 0 < 32

/-- A waiting request that comes first in the rotation (R140 step 1). -/
abbrev FirstInRotation (g : Group) (r : Request) : Prop :=
  r ∈ g.wait ∧ ∀ q ∈ g.wait, rotationPlace g.last r.ex ≤ rotationPlace g.last q.ex

/-- Between two states an exhibit has asked for units: its request waits, or its grant has been handed
(R139, R142). -/
def Asked (u t : State) (e units : Nat) (p : Purpose) : Prop :=
  t.request e = some ⟨e, units, p⟩ ∨ ∃ l, t.handed = u.handed ++ l ∧ Handed.grant e p ∈ l

/-- The units of a homing claim (R30). -/
def homingClaim (u : State) (e : Nat) : Nat :=
  if u.energised e then (u.ex e).runUnits (u.ex e).axisSlots else (u.ex e).allRunLoads

/-- A claim of at least one unit that the exhibit's group can serve. -/
abbrev WithinBudget (u : State) (e claim : Nat) : Prop :=
  0 < claim ∧ claim ≤ (u.group (u.ex e).group).budget

/-! ### Moves (chapter 7) -/

/-- A channel at the start of a WAYPOINT move toward the clamped target `T` (R119, R121, R124). At the
target already, the axis arrives at the start. -/
def StartedToward (a : AxisRec) (T : Int) (percent exp : Nat) (c d : Channel) : Prop :=
  (c.p ≠ T * 1000 → d = { c with
    state := .moving, kind := some .waypoint, phase := some .rampUp, v := 0, target := some T,
    vc := max a.vmin (a.vmax * percent / 100), counter := 0, exp := exp,
    dir := if c.p < T * 1000 then .up else .down }) ∧
  (c.p = T * 1000 → a.confirm = false ∨ c.ready = true →
    d.state = .idle ∧ d.kind = none ∧ d.p = c.p ∧ d.v = 0 ∧ d.pulses = c.pulses) ∧
  (c.p = T * 1000 → a.confirm = true → c.ready = false →
    d.state = .confirming ∧ d.kind = some .waypoint ∧ d.target = some T ∧ d.p = c.p ∧ d.v = 0 ∧
    d.counter = 0 ∧ d.exp = exp ∧ d.pulses = c.pulses)

/-- A channel at the start of a HOMING move: an axis whose HOME is active is set at once (R132). -/
def StartedHoming (a : AxisRec) (c d : Channel) : Prop :=
  (c.home = false → d = { c with
    state := .moving, kind := some .homing, phase := some .rampUp, v := 0, target := none,
    vc := a.homeSpeed, counter := 0, exp := a.homeExp,
    dir := match a.dir with | .towardLow => .down | .towardHigh => .up }) ∧
  (c.home = true →
    d.state = .idle ∧ d.kind = none ∧ d.p = a.home * 1000 ∧ d.v = 0 ∧ d.pulses = c.pulses)

/-! ### Events of the station inputs (chapter 4) -/

/-- The levels of a node's inputs are handed in ascending input number: each that is not the accepted
level is one event, closed before the next (R56, R58, R59, R64). -/
def LevelsHanded (n : Nat) (u t : State) : Prop :=
  ∃ m : Nat → State, m 0 = u ∧ m 8 = t ∧ ∀ k, k < 8 → let i := 8 * (n - 1) + k
    m (k + 1) = if ((m k).inp i).accepted = formLevel (m k) i then m k
      else closeEvent (inputEvent i (formLevel (m k) i) (m k))

/-- A press has been counted in its input's record, with what it adds to the acted, declined and
suppressed tallies and the bucket it leaves; every other input stands (R65 step 1, R66). -/
def Pressed (v w : State) (i : Nat) (acted declined suppressed : Word) (b : Option Bucket) : Prop :=
  w.inp i = { v.inp i with
    accepted := true, presses := (v.inp i).presses + 1, lastEvent := v.tick,
    acted := (v.inp i).acted + acted, declined := (v.inp i).declined + declined,
    suppressed := (v.inp i).suppressed + suppressed, bucket := b } ∧ OtherInputs i v w

/-- The record of a press on a BUTTON of exhibit `e`, before it is numbered (R67, R87). -/
def pressOf (v : State) (i e outcome routine : Nat) : PressRec :=
  ⟨0, i, e, v.tick, ((v.ex e).actionAt i).code, outcome, routine, (v.ex e).state.code⟩

/-- A press on a BUTTON of exhibit `e` that reaches step 6 of R65, with the bucket it finds. -/
abbrev PressPasses (v : State) (i e : Nat) (b : Bucket) : Prop :=
  (v.inp i).owner = some e ∧ v.classOf i = some .button ∧ v.mode = .open ∧
  (v.inp i).bucket = some b ∧ 0 < b.tokens

/-- One token has been spent; a spend from a full bucket starts the refill countdown (R68). -/
def spent (v : State) (e : Nat) (b : Bucket) : Bucket :=
  ⟨b.tokens - 1, if b.tokens = capacityOf (v.ex e)
    then some (Machine.after v.tick (refillMs (v.ex e))) else b.refill⟩

/-- A press that spent its token is ACTED, QUEUED or RESTARTED by its outcome code, or declined; `w` is
the state after its effect, and its record is then placed (R65 step 6, R66, R67). -/
def PressTaken (v w t : State) (i e : Nat) (b : Bucket) (outcome routine : Nat) : Prop :=
  t = placeRecord (pressOf v i e outcome routine) w ∧
  Pressed v w i (if outcome ≤ 3 then 1 else 0) (if outcome ≤ 3 then 0 else 1) 0 (some (spent v e b))

/-! ### Calls and beacons (chapter 9) -/

/-- A call is preferred to another at a beacon: RINGING first, then the higher severity, then the older
raise tick, then the lower call number (R157). -/
def CallPreferred (now : Tick) (n : Nat) (c : Call) (m : Nat) (d : Call) : Prop :=
  (c.ack = none ∧ d.ack.isSome = true) ∨
  (c.ack.isSome = d.ack.isSome ∧
    (d.severity < c.severity ∨ (c.severity = d.severity ∧
      ((now - d.raise).toNat < (now - c.raise).toNat ∨ (c.raise = d.raise ∧ n < m)))))

/-- A call in use lights the beacons of an address (R154, R157). -/
def CallLights (v : State) (addr n : Nat) (c : Call) : Prop :=
  (v.callEntry n).call = some c ∧ addr ∈ beaconSet v c

/-! ### Invariants -/

/-- The exchange memory's stored bytes are in their canonical form. -/
abbrev MemoryCanonical (s : State) : Prop := Memory.wf s.mem = true

/-- The presses of every input are its acted, declined and suppressed presses together (R66). -/
def TalliesAgree (s : State) : Prop :=
  ∀ i, (s.inp i).presses = (s.inp i).acted + (s.inp i).declined + (s.inp i).suppressed

/-- A due-list entry spells an order of a kind that may carry a due tick. -/
def DueEntry.allowed (d : DueEntry) : Bool :=
  match readOrder d.host.kind d.host.params with
  | none => false
  | some b => dueAllowed b

/-- The control mask is never empty, and the due list holds at most 16 orders, each of a kind that may
carry a due tick (R186, R188). -/
abbrev OrderUnitSound (s : State) : Prop :=
  s.control ≠ 0 ∧ s.dueList.length ≤ 16 ∧ ∀ d ∈ s.dueList, DueEntry.allowed d = true

/-- Every part-written view reads as its block's record gives it (R2, R21, R182). -/
abbrev ViewsCurrent (s : State) : Prop := newViews s = s.views

end Sys2Proof.Machine
end

