-- ==== Sys2Proof/Certificates/Slice0/Obligations.lean ====
section
/-! DEFINITION. The statements. In each, `u` is the state once everything handed over has been acted on
(`settle`, log entry 6), and the answer `t` is the state after the command. -/

open Sys2Proof Sys2Proof.Machine

/-! ### Steps, resets and invariants -/

/-- A step takes the command at the front of the queue and runs it with the queue's rest. -/
def Obligations.StepRunsFront : Prop :=
  ∀ (c : Instr) (r : List Instr) (s : State), s.pending = c :: r → step s = exec c { s with pending := r }

/-- On an empty queue one millisecond passes and nothing else changes: the model's choice (log
entry 7), which makes the gallery tick the count of milliseconds that R190 says it is. -/
def Obligations.IdleStepCountsTick : Prop :=
  ∀ s : State, s.pending = [] →
    ∃ t, step s = .next t ∧ t.tick = s.tick + 1 ∧ KeptBut [.tick] s t

/-- The reset state holds the values that the rules give, and meets every invariant (R191). The two pin
levels it starts from are the model's choice (log entry 4). -/
def Obligations.ResetHoldsInvariants : Prop :=
  let s := State.reset
  (s.tick = 0 ∧ s.lastTaken = 31 ∧ s.dueList = [] ∧ s.denial = none ∧ s.control = 1 ∧ s.notice = 0 ∧
    s.enable = 0 ∧ s.mode = .closed ∧ s.linkMask = 0 ∧ s.linkTimeout = 400 ∧ s.depth = 2 ∧
    s.lastServed = 63 ∧ s.curPage = none ∧ s.lastPage = none ∧ s.nextSeq = 0) ∧
  (∀ e, s.ex e = .absent) ∧ (∀ k, (s.slot k).state = .empty) ∧ (∀ k, (s.page k).state = .free) ∧
  (∀ g, s.group g = ⟨0, 0, [], none⟩) ∧ (∀ r, (s.routine r).installed = none) ∧
  (∀ n, (s.callEntry n).call = none ∧ (s.callEntry n).gen = 0) ∧ (∀ z, (s.zone z).isSet = false) ∧
  MemoryCanonical s ∧ TalliesAgree s ∧ OrderUnitSound s ∧ ViewsCurrent s

/-- Every step keeps the exchange memory's stored bytes in their canonical form. -/
def Obligations.StepKeepsMemoryCanonical : Prop :=
  ∀ s t : State, MemoryCanonical s → step s = .next t → MemoryCanonical t

/-- Every step keeps the tally law of every station input: presses are acted, declined and suppressed
presses together, modulo 2^32 (R66). -/
def Obligations.StepKeepsTallies : Prop :=
  ∀ s t : State, TalliesAgree s → step s = .next t → TalliesAgree t

/-- Every step leaves the control mask not empty and the due list with at most 16 entries, each of a
kind that may carry a due tick (R186, R188). -/
def Obligations.StepKeepsOrderUnitSound : Prop :=
  ∀ s t : State, OrderUnitSound s → step s = .next t → OrderUnitSound t

/-- Every step leaves every part-written view current: it reads as its block's record gives it, with
the axis fields as of their last change (R2, R137, R182). -/
def Obligations.StepKeepsViewsCurrent : Prop :=
  ∀ s t : State, ViewsCurrent s → step s = .next t → ViewsCurrent t

/-- POWER_ON puts every block in its power-on state; the pins, the levels of the channel inputs and the
pulse counts of the outputs stand as the outside has them, and GALLERY_HALT found low enters HALT
(R191, R38). The model's choices among these: the EXHIBITS notice that entering HALT sets with the pin
low (log entry 20), the kept pulse counts and the cleared record of the bytes last sent (log entry 32),
and the attendant receiver, which hunts (log entry 42). -/
def Obligations.PowerOnResetsEveryBlock : Prop :=
  ∀ s : State, let u := settle s
    ∃ t, exec .powerOn s = .next t ∧
      KeptBut [.pending, .haltPin, .channels, .mode, .views, .notice] State.reset t ∧
      t.pending = u.pending ∧ t.haltPin = u.haltPin ∧
      t.mode = (if u.haltPin then .closed else .halt) ∧
      t.notice = (if u.haltPin then 0 else noticeExhibits) ∧
      ∀ c, t.ch c = unowned (u.ch c)

/-- PART_RESET puts every block in its power-on state but for what R191 keeps: the gallery tick, the
descriptor and staging areas, and each slot's edit count, which advances by 2; lit beacons keep
their addresses for a DARK (R191, R3, R169, R182). The model's choices among these: the EXHIBITS notice
that entering HALT sets with the pin low (log entry 20), and the kept pulse counts and bytes last sent
(log entry 32). -/
def Obligations.PartResetKeepsTickAndAreas : Prop :=
  ∀ s : State, let u := settle s
    ∃ t, exec .partReset s = .next t ∧
      KeptBut [.pending, .tick, .mem, .slots, .beacons, .linkTx, .attTx, .haltPin, .channels, .mode,
        .views, .notice] State.reset t ∧
      t.pending = u.pending ∧ t.tick = u.tick ∧ t.mem = u.mem ∧ t.haltPin = u.haltPin ∧
      t.mode = (if u.haltPin then .closed else .halt) ∧
      t.notice = (if u.haltPin then 0 else noticeExhibits) ∧
      (∀ k, k < 32 → t.slot k = { Slot.zero with edit := (u.slot k).edit + 2 }) ∧
      (∀ b, t.beacon b = resetBeacon (u.beacon b)) ∧
      ∀ c, t.ch c = unowned (u.ch c)

/-! ### The exchange port -/

/-- The commands of SCAN, NOTICE and NOTICE ENABLE (R180, R181, R187). A cleared category may be set
again by a view that was not current, and by nothing else. -/
def Obligations.RegisterCommandsAct : Prop :=
  ∀ s : State, let u := settle s
    (∃ t, exec .scanOrders s = .next t ∧ t.scanBit = true ∧ t.scanKept = true ∧
      KeptBut [.scanBit, .scanKept, .views, .notice] u t) ∧
    (∀ bits, ∃ t, exec (.noticeEnableWrite bits) s = .next t ∧ t.enable = bits ∧
      KeptBut [.enable, .views, .notice] u t) ∧
    (∀ bits, ∃ t, exec (.noticeClear bits) s = .next t ∧
      t.denial = (if bits.getLsbD 4 then none else u.denial) ∧
      t.notice &&& bits &&& 0b110011 = 0 ∧ (ViewsCurrent u → t.notice = u.notice &&& ~~~bits) ∧
      KeptBut [.denial, .views, .notice] u t)

/-- A byte written in the register area acts as the command of its register's named bits; IDENT, the
bits not named and the reserved offsets discard it (R180). PART RESET comes before HALT where one
write sets both: the model's choice (log entry 11). -/
def Obligations.RegisterWriteActsByOffset : Prop :=
  ∀ (o : Fin 16) (v : Byte) (s : State), let u := settle s
    (o.val ≠ 2 → o.val ≠ 4 → o.val ≠ 6 → o.val ≠ 8 → exec (.registerWrite o v) s = .next (publish u)) ∧
    (o.val = 2 → exec (.registerWrite o v) s =
      if v.getLsbD 0 then exec .scanOrders s else .next (publish u)) ∧
    (o.val = 4 → exec (.registerWrite o v) s = exec (.noticeClear (v.setWidth 6)) s) ∧
    (o.val = 6 → exec (.registerWrite o v) s = exec (.noticeEnableWrite (v.setWidth 6)) s) ∧
    (o.val = 8 → v.getLsbD 0 = false → v.getLsbD 1 = false →
      exec (.registerWrite o v) s = .next (publish u)) ∧
    (o.val = 8 → v.getLsbD 0 = true → v.getLsbD 1 = false →
      exec (.registerWrite o v) s = exec .partReset s) ∧
    (o.val = 8 → v.getLsbD 0 = false → v.getLsbD 1 = true →
      exec (.registerWrite o v) s = exec .controlHalt s) ∧
    (o.val = 8 → v.getLsbD 0 = true → v.getLsbD 1 = true →
      exec (.registerWrite o v) s = .next (publish (enterHalt (partReset u))))

/-- Entering HALT: the mode is HALT after either event, and GALLERY is among the hold reasons of every
installed exhibit without retire pending unless the mode was HALT already; GALLERY_HALT going high
leaves the mode (R38, R39). -/
def Obligations.HaltEventsHoldTheGallery : Prop :=
  ∀ s : State, let u := settle s
    (∃ t, exec .controlHalt s = .next t ∧ t.mode = .halt ∧ t.haltPin = u.haltPin ∧ t.tick = u.tick ∧
      (u.mode = .halt → t = publish u) ∧
      (u.mode ≠ .halt → ∀ e, (u.ex e).installed = true → (u.ex e).retire = none →
        (t.ex e).hold.gallery = true)) ∧
    (∃ t, exec .galleryHaltLow s = .next t ∧ t.haltPin = false ∧
      (u.haltPin = true → t.mode = .halt) ∧ (u.haltPin = false → t = publish u) ∧
      (u.haltPin = true → u.mode ≠ .halt → ∀ e, (u.ex e).installed = true → (u.ex e).retire = none →
        (t.ex e).hold.gallery = true)) ∧
    (∃ t, exec .galleryHaltHigh s = .next t ∧ t.haltPin = true ∧ KeptBut [.haltPin, .views, .notice] u t)

/-- A host byte written in the descriptor and staging areas is stored at its offset and nowhere else, a
halfword is two such bytes, low byte at the lower offset, and the views and unassigned offsets discard
writes (R179, R3). -/
def Obligations.HostWriteStoresItsBytes : Prop :=
  ∀ (a : Half) (s : State), let u := settle s
    (∀ b, 0x4000 ≤ a.toNat → a.toNat < 0xC000 →
      ∃ t, exec (.hostWrite a (.byte b)) s = .next t ∧ peek t.mem a.toNat = b ∧
        (∀ j, j ≠ a.toNat → peek t.mem j = peek u.mem j) ∧ KeptBut [.mem, .views, .notice] u t) ∧
    (∀ h, 0x4000 ≤ a.toNat → a.toNat + 1 < 0xC000 →
      ∃ t, exec (.hostWrite a (.half h)) s = .next t ∧ peekHalf t.mem a.toNat = h ∧
        (∀ j, j ≠ a.toNat → j ≠ a.toNat + 1 → peek t.mem j = peek u.mem j) ∧
        KeptBut [.mem, .views, .notice] u t) ∧
    (∀ b, (a.toNat < 0x200 ∨ (0xA00 ≤ a.toNat ∧ a.toNat < 0x3000) ∨
        (0xC000 ≤ a.toNat ∧ a.toNat < 0xFFF0)) →
      exec (.hostWrite a (.byte b)) s = .next (publish u))

/-- A host byte written in a slot reaches its host field, the other bytes of that field standing, unless
the slot is TAKEN; a byte written to a part-written field is discarded in every state, and every other
slot and field stands (R183). -/
def Obligations.HostWriteReachesHostFields : Prop :=
  ∀ (k : Fin 32) (o : Fin 64) (b : Byte) (s : State), let u := settle s
    let a := BitVec.ofNat 16 (0x200 + 64 * k.val + o.val)
    let x := u.slot k.val
    o.val ≠ 2 →
    ∃ t, exec (.hostWrite a (.byte b)) s = .next t ∧ OtherSlots k.val u t ∧
      KeptBut [.slots, .views, .notice] u t ∧
      (x.state = .taken → t.slot k.val = x) ∧
      ((o.val < 2 ∨ (12 ≤ o.val ∧ o.val < 26)) → t.slot k.val = x) ∧
      (x.state ≠ .taken →
        (o.val = 3 → t.slot k.val = { x with host := { x.host with flags := b } }) ∧
        (o.val = 4 → t.slot k.val = { x with host := { x.host with kind := b } }) ∧
        (o.val = 5 → t.slot k.val = { x with host := { x.host with exhibit := b } }) ∧
        (6 ≤ o.val → o.val ≤ 7 → ∃ g : Half, t.slot k.val = { x with host := { x.host with tag := g } } ∧
          byteOf (o.val - 6) g = b ∧ byteOf (7 - o.val) g = byteOf (7 - o.val) x.host.tag) ∧
        (8 ≤ o.val → o.val ≤ 11 → ∃ d : Tick, t.slot k.val = { x with host := { x.host with due := d } } ∧
          byteOf (o.val - 8) d = b ∧
          ∀ j, j < 4 → j ≠ o.val - 8 → byteOf j d = byteOf j x.host.due) ∧
        (26 ≤ o.val → ∃ p, t.slot k.val = { x with host := { x.host with params := p } } ∧
          peek p (o.val - 26) = b ∧ ∀ j, j ≠ o.val - 26 → peek p j = peek x.host.params j))

/-- The host writes POSTED over EMPTY and DONE, and EMPTY over POSTED and DONE; any other of these writes
is discarded (R183). -/
def Obligations.SlotStateWritesAreFiltered : Prop :=
  ∀ (k : Fin 32) (s : State), let u := settle s
    (∃ t, exec (.slotPost k) s = .next t ∧ OtherSlots k.val u t ∧ KeptBut [.slots, .views, .notice] u t ∧
      t.slot k.val = if (u.slot k.val).state = .empty ∨ (u.slot k.val).state = .done
        then { u.slot k.val with state := .posted } else u.slot k.val) ∧
    (∃ t, exec (.slotEmpty k) s = .next t ∧ OtherSlots k.val u t ∧ KeptBut [.slots, .views, .notice] u t ∧
      t.slot k.val = if (u.slot k.val).state = .posted ∨ (u.slot k.val).state = .done
        then { u.slot k.val with state := .empty } else u.slot k.val)

/-! ### The journal -/

/-- A page given back: FREE over READY alone, its other contents left (R92, R86). The linger expiry: the
current page is handed over with the records it holds (R91). -/
def Obligations.JournalPagesChangeHands : Prop :=
  ∀ s : State, let u := settle s
    (∀ k : Fin 8, ∃ t, exec (.pageFree k) s = .next t ∧ KeptBut [.pages, .views, .notice] u t ∧
      (∀ j, j ≠ k.val → t.page j = u.page j) ∧
      t.page k.val = if (u.page k.val).state = .ready then { u.page k.val with state := .free }
        else u.page k.val) ∧
    (∀ k, u.curPage = some k → dueNow u.tick u.linger = true →
      ∃ t, exec .lingerExpiry s = .next t ∧ t.curPage = none ∧ t.linger = none ∧
        t.notice.getLsbD 1 = true ∧ (∀ j, j ≠ k → t.page j = u.page j) ∧
        t.page k = { u.page k with state := .ready, handTick := u.tick } ∧
        KeptBut [.pages, .curPage, .linger, .views, .notice] u t) ∧
    (dueNow u.tick u.linger = false → exec .lingerExpiry s = .next (publish u))

/-- The record that raises the current page's count to 31 hands the page over at that event, and the
record after it begins a new page or is dropped (R90). -/
def Obligations.ThirtyFirstRecordHandsOver : Prop :=
  ∀ (k : Nat) (r : PressRec) (s : State), s.curPage = some k → (s.page k).count = 30 →
    let t := placeRecord r s
    (t.page k).count = 31 ∧ (t.page k).state = .ready ∧ (t.page k).handTick = s.tick ∧
    t.curPage = none ∧ t.linger = none ∧ t.notice.getLsbD 1 = true ∧ t.lastPage = s.lastPage ∧
    (∀ j, j ≠ k → t.page j = s.page j) ∧
    (lookup .zero (t.page k).recs 30).seq = s.nextSeq ∧ t.nextSeq = s.nextSeq + 1 ∧
    KeptBut [.pages, .curPage, .linger, .notice, .nextSeq] s t ∧
    ∀ q : PressRec,
      (∀ j, freePage t = some j → (placeRecord q t).curPage = some j ∧
        ((placeRecord q t).page j).state = .filling ∧ ((placeRecord q t).page j).count = 1 ∧
        ((placeRecord q t).page j).firstSeq = t.nextSeq) ∧
      (freePage t = none → placeRecord q t = { t with nextSeq := t.nextSeq + 1 })

/-! ### Scanning, taking, refusing -/

/-- A scan request is kept; a pass starts when one is kept and none is running, clears the ORDERS bit of
SCAN, and visits the 32 slots in cyclic order from the slot after the one taken last (R184, R180). -/
def Obligations.ScanRequestStartsPass : Prop :=
  ∀ s : State, let u := settle s
    (∃ t, exec .scanPeriod s = .next t ∧ t.scanKept = true ∧ KeptBut [.scanKept, .views, .notice] u t) ∧
    (u.scanKept = true → u.pass = none →
      ∃ t, exec .scanPass s = .next t ∧ t.scanKept = false ∧ t.scanBit = false ∧
        KeptBut [.scanKept, .scanBit, .pass, .views, .notice] u t ∧
        ∃ l, t.pass = some l ∧ l.length = 32 ∧ ∀ k, k < 32 → l[k]? = some ((u.lastTaken + 1 + k) % 32)) ∧
    (u.scanKept = false → exec .scanPass s = .next (publish u)) ∧
    (∀ l, u.pass = some l → (∃ k ∈ l, (u.slot k).state = .posted) →
      exec .scanPass s = .next (publish u))

/-- TAKE takes the first POSTED slot that the pass has still to visit and writes its taken tick; the
slot is then TAKEN or DONE and is the one taken last, and an unknown kind is refused (R184, R185). With
none left the pass ends. -/
def Obligations.TakeTakesNextPosted : Prop :=
  ∀ (s : State), let u := settle s
    (∀ (l r : List Nat) (k : Nat), u.pass = some (l ++ k :: r) →
      (∀ j ∈ l, (u.slot j).state ≠ .posted) → (u.slot k).state = .posted →
      ∃ t, exec .take s = .next t ∧ t.lastTaken = k ∧ (t.slot k).takenTick = u.tick ∧
        ((t.slot k).state = .taken ∨ (t.slot k).state = .done) ∧ (t.slot k).host = (u.slot k).host ∧
        (readOrder (u.slot k).host.kind (u.slot k).host.params = none →
          (t.slot k).state = .done ∧ (t.slot k).acceptance = .unknownKind ∧
          (t.slot k).outcome = .refused ∧ (t.slot k).result = 0 ∧ t.notice.getLsbD 0 = true ∧
          OtherSlots k u t ∧ KeptBut orderFields u t)) ∧
    (∀ l, u.pass = some l → (∀ j ∈ l, (u.slot j).state ≠ .posted) →
      ∃ t, exec .take s = .next t ∧ t.pass = none ∧ KeptBut [.pass, .views, .notice] u t) ∧
    (u.pass = none → exec .take s = .next (publish u))

/-- The take-time checks of the exhibit kinds and of the gallery-wide kinds that name no exhibit, in
their order; a refusal changes nothing but the slot's handling, and a TAKEN slot discards the order
whole (R185, R186, R42, R183). -/
def Obligations.ChecksRefuseInOrder : Prop :=
  ∀ (h : OrderHead) (b : OrderBody) (s : State), let u := settle s
    let refused := fun a => ∃ t, exec (orderCommand h b) s = .next t ∧ RefusedOnly u t h b a 0
    let denied := ∃ t, exec (orderCommand h b) s = .next t ∧ SlotRefused u t h b .denied 0 ∧
      OtherSlots h.slot.val u t ∧ KeptBut (.denial :: orderFields) u t
    ((u.slot h.slot.val).state = .taken → exec (orderCommand h b) s = .next (publish u)) ∧
    (SlotOpen u h →
      (scopeOf b = .exhibit →
        (31 < OrderHead.ex h ∨ (u.ex (OrderHead.ex h)).installed = false → refused .badExhibit) ∧
        (OrderHead.ex h ≤ 31 → (u.ex (OrderHead.ex h)).installed = true →
          (u.ex (OrderHead.ex h)).retire.isSome = true → refused .state) ∧
        (NamesExhibit u h →
          (u.ex (OrderHead.ex h)).access.getLsbD (sourceOf h.slot.val) = false → denied) ∧
        (MayOrderExhibit u h → paramsOk b = false ∨ (dueAllowed b = false ∧ ¬ Untimed h) →
          refused .badParameter) ∧
        (MayOrderExhibit u h → paramsOk b = true → dueAllowed b = true → ¬ Untimed h →
          16 ≤ u.dueList.length → refused .full)) ∧
      (scopeOf b = .gallery → (∀ o, b ≠ .bringUp o) → (∀ m, b ≠ .setAccess m) →
        (u.control.getLsbD (sourceOf h.slot.val) = false → denied) ∧
        (MayOrderGallery u h → (∀ r o, b ≠ .commit r o) →
          paramsOk b = false ∨ (dueAllowed b = false ∧ ¬ Untimed h) → refused .badParameter)))

/-- The first denied order since the host last cleared DENIAL fills the denial capture, and a later one
raises its count, which stays at 255 (R187). -/
def Obligations.DenialCaptureKeepsTheFirst : Prop :=
  ∀ (h : OrderHead) (b : OrderBody) (s : State), let u := settle s
    SlotOpen u h →
    ((scopeOf b = .exhibit ∧ NamesExhibit u h ∧
        (u.ex (OrderHead.ex h)).access.getLsbD (sourceOf h.slot.val) = false) ∨
      (scopeOf b = .gallery ∧ (∀ o, b ≠ .bringUp o) ∧ (∀ m, b ≠ .setAccess m) ∧
        u.control.getLsbD (sourceOf h.slot.val) = false)) →
    ∃ t, exec (orderCommand h b) s = .next t ∧ KeptBut (.denial :: orderFields) u t ∧
      (u.denial = none → t.notice.getLsbD 4 = true ∧
        t.denial = some ⟨h.slot.val, h.slot.val / 8, BitVec.ofNat 8 (kindCodeOf b),
          if scopeOf b = .exhibit then h.exhibit else 255, h.tag, u.tick, 0⟩) ∧
      (∀ d, u.denial = some d → t.denial = some { d with later := min 255 (d.later + 1) })

/-- An accepted order with a due tick not yet due waits in the due list behind every entry that is not
later; the first entry leaves the list when its tick is due, and a SET LAMPS is then performed as if
just taken (R188). At a due tick exactly 2^31 ahead of the present tick it is the model's choice that the
order stands first in the list and waits, and that nothing behind it is performed while it is first and
not due (log entry 52). -/
def Obligations.DueListHoldsAndPerforms : Prop :=
  ∀ (s : State), let u := settle s
    (∀ (h : OrderHead) (b : OrderBody), MayOrderExhibit u h → scopeOf b = .exhibit →
      dueAllowed b = true → paramsOk b = true → ¬ Untimed h → u.dueList.length < 16 →
      isDue u.tick h.due = false →
      ∃ t, exec (orderCommand h b) s = .next t ∧ SlotWaits u t h b ∧
        (∃ before after, u.dueList = before ++ after ∧
          t.dueList = before ++ ⟨h.slot.val, h.due, hostFieldsOf h b⟩ :: after ∧
          (∀ d ∈ before, (d.due - u.tick).toInt ≤ (h.due - u.tick).toInt) ∧
          (∀ d ∈ after.head?, (h.due - u.tick).toInt < (d.due - u.tick).toInt)) ∧
        OtherSlots h.slot.val u t ∧ KeptBut (.dueList :: orderFields) u t) ∧
    (∀ d r, u.dueList = d :: r → isDue u.tick d.due = false →
      exec .dueExpiry s = .next (publish u)) ∧
    (∀ d r p l, u.dueList = d :: r → isDue u.tick d.due = true →
      readOrder d.host.kind d.host.params = some (.setLamps p) → lampFrom p.toNat = some l →
      d.host.exhibit.toNat ≤ 31 → (u.ex d.host.exhibit.toNat).installed = true →
      (u.ex d.host.exhibit.toNat).retire = none →
      (u.ex d.host.exhibit.toNat).access.getLsbD (sourceOf d.slot) = true →
      ∃ t, exec .dueExpiry s = .next t ∧ t.dueList = r ∧
        t.ex d.host.exhibit.toNat = { u.ex d.host.exhibit.toNat with lamp := l } ∧
        OtherExhibits d.host.exhibit.toNat u t ∧ (t.slot d.slot).state = .done ∧
        (t.slot d.slot).outcome = .done ∧
        (t.slot d.slot).result = BitVec.ofNat 32 (lampCode (u.ex d.host.exhibit.toNat).lamp) ∧
        OtherSlots d.slot u t ∧ KeptBut [.dueList, .exhibits, .slots, .views, .notice] u t) ∧
    (u.dueList = [] → exec .dueExpiry s = .next (publish u))

/-! ### Orders with an effect of their own -/

/-- SET LAMPS sets or removes the exhibit's lamp override and nothing else, with the previous override as
its result word (R41). -/
def Obligations.SetLampsSetsTheOverride : Prop :=
  ∀ (h : OrderHead) (p : Byte) (l : Option Lamp) (s : State), let u := settle s
    MayOrderExhibit u h → Untimed h → lampFrom p.toNat = some l →
    ∃ t, exec (.setLamps h p) s = .next t ∧
      SlotDone u t h (.setLamps p) (BitVec.ofNat 32 (lampCode (u.ex (OrderHead.ex h)).lamp)) ∧
      t.ex (OrderHead.ex h) = { u.ex (OrderHead.ex h) with lamp := l } ∧
      OtherExhibits (OrderHead.ex h) u t ∧ OtherSlots h.slot.val u t ∧
      KeptBut (.exhibits :: orderFields) u t

/-- SET ACCESS replaces the named exhibit's access mask and sets EXHIBITS, and SET CONTROL replaces the
control mask; each answers the previous mask and changes nothing else (R19, R186). -/
def Obligations.MasksAreReplaced : Prop :=
  ∀ (h : OrderHead) (m : Byte) (s : State), let u := settle s
    (MayOrderGallery u h → NamesExhibit u h → Untimed h → m.toNat < 16 →
      ∃ t, exec (.setAccess h m) s = .next t ∧
        SlotDone u t h (.setAccess m) (BitVec.ofNat 32 (u.ex (OrderHead.ex h)).access.toNat) ∧
        t.ex (OrderHead.ex h) = { u.ex (OrderHead.ex h) with access := m.setWidth 4 } ∧
        t.notice.getLsbD 3 = true ∧
        OtherExhibits (OrderHead.ex h) u t ∧ OtherSlots h.slot.val u t ∧
        KeptBut (.exhibits :: orderFields) u t) ∧
    (MayOrderGallery u h → Untimed h → 1 ≤ m.toNat → m.toNat < 16 →
      ∃ t, exec (.setControl h m) s = .next t ∧
        SlotDone u t h (.setControl m) (BitVec.ofNat 32 u.control.toNat) ∧
        t.control = m.setWidth 4 ∧ OtherSlots h.slot.val u t ∧ KeptBut (.control :: orderFields) u t) ∧
    (MayOrderGallery u h → 16 ≤ m.toNat ∨ m = 0 →
      ∃ t, exec (.setControl h m) s = .next t ∧ RefusedOnly u t h (.setControl m) .badParameter 0)

/-- SET GALLERY MODE (R39, R38): refused with STATE toward CLOSED or OPEN while GALLERY_HALT is low;
otherwise the mode is set with the previous one's code as result; a change between CLOSED and OPEN
leaves every exhibit, and leaving HALT takes GALLERY out of every exhibit's hold reasons. -/
def Obligations.GalleryModeIsSet : Prop :=
  ∀ (h : OrderHead) (m : Byte) (s : State), let u := settle s
    MayOrderGallery u h → Untimed h → m.toNat ≤ 2 →
    (m.toNat ≠ 2 → u.haltPin = false →
      ∃ t, exec (.setGalleryMode h m) s = .next t ∧ RefusedOnly u t h (.setMode m) .state 0) ∧
    (m.toNat = 2 ∨ u.haltPin = true →
      ∃ t, exec (.setGalleryMode h m) s = .next t ∧ t.mode = modeFrom m.toNat ∧
        SlotDone u t h (.setMode m) (BitVec.ofNat 32 u.mode.code) ∧
        (m.toNat ≠ 2 → u.mode ≠ .halt →
          OtherSlots h.slot.val u t ∧ KeptBut (.mode :: orderFields) u t) ∧
        (m.toNat ≠ 2 → u.mode = .halt → ∀ e, (t.ex e).hold.gallery = false) ∧
        (m.toNat = 2 → u.mode = .halt →
          OtherSlots h.slot.val u t ∧ KeptBut orderFields u t))

/-- HOLD adds ORDER to the hold reasons and RELEASE removes it, in every installed state, each DONE at
once with the number of hold reasons present after it; where the set does not change, nothing else does
(R43). A guard's activation adds GUARD, with the effects of R22: a READY exhibit records it and a moving
one brakes toward HELD; a GUARD-TRIP that meets a moving axis faults the exhibit first, naming its
lowest moving axis slot; and the deactivation of the last active guard takes GUARD out (R80, R81). -/
def Obligations.HoldAndReleaseChangeTheReasons : Prop :=
  (∀ (h : OrderHead) (s : State), let u := settle s
    let e := OrderHead.ex h
    MayOrderExhibit u h → Untimed h →
    (∃ t, exec (.hold h) s = .next t ∧ (t.ex e).hold = { (u.ex e).hold with order := true } ∧
      SlotDone u t h .hold (BitVec.ofNat 32 (t.ex e).hold.size) ∧ OtherSlots h.slot.val u t ∧
      KeptBut ([.exhibits, .channels, .groups, .handed] ++ orderFields) u t ∧
      ((u.ex e).hold.order = true → KeptBut orderFields u t)) ∧
    (∃ t, exec (.release h) s = .next t ∧ (t.ex e).hold = { (u.ex e).hold with order := false } ∧
      SlotDone u t h .release (BitVec.ofNat 32 (t.ex e).hold.size) ∧ KeptBut exhibitFields u t ∧
      ((u.ex e).hold.order = false → OtherSlots h.slot.val u t ∧ KeptBut orderFields u t) ∧
      ((u.ex e).hold.guard = true ∨ (u.ex e).hold.gallery = true →
        OtherSlots h.slot.val u t ∧ KeptBut (.exhibits :: orderFields) u t))) ∧
  (∀ (v : State) (i e : Nat), let x := v.ex e
    (v.inp i).owner = some e →
    (x.installed = true → x.retire = none →
      v.classOf i = some .guardHold ∨ (v.classOf i = some .guardTrip ∧ v.anyMoving e = false) →
      let t := inputEvent i true v
      t.inp i = { v.inp i with accepted := true, lastEvent := v.tick } ∧ OtherInputs i v t ∧
      (t.ex e).hold = { x.hold with guard := true } ∧
      KeptBut [.inputs, .exhibits, .channels, .groups, .handed, .views, .notice] v t ∧
      (x.hold.guard = true → KeptBut [.inputs] v t) ∧
      (x.state = .ready → t.ex e = { x with hold := { x.hold with guard := true } } ∧
        OtherExhibits e v t ∧ KeptBut [.inputs, .exhibits] v t) ∧
      (x.state = .running → v.anyMoving e = true → x.hold.guard = false →
        (t.ex e).state = .braking ∧ (t.ex e).target = some .held ∧
        (t.ex e).heldAct = some .running ∧ (t.ex e).run = x.run ∧
        ∀ a ∈ x.axes, (v.ch a.channel).state = .moving →
          t.ch a.channel = { v.ch a.channel with state := .braking })) ∧
    (∀ a ∈ x.axes, v.classOf i = some .guardTrip → (v.ch a.channel).isMoving = true → a.slot < 4 →
      (∀ b ∈ x.axes, (v.ch b.channel).isMoving = true → a.slot ≤ b.slot) →
      (∀ b ∈ x.axes, b.slot = a.slot → b = a) →
      x.installed = true → x.retire = none → x.capture = none → x.brakingToLock = false →
      let t := inputEvent i true v
      (t.ex e).state = .faulted ∧ (t.ex e).hold = { x.hold with guard := true } ∧
      (t.ex e).capture = some ⟨⟨.guardTrip, a.slot, a.channel, (v.ch a.channel).p / 1000,
        (v.ch a.channel).v⟩, v.tick, x.state, (x.run.map (·.routine)).getD 255,
        (x.run.map (·.index)).getD 255⟩ ∧
      (∀ b ∈ x.axes, (t.ch b.channel).isMoving = false) ∧ KeptBut (.inputs :: exhibitFields) v t) ∧
    (v.classOf i = some .guardHold ∨ v.classOf i = some .guardTrip →
      let w := v.modInp i (fun y => { y with accepted := false })
      let t := inputEvent i false v
      (w.guardActive e = true → t = w) ∧
      (w.guardActive e = false → (t.ex e).hold = { x.hold with guard := false } ∧
        (t.inp i).accepted = false ∧ KeptBut (.inputs :: exhibitFields) v t)))

/-- LOCK OUT adds ORDER to the lockout reasons. A LOCKED OUT exhibit's order is DONE at once; with no
lockout reason before it, an exhibit with no axis moving is LOCKED OUT at once, de-energised and without
units, and its order DONE; a moving one brakes toward LOCKED OUT (R44, R24, R25). A KEY activation
acknowledges every call of the exhibit and adds KEY with the same effects (R82); a key release empties
the capture record, clears the fault and HELP causes and removes KEY, and where that empties the reasons
of a LOCKED OUT exhibit it goes to READY or asks for its homing claim (R83, R26). -/
def Obligations.LockOutTakesOutOfService : Prop :=
  (∀ (h : OrderHead) (s : State), let u := settle s
    let e := OrderHead.ex h
    MayOrderExhibit u h → Untimed h →
    ∃ t, exec (.lockOut h) s = .next t ∧ (t.ex e).lock = { (u.ex e).lock with order := true } ∧
      KeptBut exhibitFields u t ∧
      ((u.ex e).state = .lockedOut → SlotDone u t h .lockOut 0 ∧ OtherSlots h.slot.val u t ∧
        KeptBut (.exhibits :: orderFields) u t) ∧
      ((u.ex e).lock = ⟨false, false⟩ → (u.ex e).state ≠ .lockedOut → (u.ex e).brakingToLock = false →
        u.anyMoving e = false →
        SlotDone u t h .lockOut 0 ∧ (t.ex e).state = .lockedOut ∧ (t.ex e).restTimer = none ∧
        (∀ a ∈ (u.ex e).axes, (t.ch a.channel).energised = false) ∧
        ((u.ex e).axes ≠ [] → (t.ex e).units = 0)) ∧
      ((u.ex e).lock = ⟨false, false⟩ → (u.ex e).state ≠ .lockedOut → (u.ex e).brakingToLock = false →
        u.anyMoving e = true →
        (t.ex e).state = .braking ∧ (t.ex e).target = some .lockedOut ∧ (t.ex e).run = none ∧
        ∀ a ∈ (u.ex e).axes, (u.ch a.channel).state = .moving →
          t.ch a.channel = { u.ch a.channel with state := .braking })) ∧
  (∀ (v : State) (i e : Nat), let x := v.ex e
    (v.inp i).owner = some e → v.classOf i = some .key → x.installed = true → x.retire = none →
    (let t := inputEvent i true v
     t.inp i = { v.inp i with accepted := true, lastEvent := v.tick } ∧ OtherInputs i v t ∧
     (t.ex e).lock = { x.lock with key := true } ∧
     (∀ c ∈ allCauses, unacknowledged t e c = false) ∧ KeptBut (.inputs :: exhibitFields) v t ∧
     (x.lock.key = true ∨ x.state = .lockedOut →
       KeptBut [.inputs, .exhibits, .calls, .beacons] v t) ∧
     (x.lock = ⟨false, false⟩ → x.state ≠ .lockedOut → x.brakingToLock = false →
       v.anyMoving e = false →
       (t.ex e).state = .lockedOut ∧ (t.ex e).capture = x.capture ∧
       (∀ a ∈ x.axes, (t.ch a.channel).energised = false)) ∧
     (x.lock = ⟨false, false⟩ → x.state ≠ .lockedOut → x.brakingToLock = false →
       v.anyMoving e = true →
       (t.ex e).state = .braking ∧ (t.ex e).target = some .lockedOut)) ∧
    (let w := v.modInp i (fun y => { y with accepted := false })
     let t := inputEvent i false v
     (w.keyActive e = true → t = w) ∧
     (w.keyActive e = false →
       (x.lock ≠ ⟨true, false⟩ ∨ x.state ≠ .lockedOut →
         (t.ex e).state = x.state ∧ (t.ex e).lock = { x.lock with key := false } ∧
         (t.ex e).capture = none ∧ (t.ex e).laterFaults = 0 ∧
         (∀ c ∈ [Cause.guardTrip, .motionFault, .help], (t.ex e).causeRec c = none) ∧
         KeptBut [.inputs, .exhibits, .calls, .beacons] v t) ∧
       (x.lock = ⟨true, false⟩ → x.state = .lockedOut → x.axes = [] → x.queued = none →
         (t.ex e).state = .ready ∧ (t.ex e).lock = ⟨false, false⟩ ∧ (t.ex e).capture = none ∧
         (∀ c ∈ [Cause.guardTrip, .motionFault, .help], (t.ex e).causeRec c = none)) ∧
       (x.lock = ⟨true, false⟩ → x.state = .lockedOut → x.axes ≠ [] →
         x.hold = ⟨false, false, false⟩ → WithinBudget v e (homingClaim v e) →
         (t.ex e).state = .homing ∧ (t.ex e).axesSet = [] ∧
         Asked v t e (homingClaim v e) .homing ∧ (t.ex e).lock = ⟨false, false⟩ ∧
         (t.ex e).capture = none ∧
         (∀ c ∈ [Cause.guardTrip, .motionFault, .help], (t.ex e).causeRec c = none)))))

/-- RETURN TO SERVICE: refused with STATE if removing ORDER would empty the lockout reasons while the
capture record is full; otherwise ORDER is removed, with the number of reasons left (R44). Where that
empties the reasons of a LOCKED OUT exhibit it leaves LOCKED OUT: to READY without axes, to HOMING with
its claim asked, to HOMING deferred or to HELD with a hold reason present, and back to LOCKED OUT by
ORDER where the claim exceeds the budget (R26, R30). -/
def Obligations.ReturnToServiceRemovesOrder : Prop :=
  ∀ (h : OrderHead) (s : State), let u := settle s
    let e := OrderHead.ex h
    let x := u.ex e
    let claim := homingClaim u e
    MayOrderExhibit u h → Untimed h →
    (x.lock = ⟨false, true⟩ → x.capture.isSome = true →
      ∃ t, exec (.returnToService h) s = .next t ∧ RefusedOnly u t h .returnToService .state 0) ∧
    (x.lock ≠ ⟨false, true⟩ ∨ x.capture = none →
      ∃ t, exec (.returnToService h) s = .next t ∧
        SlotDone u t h .returnToService (BitVec.ofNat 32 x.lock.key.toNat) ∧
        KeptBut exhibitFields u t ∧
        (x.lock ≠ ⟨false, true⟩ ∨ x.state ≠ .lockedOut →
          t.ex e = { x with lock := ⟨x.lock.key, false⟩ } ∧ OtherExhibits e u t ∧
          OtherSlots h.slot.val u t ∧ KeptBut (.exhibits :: orderFields) u t) ∧
        (x.lock = ⟨false, true⟩ → x.state = .lockedOut →
          (x.axes = [] → x.queued = none →
            (t.ex e).state = .ready ∧ (t.ex e).lock = ⟨false, false⟩ ∧ OtherExhibits e u t ∧
            OtherSlots h.slot.val u t ∧ KeptBut (.exhibits :: orderFields) u t) ∧
          (x.axes ≠ [] → x.hold = ⟨false, false, false⟩ → WithinBudget u e claim →
            (t.ex e).state = .homing ∧ (t.ex e).lock = ⟨false, false⟩ ∧ (t.ex e).axesSet = [] ∧
            Asked u t e claim .homing ∧ OtherSlots h.slot.val u t ∧
            KeptBut ([.exhibits, .groups, .handed] ++ orderFields) u t) ∧
          (x.axes ≠ [] → x.hold = ⟨false, false, false⟩ → (u.group x.group).budget < claim →
            (t.ex e).state = .lockedOut ∧ (t.ex e).lock = ⟨false, true⟩ ∧
            ∀ a ∈ x.axes, (t.ch a.channel).energised = false) ∧
          (x.axes ≠ [] → x.hold.isEmpty = false →
            (t.ex e).lock = ⟨false, false⟩ ∧ OtherExhibits e u t ∧ OtherSlots h.slot.val u t ∧
            (u.energised e = false → (t.ex e).state = .homing) ∧
            (u.energised e = true → (t.ex e).state = .held ∧ (t.ex e).heldAct = some .homing) ∧
            KeptBut (.exhibits :: orderFields) u t)))

/-- HOME EXHIBIT: DONE at once in READY without axes; in READY with axes and no hold reason the exhibit
enters HOMING and asks for its homing claim, and an energised one with a hold reason enters HELD to home
later, the order staying TAKEN; refused with STATE elsewhere (R45, R46, R30). -/
def Obligations.HomeExhibitHomesAgain : Prop :=
  ∀ (h : OrderHead) (s : State), let u := settle s
    let e := OrderHead.ex h
    let claim := homingClaim u e
    MayOrderExhibit u h → Untimed h →
    ((u.ex e).state ≠ .ready →
      ∃ t, exec (.homeExhibit h) s = .next t ∧ RefusedOnly u t h .home .state 0) ∧
    ((u.ex e).state = .ready → (u.ex e).axes = [] →
      ∃ t, exec (.homeExhibit h) s = .next t ∧ SlotDone u t h .home 0 ∧ OtherSlots h.slot.val u t ∧
        KeptBut orderFields u t) ∧
    ((u.ex e).state = .ready → (u.ex e).axes ≠ [] → (u.ex e).hold = ⟨false, false, false⟩ →
      WithinBudget u e claim →
      ∃ t, exec (.homeExhibit h) s = .next t ∧ SlotWaits u t h .home ∧ (t.ex e).state = .homing ∧
        (t.ex e).homingOrder = some ⟨h.slot.val, 0⟩ ∧ (t.ex e).axesSet = [] ∧
        Asked u t e claim .homing ∧
        (t.ex e).restTimer = none ∧ OtherSlots h.slot.val u t ∧
        KeptBut ([.exhibits, .groups, .handed] ++ orderFields) u t) ∧
    ((u.ex e).state = .ready → (u.ex e).axes ≠ [] → (u.ex e).hold.isEmpty = false →
      u.energised e = true →
      ∃ t, exec (.homeExhibit h) s = .next t ∧ SlotWaits u t h .home ∧ (t.ex e).state = .held ∧
        (t.ex e).heldAct = some .homing ∧ (t.ex e).homingOrder = some ⟨h.slot.val, 0⟩ ∧
        OtherExhibits e u t ∧ OtherSlots h.slot.val u t ∧
        KeptBut (.exhibits :: orderFields) u t)

/-- STOP EXHIBIT: refused with STATE in FAULTED, in LOCKED OUT, and toward LOCKED OUT; DONE at once in
READY with the queued start dropped; a RUNNING exhibit with an axis moving ends its run, drops its
queued start and brakes toward READY (R47, R31, R127). A STOP press, which has spent its token, does the
same to a RUNNING exhibit and is declined in every other state (R77). -/
def Obligations.StopExhibitEndsTheRun : Prop :=
  (∀ (h : OrderHead) (s : State), let u := settle s
    let e := OrderHead.ex h
    MayOrderExhibit u h → Untimed h →
    ((u.ex e).state = .faulted ∨ (u.ex e).state = .lockedOut ∨ (u.ex e).brakingToLock = true →
      ∃ t, exec (.stopExhibit h) s = .next t ∧ RefusedOnly u t h .stop .state 0) ∧
    ((u.ex e).state = .ready →
      ∃ t, exec (.stopExhibit h) s = .next t ∧ SlotDone u t h .stop 0 ∧ (t.ex e).state = .ready ∧
        (t.ex e).queued = none ∧ OtherExhibits e u t ∧
        KeptBut ([.exhibits, .routines] ++ orderFields) u t) ∧
    ((u.ex e).state = .running → u.anyMoving e = true →
      ∃ t, exec (.stopExhibit h) s = .next t ∧ (t.ex e).state = .braking ∧
        (t.ex e).target = some .ready ∧ (t.ex e).run = none ∧ (t.ex e).queued = none ∧
        (∀ a ∈ (u.ex e).axes, (u.ch a.channel).state = .moving →
          t.ch a.channel = { u.ch a.channel with state := .braking }) ∧
        KeptBut exhibitFields u t)) ∧
  (∀ (v : State) (i e : Nat) (b : Bucket) (m : MapEntry), let x := v.ex e
    PressPasses v i e b → x.entryAt i = some m → m.action = .stop →
    (x.state ≠ .running →
      ∃ w, PressTaken v w (inputEvent i true v) i e b 5 255 ∧ KeptBut [.inputs] v w) ∧
    (x.state = .running → v.anyMoving e = true →
      ∃ w, PressTaken v w (inputEvent i true v) i e b 1 255 ∧ (w.ex e).state = .braking ∧
        (w.ex e).target = some .ready ∧ (w.ex e).run = none ∧ (w.ex e).queued = none ∧
        (∀ a ∈ x.axes, (v.ch a.channel).state = .moving →
          w.ch a.channel = { v.ch a.channel with state := .braking }) ∧
        KeptBut (.inputs :: exhibitFields) v w))

/-- RUN ROUTINE: refused with STATE where the routine is not installed and in FAULTED or LOCKED OUT; in
READY with no hold reason the run begins and, for a first claim within the budget, waits for its grant;
in RUNNING with none queued it becomes the queued start (R113, R103, R104, R75, R96). A START press, which
has spent its token, is declined where the routine is not installed, in FAULTED, in LOCKED OUT and toward
it; in READY without hold reasons its run begins; a RESTING exhibit takes it as its queued start and,
without hold reasons, wakes; and elsewhere its busy policy declines it, queues it, or, for RESTART in
RUNNING, ends the run for it (R71 to R74). -/
def Obligations.RunRoutineStartsOrQueues : Prop :=
  (∀ (h : OrderHead) (r : Byte) (s : State), let u := settle s
    let e := OrderHead.ex h
    let run := newRun u r.toNat (.order h.slot.val) (h.flags.getLsbD 1)
    let claim := (u.ex e).runUnits (runSlots u (u.ex e) run)
    MayOrderExhibit u h → Untimed h → r.toNat ≤ 63 →
    (u.isInstalled r.toNat = false ∨ (u.ex e).state = .faulted ∨ (u.ex e).state = .lockedOut →
      ∃ t, exec (.runRoutine h r) s = .next t ∧ RefusedOnly u t h (.runRoutine r) .state 0) ∧
    (u.isInstalled r.toNat = true → (u.ex e).state = .ready → (u.ex e).hold = ⟨false, false, false⟩ →
      0 < claim → claim ≤ (u.group (u.ex e).group).budget →
      ∃ t, exec (.runRoutine h r) s = .next t ∧ SlotWaits u t h (.runRoutine r) ∧
        (t.ex e).state = .running ∧ (t.ex e).run = some run ∧ (t.ex e).restTimer = none ∧
        (t.routine r.toNat).inUse = (u.routine r.toNat).inUse + 1 ∧ OtherSlots h.slot.val u t ∧
        KeptBut ([.exhibits, .groups, .handed, .routines] ++ orderFields) u t) ∧
    (u.isInstalled r.toNat = true → (u.ex e).state = .running → (u.ex e).queued = none →
      ∃ t, exec (.runRoutine h r) s = .next t ∧ SlotWaits u t h (.runRoutine r) ∧
        t.ex e = { u.ex e with
          queued := some ⟨r.toNat, .order h.slot.val, h.flags.getLsbD 1, false⟩ } ∧
        (t.routine r.toNat).inUse = (u.routine r.toNat).inUse + 1 ∧ OtherSlots h.slot.val u t ∧
        OtherExhibits e u t ∧ KeptBut ([.exhibits, .routines] ++ orderFields) u t)) ∧
  (∀ (v : State) (i e : Nat) (b : Bucket) (m : MapEntry), let x := v.ex e
    let t := inputEvent i true v
    let q : Queued := ⟨m.routine, .press, false, false⟩
    let run := newRun v m.routine .press false
    let claim := x.runUnits (runSlots v x run)
    let busy := x.state = .running ∨ x.state = .homing ∨ x.state = .held ∨
      (x.state = .braking ∧ x.brakingToLock = false) ∨ (x.state = .ready ∧ x.hold.isEmpty = false)
    let queues := fun outcome => ∃ w, PressTaken v w t i e b outcome m.routine ∧
      w.ex e = { x with queued := some q } ∧ OtherExhibits e v w ∧
      (w.routine m.routine).inUse = (v.routine m.routine).inUse + 1 ∧
      KeptBut [.inputs, .exhibits, .routines] v w
    let declined := fun outcome => ∃ w, PressTaken v w t i e b outcome m.routine ∧
      KeptBut [.inputs] v w
    PressPasses v i e b → x.entryAt i = some m → m.action = .start →
    (v.isInstalled m.routine = false → declined 8) ∧
    (v.isInstalled m.routine = true →
      (x.state = .faulted ∨ x.state = .lockedOut ∨ x.brakingToLock = true → declined 5) ∧
      (x.state = .ready → x.hold = ⟨false, false, false⟩ → WithinBudget v e claim →
        ∃ w, PressTaken v w t i e b 1 m.routine ∧ (w.ex e).state = .running ∧
          (w.ex e).run = some run ∧ Asked v w e claim .waypoint ∧
          (w.routine m.routine).inUse = (v.routine m.routine).inUse + 1 ∧
          KeptBut [.inputs, .exhibits, .groups, .handed, .routines, .views, .notice] v w) ∧
      (x.state = .resting → x.queued = none → x.hold.isEmpty = false → queues 2) ∧
      (x.state = .resting → x.queued = none → x.hold = ⟨false, false, false⟩ →
        x.wakePending = false → x.axes ≠ [] → x.rest.rehome = false →
        WithinBudget v e (x.holdUnits + claim) →
        ∃ w, PressTaken v w t i e b 1 m.routine ∧ (w.ex e).queued = some q ∧
          (w.ex e).wakePending = true ∧ (w.ex e).state = .resting ∧
          Asked v w e (x.holdUnits + claim) .wake) ∧
      (busy → m.policy = .ignore → declined 4) ∧
      (busy → x.queued = none → m.policy = .queue ∨ (m.policy = .restart ∧ x.state ≠ .running) →
        queues 2) ∧
      (x.state = .running → x.queued = none → m.policy = .restart → v.anyMoving e = true →
        ∃ w, PressTaken v w t i e b 3 m.routine ∧ (w.ex e).state = .braking ∧
          (w.ex e).target = some .ready ∧ (w.ex e).run = none ∧
          (w.ex e).queued = some { q with replace := true } ∧
          (∀ a ∈ x.axes, (v.ch a.channel).state = .moving →
            w.ch a.channel = { v.ch a.channel with state := .braking }))))

/-- STEP: refused with STATE unless the exhibit is RUNNING with its run in WAITING STEP; otherwise the run
goes on to its next waypoint, whose index is the result word (R115, R108). A STEP press, which has spent
its token, does the same, and is declined where no run waits (R76). -/
def Obligations.StepOrderAdvancesTheRun : Prop :=
  (∀ (h : OrderHead) (s : State), let u := settle s
    let e := OrderHead.ex h
    MayOrderExhibit u h → Untimed h →
    ((u.ex e).waitsStep = false →
      ∃ t, exec (.stepRun h) s = .next t ∧ RefusedOnly u t h .stepRun .state 0) ∧
    (∀ (r : Run) (c : RoutineCopy), (u.ex e).waitsStep = true → (u.ex e).run = some r →
      (u.routine r.routine).installed = some c → r.index + 1 < c.count →
      0 < (u.ex e).runUnits (runSlots u (u.ex e) { r with index := r.index + 1 }) →
      (u.ex e).runUnits (runSlots u (u.ex e) { r with index := r.index + 1 }) ≤
        (u.group (u.ex e).group).budget →
      ∃ t, exec (.stepRun h) s = .next t ∧
        SlotDone u t h .stepRun (BitVec.ofNat 32 (r.index + 1)) ∧ (t.ex e).state = .running ∧
        (t.ex e).run = some { r with index := r.index + 1, phase := .waitingGrant, started := false,
                                     arrived := [], dwell := none, dwellLeft := none } ∧
        OtherSlots h.slot.val u t ∧ KeptBut ([.exhibits, .groups, .handed] ++ orderFields) u t)) ∧
  (∀ (v : State) (i e : Nat) (b : Bucket) (m : MapEntry), let x := v.ex e
    PressPasses v i e b → x.entryAt i = some m → m.action = .step →
    (x.waitsStep = false →
      ∃ w, PressTaken v w (inputEvent i true v) i e b 5 255 ∧ KeptBut [.inputs] v w) ∧
    (∀ (r : Run) (c : RoutineCopy), let next := { r with index := r.index + 1 }
      x.waitsStep = true → x.run = some r →
      (v.routine r.routine).installed = some c → r.index + 1 < c.count →
      WithinBudget v e (x.runUnits (runSlots v x next)) →
      ∃ w, PressTaken v w (inputEvent i true v) i e b 1 255 ∧ (w.ex e).state = .running ∧
        (w.ex e).run = some { next with phase := .waitingGrant, started := false, arrived := [],
                                        dwell := none, dwellLeft := none } ∧
        Asked v w e (x.runUnits (runSlots v x next)) .waypoint ∧
        KeptBut [.inputs, .exhibits, .groups, .handed, .notice] v w))

/-- COMMIT ROUTINE and CLEAR ROUTINE (R97 to R100, R102): the first checks refuse with their reason, a record
with no room with the largest free extent; a FREE routine takes the copy at the take, and one in use
stages it with the order TAKEN; a clear frees an installed routine that nothing names. That DUE PRESENT
is refused with reason 5 before the routine number is looked at is the model's choice (log entry 27). -/
def Obligations.CommitInstallsOrStages : Prop :=
  ∀ (h : OrderHead) (r : Byte) (o : Half) (s : State), let u := settle s
    let n := stageByte u.mem o.toNat
    MayOrderGallery u h →
    (¬ Untimed h → ∃ t, exec (.commitRoutine h r o) s = .next t ∧
      RefusedOnly u t h (.commit r o) .badParameter (BitVec.ofNat 32 (65535 + 65536 * 5))) ∧
    (Untimed h → 63 < r.toNat → ∃ t, exec (.commitRoutine h r o) s = .next t ∧
      RefusedOnly u t h (.commit r o) .badParameter (BitVec.ofNat 32 (65535 + 65536 * 4))) ∧
    (Untimed h → r.toNat ≤ 63 → o.toNat % 16 ≠ 0 → ∃ t, exec (.commitRoutine h r o) s = .next t ∧
      RefusedOnly u t h (.commit r o) .badParameter (BitVec.ofNat 32 (65535 + 65536 * 1))) ∧
    (commitFault u.mem false r.toNat o.toNat = none → Untimed h →
      (firstFit n u = none → ∃ t, exec (.commitRoutine h r o) s = .next t ∧
        RefusedOnly u t h (.commit r o) .full (BitVec.ofNat 32 (largestFree u))) ∧
      (∀ f, firstFit n u = some f → (u.routine r.toNat).installed = none →
        ∃ t, exec (.commitRoutine h r o) s = .next t ∧
          SlotDone u t h (.commit r o) (BitVec.ofNat 32 (f + 65536 * n)) ∧
          t.routine r.toNat = ⟨some (readCopy u.mem o.toNat f), 0, none⟩ ∧
          (∀ j, j ≠ r.toNat → t.routine j = u.routine j) ∧
          (∀ i, i < n → lookup .zero t.pool (f + i) = readWaypoint u.mem (o.toNat + 16 + 24 * i)) ∧
          OtherSlots h.slot.val u t ∧ KeptBut ([.routines, .pool] ++ orderFields) u t) ∧
      (∀ f c, firstFit n u = some f → (u.routine r.toNat).installed = some c →
        (u.routine r.toNat).inUse ≠ 0 → (u.routine r.toNat).staged = none →
        ∃ t, exec (.commitRoutine h r o) s = .next t ∧ SlotWaits u t h (.commit r o) ∧
          t.routine r.toNat = ⟨some c, (u.routine r.toNat).inUse,
            some ⟨readCopy u.mem o.toNat f, h.slot.val⟩⟩ ∧
          (∀ j, j ≠ r.toNat → t.routine j = u.routine j) ∧ OtherSlots h.slot.val u t ∧
          KeptBut ([.routines, .pool] ++ orderFields) u t)) ∧
    (Untimed h → r.toNat ≤ 63 →
      (∀ c, u.routine r.toNat = ⟨some c, 0, none⟩ →
        ∃ t, exec (.clearRoutine h r) s = .next t ∧
          SlotDone u t h (.clearRoutine r) (BitVec.ofNat 32 c.count) ∧ t.routine r.toNat = .free ∧
          (∀ j, j ≠ r.toNat → t.routine j = u.routine j) ∧ OtherSlots h.slot.val u t ∧
          KeptBut (.routines :: orderFields) u t) ∧
      ((u.routine r.toNat).installed = none ∨ (u.routine r.toNat).inUse ≠ 0 ∨
          (u.routine r.toNat).staged.isSome = true →
        ∃ t, exec (.clearRoutine h r) s = .next t ∧ RefusedOnly u t h (.clearRoutine r) .state 0))

/-- SET BUDGET sets the group's budget whatever waits; with nothing waiting it changes nothing else, and
its result word is the group's granted units (R146, R147). The arbiter's other acts, in any state: an
evaluation grants the request that comes first in the rotation while it fits and goes on, and ends at one
that does not fit or with none (R140, R142); a request over the budget is refused and does not enter, and
any other takes its exhibit's place in the wait list and the group is evaluated (R139); so it is after a
return, which takes the units from the holding and from the granted units (R143), and after a withdrawal,
which takes the entry out (R144). -/
def Obligations.SetBudgetSetsTheBudget : Prop :=
  (∀ (h : OrderHead) (g : Byte) (b : Half) (s : State), let u := settle s
    MayOrderGallery u h → Untimed h → g.toNat ≤ 3 → b.toNat ≤ 1023 →
    ∃ t, exec (.setBudget h g b) s = .next t ∧ (t.group g.toNat).budget = b.toNat ∧
      ((u.group g.toNat).wait = [] →
        SlotDone u t h (.setBudget g b) (BitVec.ofNat 32 (u.group g.toNat).granted) ∧
        t.group g.toNat = { u.group g.toNat with budget := b.toNat } ∧
        (∀ j, j ≠ g.toNat → t.group j = u.group j) ∧ OtherSlots h.slot.val u t ∧
        KeptBut (.groups :: orderFields) u t)) ∧
  (∀ (v : State) (g : Nat), let x := v.group g
    (x.wait = [] → evaluate g v = v) ∧
    (∀ r, WaitOrdered x → FirstInRotation x r →
      (x.budget < x.granted + r.units → evaluate g v = v) ∧
      (x.granted + r.units ≤ x.budget →
        ∃ w, evaluate g v = evaluate g w ∧
          w.group g = ⟨x.budget, x.granted + r.units, x.wait.filter (fun q => q.ex != r.ex),
            some r.ex⟩ ∧
          (∀ j, j ≠ g → w.group j = v.group j) ∧
          w.ex r.ex = { v.ex r.ex with units := (v.ex r.ex).units + r.units } ∧
          OtherExhibits r.ex v w ∧ w.handed = v.handed ++ [.grant r.ex r.purpose] ∧
          w.notice = v.notice ||| noticeExhibits ∧
          KeptBut [.groups, .exhibits, .handed, .notice] v w))) ∧
  (∀ (v : State) (e n : Nat) (p : Purpose), let g := (v.ex e).group
    let x := v.group g
    (x.budget < n → (request e n p v).2 = true ∧
      (v.request e = none → (request e n p v).1.notice = v.notice ||| noticeExhibits ∧
        KeptBut [.notice] v (request e n p v).1)) ∧
    (n ≤ x.budget → ∃ w l, request e n p v = (evaluate g w, false) ∧
      w.group g = { x with wait := l } ∧ (∀ q, q ∈ l ↔ q = ⟨e, n, p⟩ ∨ (q ∈ x.wait ∧ q.ex ≠ e)) ∧
      (WaitOrdered x → e < 32 → WaitOrdered (w.group g)) ∧ (∀ j, j ≠ g → w.group j = v.group j) ∧
      w.notice = v.notice ||| noticeExhibits ∧ KeptBut [.groups, .notice] v w) ∧
    (v.request e = none → withdraw e v = v) ∧
    (v.request e ≠ none → ∃ w, withdraw e v = evaluate g w ∧
      w.group g = { x with wait := x.wait.filter (fun q => q.ex != e) } ∧
      (∀ j, j ≠ g → w.group j = v.group j) ∧
      w.notice = v.notice ||| noticeExhibits ∧ KeptBut [.groups, .notice] v w) ∧
    (n = 0 → returnUnits e n v = v) ∧
    (0 < n → ∃ w, returnUnits e n v = evaluate g w ∧
      w.group g = { x with granted := x.granted - n } ∧ (∀ j, j ≠ g → w.group j = v.group j) ∧
      w.ex e = { v.ex e with units := (v.ex e).units - n } ∧ OtherExhibits e v w ∧
      w.notice = v.notice ||| noticeExhibits ∧ KeptBut [.groups, .exhibits, .notice] v w))

/-- SET ZONE: refused with FULL when the beacon table has no room; otherwise the zone holds the
parameters, and the result word is the number of beacon addresses in use (R167, R154). -/
def Obligations.SetZoneStoresTheZone : Prop :=
  ∀ (h : OrderHead) (z : ZoneParams) (s : State), let u := settle s
    MayOrderGallery u h → Untimed h → zoneParamsOk z = true →
    (zoneFull z u = true → ∃ t, exec (.setZone h z) s = .next t ∧
      RefusedOnly u t h (.setZone z) .full 0) ∧
    (zoneFull z u = false → ∃ t, exec (.setZone h z) s = .next t ∧
      SlotDone u t h (.setZone z) (BitVec.ofNat 32 (beaconsInUse t)) ∧
      t.zone z.zone.toNat = ⟨true, ZoneParams.list1 z, ZoneParams.list2 z, z.t1.toNat, z.t2.toNat,
        z.base.toNat, z.count.toNat, z.ack.toNat, z.hold.toNat⟩ ∧
      (∀ j, j ≠ z.zone.toNat → t.zone j = u.zone j) ∧ OtherSlots h.slot.val u t ∧
      KeptBut ([.zones, .beacons] ++ orderFields) u t)

/-- SET STATION LINK replaces the three settings, sets every agreement count to 0 and sets LINK, with the
previous mask as its result word; one that repeats the mask leaves every node record (R62). -/
def Obligations.SetStationLinkReplacesSettings : Prop :=
  ∀ (h : OrderHead) (m : Word) (w : Half) (d : Byte) (s : State), let u := settle s
    MayOrderGallery u h → Untimed h → 100 ≤ w.toNat → w.toNat ≤ 800 → w.toNat % 50 = 0 →
    1 ≤ d.toNat → d.toNat ≤ 4 →
    ∃ t, exec (.setStationLink h m w d) s = .next t ∧ SlotDone u t h (.setLink m w d) u.linkMask ∧
      t.linkMask = m ∧ t.linkTimeout = w.toNat ∧ t.depth = d.toNat ∧ t.window = u.window ∧
      t.notice.getLsbD 5 = true ∧ (∀ i, i < 256 → (t.inp i).agree = 0) ∧
      KeptBut (exhibitFields ++ [.linkMask, .linkTimeout, .depth, .nodes, .inputs, .pages, .curPage,
        .lastPage, .nextSeq, .linger]) u t ∧
      (m = u.linkMask → u.handed = [] → OtherSlots h.slot.val u t ∧
        KeptBut ([.linkTimeout, .depth, .inputs] ++ orderFields) u t)

/-- RAISE CALL raises the ORDERED cause of the named exhibit with the order's severity: a new call in the
lowest FREE entry, a pending cause while none is FREE, or a repeat; DONE, with the call number, or 255
while pending, and the repeat count as its result word (R164, R152). -/
def Obligations.RaiseCallRaisesOrdered : Prop :=
  ∀ (h : OrderHead) (v : Byte) (s : State), let u := settle s
    let e := OrderHead.ex h
    let rest := [.exhibits, .calls, .beacons] ++ orderFields
    MayOrderExhibit u h → Untimed h → 1 ≤ v.toNat → v.toNat ≤ 4 →
    (∀ n, (u.ex e).causeRec .ordered = none → n < 48 → (u.callEntry n).call = none →
      (∀ j, j < n → (u.callEntry j).call.isSome = true) →
      ∃ t, exec (.raiseCall h v) s = .next t ∧ SlotDone u t h (.raiseCall v) (BitVec.ofNat 32 n) ∧
        (t.ex e).causeRec .ordered = some ⟨.ordered, .entered n⟩ ∧
        t.callEntry n = ⟨((u.callEntry n).gen + 1) % 16, some (Call.mk e .ordered v.toNat 1 u.tick u.tick
          (some (after u.tick ((u.zone (u.ex e).call.zone).t1 * 1000))) 0 none)⟩ ∧
        (∀ j, j ≠ n → t.callEntry j = u.callEntry j) ∧ OtherExhibits e u t ∧
        OtherSlots h.slot.val u t ∧ KeptBut rest u t) ∧
    ((u.ex e).causeRec .ordered = none → (∀ j, j < 48 → (u.callEntry j).call.isSome = true) →
      ∃ t, exec (.raiseCall h v) s = .next t ∧ SlotDone u t h (.raiseCall v) 255 ∧
        (t.ex e).causeRec .ordered = some ⟨.ordered, .pending ⟨u.tick, 0, v.toNat, none⟩⟩ ∧
        OtherExhibits e u t ∧ OtherSlots h.slot.val u t ∧ KeptBut (.exhibits :: orderFields) u t) ∧
    (∀ p, (u.ex e).causeRec .ordered = some ⟨.ordered, .pending p⟩ →
      ∃ t, exec (.raiseCall h v) s = .next t ∧
        SlotDone u t h (.raiseCall v) (BitVec.ofNat 32 (255 + 65536 * min 255 (p.repeats + 1))) ∧
        (t.ex e).causeRec .ordered = some ⟨.ordered, .pending
          { p with repeats := min 255 (p.repeats + 1), severity := max p.severity v.toNat }⟩ ∧
        OtherExhibits e u t ∧ OtherSlots h.slot.val u t ∧ KeptBut (.exhibits :: orderFields) u t) ∧
    (∀ n c, (u.ex e).causeRec .ordered = some ⟨.ordered, .entered n⟩ → (u.callEntry n).call = some c →
      ∃ t, exec (.raiseCall h v) s = .next t ∧
        SlotDone u t h (.raiseCall v) (BitVec.ofNat 32 (n + 65536 * min 255 (c.repeats + 1))) ∧
        t.callEntry n = ⟨(u.callEntry n).gen, some
          { c with repeats := min 255 (c.repeats + 1), severity := max c.severity v.toNat }⟩ ∧
        (∀ j, j ≠ n → t.callEntry j = u.callEntry j) ∧ t.exhibits = u.exhibits ∧
        OtherSlots h.slot.val u t ∧ KeptBut ([.calls, .beacons] ++ orderFields) u t)

/-- ACKNOWLEDGE CALL leaves no named cause unacknowledged and counts those it acknowledged; CLEAR CALL is
refused for codes 2 to 4, and otherwise takes HELP, ORDERED or both out of the cause set and counts them
(R165, R166). -/
def Obligations.CallOrdersAcknowledgeAndClear : Prop :=
  ∀ (h : OrderHead) (c : Byte) (s : State), let u := settle s
    let e := OrderHead.ex h
    MayOrderExhibit u h → Untimed h → c.toNat ≤ 5 →
    (∃ t, exec (.acknowledgeCall h c) s = .next t ∧
      SlotDone u t h (.ackCall c) (BitVec.ofNat 32
        ((causesNamed allCauses c.toNat).filter (unacknowledged u e)).length) ∧
      (∀ x ∈ causesNamed allCauses c.toNat, unacknowledged t e x = false) ∧
      OtherExhibits e u t ∧ OtherSlots h.slot.val u t ∧
      KeptBut ([.exhibits, .calls, .beacons] ++ orderFields) u t) ∧
    (2 ≤ c.toNat → c.toNat ≤ 4 →
      ∃ t, exec (.clearCall h c) s = .next t ∧ RefusedOnly u t h (.clearCall c) .state 0) ∧
    (c.toNat = 0 ∨ c.toNat = 1 ∨ c.toNat = 5 →
      ∃ t, exec (.clearCall h c) s = .next t ∧
        SlotDone u t h (.clearCall c) (BitVec.ofNat 32
          ((causesNamed [.help, .ordered] c.toNat).filter
            (fun x => ((u.ex e).causeRec x).isSome)).length) ∧
        (∀ x ∈ causesNamed [.help, .ordered] c.toNat, (t.ex e).causeRec x = none) ∧
        OtherSlots h.slot.val u t ∧ KeptBut ([.exhibits, .calls, .beacons] ++ orderFields) u t)

/-- CLEAR FAULT: refused with STATE and the kind code where the record is empty, remote clear is not
allowed, or the fault is a GUARD TRIP; otherwise DONE with the kind and the later-fault count, and the
record and its cause are cleared: a LOCKED OUT exhibit stays so, and a FAULTED one goes to HOMING with its
claim asked, to HELD to home later where a hold reason is present, to LOCKED OUT by ORDER where the claim
exceeds the budget, or, without axes, to READY (R177, R175, R30, R36). -/
def Obligations.ClearFaultClearsTheRecord : Prop :=
  ∀ (h : OrderHead) (s : State), let u := settle s
    let e := OrderHead.ex h
    let x := u.ex e
    let claim := homingClaim u e
    MayOrderExhibit u h → Untimed h →
    (x.capture = none →
      ∃ t, exec (.clearFault h) s = .next t ∧ RefusedOnly u t h .clearFault .state 0) ∧
    (∀ c, x.capture = some c → x.call.remoteClear = false ∨ c.report.kind = .guardTrip →
      ∃ t, exec (.clearFault h) s = .next t ∧
        RefusedOnly u t h .clearFault .state (BitVec.ofNat 32 c.report.kind.code)) ∧
    (∀ c, x.capture = some c → x.call.remoteClear = true → c.report.kind ≠ .guardTrip →
      ∃ t, exec (.clearFault h) s = .next t ∧
        SlotDone u t h .clearFault (BitVec.ofNat 32 (c.report.kind.code + 65536 * x.laterFaults)) ∧
        KeptBut exhibitFields u t ∧
        let cleared := (t.ex e).capture = none ∧ (t.ex e).laterFaults = 0 ∧
          (t.ex e).causeRec .motionFault = none
        (x.state = .lockedOut → (t.ex e).state = .lockedOut ∧ cleared) ∧
        (x.state = .faulted → x.axes = [] → x.queued = none → (t.ex e).state = .ready ∧ cleared) ∧
        (x.state = .faulted → x.axes ≠ [] → x.hold = ⟨false, false, false⟩ →
          WithinBudget u e claim →
          (t.ex e).state = .homing ∧ (t.ex e).axesSet = [] ∧ Asked u t e claim .homing ∧ cleared ∧
          KeptBut ([.exhibits, .groups, .handed, .calls, .beacons] ++ orderFields) u t) ∧
        (x.state = .faulted → x.axes ≠ [] → x.hold = ⟨false, false, false⟩ →
          (u.group x.group).budget < claim →
          (t.ex e).state = .lockedOut ∧ (t.ex e).lock = { x.lock with order := true } ∧ cleared) ∧
        (x.state = .faulted → x.axes ≠ [] → x.hold.isEmpty = false →
          (u.energised e = true → (t.ex e).state = .held ∧ (t.ex e).heldAct = some .homing) ∧
          (u.energised e = false → (t.ex e).state = .homing) ∧ cleared ∧
          KeptBut ([.exhibits, .calls, .beacons] ++ orderFields) u t))

/-- BRING UP EXHIBIT: a failed walk is refused with BAD PARAMETER and the part's offset and reason, an
owned input or channel with FULL; otherwise the exhibit is installed as read, its inputs and channels
are claimed, and without axes and locks the order is DONE with the number of parts (R12 to R15). -/
def Obligations.BringUpInstallsTheExhibit : Prop :=
  ∀ (h : OrderHead) (o : Half) (s : State), let u := settle s
    let e := OrderHead.ex h
    MayOrderGallery u h → Untimed h → e ≤ 31 → u.ex e = .absent →
    (∀ f, walkDescriptor u.mem o.toNat e = .bad f →
      ∃ t, exec (.bringUpExhibit h o) s = .next t ∧
        RefusedOnly u t h (.bringUp o) .badParameter (BitVec.ofNat 32 (f.offset + 65536 * f.reason))) ∧
    (∀ d w r, walkDescriptor u.mem o.toNat e = .ok (d, w) → ownershipConflict u w = some r →
      ∃ t, exec (.bringUpExhibit h o) s = .next t ∧ RefusedOnly u t h (.bringUp o) .full r) ∧
    (∀ d w, walkDescriptor u.mem o.toNat e = .ok (d, w) → ownershipConflict u w = none →
      ∃ t, exec (.bringUpExhibit h o) s = .next t ∧ (t.ex e).installed = true ∧
        (t.ex e).label = d.label ∧ (t.ex e).access = d.access ∧ (t.ex e).stations = w.stations ∧
        (t.ex e).axes = w.axes.map (·.2) ∧
        (∀ i ∈ rangeInputs w.stations, (t.inp i).owner = some e ∧ (t.inp i).presses = 0 ∧
          (t.inp i).debounced = (u.inp i).debounced) ∧
        (∀ p ∈ w.axes, (t.ch p.2.channel).owner = some e) ∧
        KeptBut (.inputs :: exhibitFields) u t ∧
        (w.axes = [] → d.locked = true → SlotDone u t h (.bringUp o) (BitVec.ofNat 32 w.parts) ∧
          (t.ex e).state = .lockedOut) ∧
        (w.axes = [] → d.locked = false → (t.ex e).lock.key = false →
          SlotDone u t h (.bringUp o) (BitVec.ofNat 32 w.parts) ∧ (t.ex e).state = .ready))

/-- RETIRE EXHIBIT: with no axis moving the exhibit is ABSENT at once, its inputs and channels unowned
and de-energised, and the order DONE; with an axis moving it brakes toward LOCKED OUT with retire pending
(R16, R17). -/
def Obligations.RetireExhibitTakesItOut : Prop :=
  ∀ (h : OrderHead) (s : State), let u := settle s
    let e := OrderHead.ex h
    MayOrderExhibit u h → Untimed h →
    (u.anyMoving e = false →
      ∃ t, exec (.retireExhibit h) s = .next t ∧ SlotDone u t h .retire 0 ∧ t.ex e = .absent ∧
        (∀ i ∈ rangeInputs (u.ex e).stations, (t.inp i).owner = none ∧ (t.inp i).presses = 0) ∧
        (∀ a ∈ (u.ex e).axes, (t.ch a.channel).owner = none ∧ (t.ch a.channel).energised = false) ∧
        KeptBut (.inputs :: exhibitFields) u t) ∧
    (u.anyMoving e = true →
      ∃ t, exec (.retireExhibit h) s = .next t ∧ (t.ex e).state = .braking ∧
        (t.ex e).target = some .lockedOut ∧ (t.ex e).retire = some h.slot.val ∧ (t.ex e).run = none ∧
        (t.ex e).queued = none ∧ (t.ex e).hold = ⟨false, false, false⟩ ∧ (t.ex e).capture = none ∧
        (∀ i ∈ rangeInputs (u.ex e).stations, (t.inp i).owner = none) ∧
        (∀ a ∈ (u.ex e).axes, (u.ch a.channel).state = .moving →
          (t.ch a.channel).state = .braking ∧ (t.ch a.channel).v = (u.ch a.channel).v) ∧
        KeptBut (.inputs :: exhibitFields) u t)

/-- SET CLOCK, where no entry of the due list is due at the new tick: the gallery tick takes the new
value, the result word is the previous tick, every expiry moves by the same difference, due ticks and
ticks that record the past stand, and the due list holds the same entries in the order of their due ticks
from the new tick (R190). That the list is put in order again is the model's choice (log entry 49). -/
def Obligations.SetClockMovesExpiries : Prop :=
  ∀ (h : OrderHead) (p : Tick) (s : State), let u := settle s
    let d := p - u.tick
    MayOrderGallery u h → Untimed h → u.handed = [] →
    (∀ x ∈ u.dueList, isDue p x.due = false) →
    ∃ t, exec (.setClock h p) s = .next t ∧ t.tick = p ∧ SlotDone u t h (.setClock p) u.tick ∧
      t.dueList.Perm u.dueList ∧
      t.dueList.Pairwise (fun a b => (a.due - p).toInt ≤ (b.due - p).toInt) ∧
      (∀ e, (t.ex e).restTimer = (u.ex e).restTimer.map (· + d) ∧
        ((t.ex e).run.bind (·.dwell)) = ((u.ex e).run.bind (·.dwell)).map (· + d) ∧
        (t.ex e).state = (u.ex e).state ∧ (t.ex e).capture = (u.ex e).capture) ∧
      (∀ i, ((t.inp i).bucket.bind (·.refill)) = ((u.inp i).bucket.bind (·.refill)).map (· + d) ∧
        (t.inp i).lastEvent = (u.inp i).lastEvent) ∧
      (∀ n, ((t.callEntry n).call.bind (·.escalation)) =
          ((u.callEntry n).call.bind (·.escalation)).map (· + d) ∧
        ((t.callEntry n).call.map (·.raise)) = ((u.callEntry n).call.map (·.raise))) ∧
      (∀ e, helpHoldExpiry t e = (helpHoldExpiry u e).map (· + d)) ∧
      (∀ b, (t.beacon b).refresh = (u.beacon b).refresh.map (· + d)) ∧
      (∀ l, t.cue l = (u.cue l).map (· + d)) ∧ t.linger = u.linger.map (· + d) ∧
      OtherSlots h.slot.val u t ∧
      KeptBut ([.tick, .dueList, .exhibits, .inputs, .calls, .beacons, .cues, .linger] ++ orderFields)
        u t

/-- CANCEL takes the order of the slot it names out of the due list, which completes CANCELLED with result
0, and completes DONE with result 1, or with result 0 where the due list does not hold it; a number
outside 0 to 31 or DUE PRESENT is refused with BAD PARAMETER (R189, R186). -/
def Obligations.CancelTakesTheOrderOut : Prop :=
  ∀ (h : OrderHead) (n : Byte) (s : State), let u := settle s
    (MayOrderGallery u h → 31 < n.toNat ∨ ¬ Untimed h →
      ∃ t, exec (.cancel h n) s = .next t ∧ RefusedOnly u t h (.cancel n) .badParameter 0) ∧
    (SlotOpen u h → u.control.getLsbD (sourceOf h.slot.val) = true ∨
        n.toNat / 8 = sourceOf h.slot.val → n.toNat ≤ 31 → Untimed h →
      ((∀ d ∈ u.dueList, d.slot ≠ n.toNat) →
        ∃ t, exec (.cancel h n) s = .next t ∧ SlotDone u t h (.cancel n) 0 ∧
          OtherSlots h.slot.val u t ∧ KeptBut orderFields u t) ∧
      ((∃ d ∈ u.dueList, d.slot = n.toNat) →
        ∃ t, exec (.cancel h n) s = .next t ∧ SlotDone u t h (.cancel n) 1 ∧
          t.dueList = u.dueList.filter (fun d => d.slot != n.toNat) ∧
          (n.toNat ≠ h.slot.val → (t.slot n.toNat).state = .done ∧
            (t.slot n.toNat).outcome = .cancelled ∧ (t.slot n.toNat).result = 0 ∧
            (t.slot n.toNat).doneTick = u.tick) ∧
          (∀ j, j ≠ h.slot.val → j ≠ n.toNat → t.slot j = u.slot j) ∧
          KeptBut (.dueList :: orderFields) u t))

/-! ### The station link -/

/-- POLL: the lowest present address above the node polled last, or the lowest present one; four bytes
whose last three sum to 0, with the lamp level of each of the node's eight inputs; a reply window opens.
With a window open or an empty mask nothing is sent (R49, R50, R51). -/
def Obligations.PollGoesRound : Prop :=
  ∀ s : State, let u := settle s
    (u.window = none → u.linkMask ≠ 0 →
      ∃ n t lamps check, exec .poll s = .next t ∧ 1 ≤ n ∧ n ≤ 32 ∧ u.linkMask.getLsbD (n - 1) = true ∧
        ((u.pollPos < n ∧ ∀ j, u.pollPos < j → j < n → u.linkMask.getLsbD (j - 1) = false) ∨
          ((∀ j, 1 ≤ j → u.pollPos < j → j ≤ 32 → u.linkMask.getLsbD (j - 1) = false) ∧
            ∀ j, 1 ≤ j → j < n → u.linkMask.getLsbD (j - 1) = false)) ∧
        t.pollPos = n ∧ t.window = some ⟨n, u.linkTimeout, []⟩ ∧
        t.linkTx = [0xC3, BitVec.ofNat 8 n, lamps, check] ∧ BitVec.ofNat 8 n + lamps + check = 0 ∧
        (∀ k, k < 8 → lamps.getLsbD k = lampAt u (8 * (n - 1) + k)) ∧
        KeptBut [.pollPos, .window, .linkTx, .views, .notice] u t) ∧
    (u.window.isSome = true ∨ u.linkMask = 0 → exec .poll s = .next (publish u))

/-- REPLY: a good reply of a node in the mask closes the window and is applied to its record: an UNKNOWN
node answers at once, a SILENT one at its second good reply, and an ANSWERING one is debounced; other
bytes only wait in the window (R51, R52, R53, R56). The accepted levels follow, in ascending input number
and one event each; on entering ANSWERING they are the levels of the reply (R59, R64). -/
def Obligations.ReplyIsApplied : Prop :=
  ∀ (bs : List RxByte) (s : State), let u := settle s
    let wide := exhibitFields ++ [.window, .nodes, .inputs, .pages, .curPage, .lastPage, .nextSeq, .linger]
    (u.window = none → exec (.reply bs) s = .next (publish u)) ∧
    (∀ w, u.window = some w → goodReply w.node ((w.bytes ++ bs).take 5) = none →
      ∃ t, exec (.reply bs) s = .next t ∧
        t.window = some { w with bytes := (w.bytes ++ bs).take 5 } ∧
        KeptBut [.window, .views, .notice] u t) ∧
    (∀ w i st, u.window = some w → goodReply w.node ((w.bytes ++ bs).take 5) = some (i, st) →
      (present u.linkMask w.node = false →
        ∃ t, exec (.reply bs) s = .next t ∧ t.window = none ∧ KeptBut [.window, .views, .notice] u t) ∧
      (present u.linkMask w.node = true →
        let x := { u.node w.node with status := st, missRun := 0 }
        let handed := fun (v t : State) (f : Nat → Input → Input) =>
          ∃ m, LevelsHanded w.node v m ∧ t = publish m ∧
            KeptBut [.window, .nodes, .inputs, .notice] u v ∧
            (∀ j, j / 8 + 1 ≠ w.node → v.inp j = u.inp j) ∧
            ∀ k, k < 8 → v.inp (8 * (w.node - 1) + k) = f k (u.inp (8 * (w.node - 1) + k))
        ∃ t, exec (.reply bs) s = .next t ∧ t.window = none ∧ KeptBut wide u t ∧
          (∀ j, j ≠ w.node → t.node j = u.node j) ∧
          ((u.node w.node).state = .unknown ∨
              ((u.node w.node).state = .silent ∧ 1 ≤ (u.node w.node).goodRun) →
            t.node w.node = { x with state := .answering, goodRun := 0 } ∧
            t.notice.getLsbD 5 = true ∧
            ∀ k, k < 8 → let y := t.inp (8 * (w.node - 1) + k)
              y.debounced = i.getLsbD k ∧ y.accepted = i.getLsbD k ∧ y.agree = 0) ∧
          ((u.node w.node).state = .unknown →
            ∃ v, handed v t (fun k y => { y with debounced := i.getLsbD k, agree := 0 })) ∧
          ((u.node w.node).state = .silent → (u.node w.node).goodRun = 0 →
            t.node w.node = { x with goodRun := 1 } ∧
            KeptBut [.window, .nodes, .views, .notice] u t) ∧
          ((u.node w.node).state = .answering → t.node w.node = x ∧
            (∀ k, k < 8 → let y := t.inp (8 * (w.node - 1) + k)
              y.accepted = y.debounced) ∧
            ∃ v, handed v t (fun k y =>
              if i.getLsbD k = y.debounced then { y with agree := 0 }
              else if y.agree + 1 < u.depth then { y with agree := y.agree + 1 }
              else { y with debounced := i.getLsbD k, agree := 0 }))))

/-- REPLY_TIMEOUT: a miss of a node in the mask raises its miss count; the third in a row makes an
ANSWERING node SILENT, sets LINK, and gives every input of the node its substitute level, with one event
each, and its owners NODE SILENT; no other miss does (R52, R53, R55, R58, R61). An input's accepted level
is its debounced one while its node is ANSWERING; otherwise a guard or mat reads active and any other
input its debounced level (R57). -/
def Obligations.TimeoutCountsAMiss : Prop :=
  (∀ s : State, let u := settle s
    (u.window = none → exec .replyTimeout s = .next (publish u)) ∧
    (∀ w, u.window = some w → present u.linkMask w.node = false →
      ∃ t, exec .replyTimeout s = .next t ∧ t.window = none ∧ KeptBut [.window, .views, .notice] u t) ∧
    (∀ w, u.window = some w → present u.linkMask w.node = true →
      let x := { u.node w.node with miss := (u.node w.node).miss + 1, goodRun := 0 }
      ∃ t, exec .replyTimeout s = .next t ∧ t.window = none ∧
        (∀ j, j ≠ w.node → t.node j = u.node j) ∧
        ((u.node w.node).state ≠ .answering →
          t.node w.node = x ∧ t.notice.getLsbD 5 = u.notice.getLsbD 5 ∧
          KeptBut [.window, .nodes, .views, .notice] u t) ∧
        ((u.node w.node).state = .answering → (u.node w.node).missRun < 2 →
          t.node w.node = { x with missRun := (u.node w.node).missRun + 1 } ∧
          t.notice.getLsbD 5 = u.notice.getLsbD 5 ∧
          KeptBut [.window, .nodes, .views, .notice] u t) ∧
        ((u.node w.node).state = .answering → 2 ≤ (u.node w.node).missRun →
          t.node w.node = { x with state := .silent, missRun := 0 } ∧ t.notice.getLsbD 5 = true ∧
          (∀ k, k < 8 → let i := 8 * (w.node - 1) + k
            (t.inp i).debounced = (u.inp i).debounced ∧ (t.inp i).agree = 0 ∧
            ∀ e, (u.inp i).owner = some e → e < 32 →
              ((t.ex e).causeRec .nodeSilent).isSome = true) ∧
          ∃ v m, LevelsHanded w.node v m ∧ t = publish (silentCauses w.node m) ∧
            KeptBut [.window, .nodes, .inputs, .notice] u v ∧
            ∀ i, v.inp i = if i / 8 + 1 = w.node then { u.inp i with agree := 0 } else u.inp i))) ∧
  (∀ (v : State) (i : Nat),
    ((v.node (i / 8 + 1)).state = .answering → formLevel v i = (v.inp i).debounced) ∧
    ((v.node (i / 8 + 1)).state ≠ .answering →
      (v.classOf i = some .guardHold ∨ v.classOf i = some .guardTrip ∨ v.classOf i = some .mat →
        formLevel v i = true) ∧
      (v.classOf i ≠ some .guardHold → v.classOf i ≠ some .guardTrip → v.classOf i ≠ some .mat →
        formLevel v i = (v.inp i).debounced)))

/-! ### Expiries, grants and motion -/

/-- REFILL_EXPIRY adds one token and keeps the cadence until the bucket is full, and CUE_PULSE_END turns
the line off at its end tick; neither acts before its tick is due (R69, R106). A press of an unclaimed
input is declined; a HELP press raises its cause and spends no token; any other press on a BUTTON is
declined unless the gallery is OPEN and suppressed, without a record, where no token is left; and a NOTE
press spends a token and does no more (R65 to R68, R78). -/
def Obligations.RefillAndCueExpire : Prop :=
  (∀ s : State, let u := settle s
    (∀ (i : Fin 256) (e : Nat) (b : Bucket) (x : Tick), (u.inp i.val).owner = some e →
      (u.inp i.val).bucket = some b → b.refill = some x →
      (isDue u.tick x = true →
        ∃ t, exec (.refillExpiry i) s = .next t ∧
          t.inp i.val = { u.inp i.val with bucket := some ⟨b.tokens + 1,
            if b.tokens + 1 < capacityOf (u.ex e) then some (after x (refillMs (u.ex e))) else none⟩ } ∧
          OtherInputs i.val u t ∧ KeptBut [.inputs, .views, .notice] u t) ∧
      (isDue u.tick x = false → exec (.refillExpiry i) s = .next (publish u))) ∧
    (∀ l : Fin 8,
      (dueNow u.tick (u.cue (l.val + 1)) = true →
        ∃ t, exec (.cuePulseEnd l) s = .next t ∧ t.cue (l.val + 1) = none ∧
          (∀ j, j ≠ l.val + 1 → t.cue j = u.cue j) ∧ KeptBut [.cues, .views, .notice] u t) ∧
      (dueNow u.tick (u.cue (l.val + 1)) = false → exec (.cuePulseEnd l) s = .next (publish u)))) ∧
  (∀ (v : State) (i : Nat), let t := inputEvent i true v
    ((v.inp i).owner = none →
      ∃ w, t = placeRecord ⟨0, i, 255, v.tick, 0, 7, 255, 0⟩ w ∧
        Pressed v w i 0 1 0 (v.inp i).bucket ∧ KeptBut [.inputs] v w) ∧
    (∀ e, (v.inp i).owner = some e → v.classOf i = some .button → let x := v.ex e
      (x.actionAt i = .help →
        ∃ w, t = placeRecord (pressOf v i e 1 255) w ∧ Pressed v w i 1 0 0 (v.inp i).bucket ∧
          KeptBut [.inputs, .exhibits, .calls, .beacons] v w ∧
          ((w.ex e).causeRec .help).isSome = true ∧
          (∀ n, x.causeRec .help = none → n < 48 → (v.callEntry n).call = none →
            (∀ j, j < n → (v.callEntry j).call.isSome = true) →
            (w.ex e).causeRec .help = some ⟨.help, .entered n⟩ ∧
            (w.callEntry n).call = some ⟨e, .help, 2, 1, v.tick, v.tick,
              some (after v.tick ((v.zone x.call.zone).t1 * 1000)), 0, none⟩)) ∧
      (x.actionAt i ≠ .help → v.mode ≠ .open →
        ∃ w, t = placeRecord (pressOf v i e 6
            (match x.entryAt i with
              | none => 255
              | some m => if m.action = .start then m.routine else 255)) w ∧
          Pressed v w i 0 1 0 (v.inp i).bucket ∧ KeptBut [.inputs] v w) ∧
      (∀ b, x.actionAt i ≠ .help → v.mode = .open → (v.inp i).bucket = some b → b.tokens = 0 →
        Pressed v t i 0 0 1 (some b) ∧ KeptBut [.inputs] v t) ∧
      (∀ b, PressPasses v i e b → x.actionAt i = .note →
        ∃ w, PressTaken v w t i e b 1 255 ∧ KeptBut [.inputs] v w)))

/-- A READY exhibit whose rest timer is due goes to RESTING, its axes de-energised, its timer stopped and,
with axes and no request of its own, its units returned (R33, R20, R118). A mat's activation stops a READY
exhibit's rest timer, wakes a RESTING one without hold reasons, and is else recorded only; the
deactivation of the last active mat starts a READY exhibit's timer again (R79, R32, R34). -/
def Obligations.RestTimerPutsToRest : Prop :=
  (∀ (e : Fin 32) (s : State), let u := settle s
    ((u.ex e.val).state = .ready → dueNow u.tick (u.ex e.val).restTimer = true →
      ∃ t, exec (.restTimerExpiry e) s = .next t ∧ (t.ex e.val).state = .resting ∧
        (t.ex e.val).restTimer = none ∧ (t.ex e.val).queued = (u.ex e.val).queued ∧
        (∀ a ∈ (u.ex e.val).axes, (t.ch a.channel).energised = false) ∧
        ((u.ex e.val).axes ≠ [] → u.request e.val = none → (t.ex e.val).units = 0) ∧
        KeptBut [.exhibits, .channels, .groups, .handed, .views, .notice] u t) ∧
    ((u.ex e.val).state ≠ .ready ∨ dueNow u.tick (u.ex e.val).restTimer = false →
      exec (.restTimerExpiry e) s = .next (publish u))) ∧
  (∀ (v : State) (i e : Nat), let x := v.ex e
    let t := inputEvent i true v
    let units := if x.rest.rehome then x.allRunLoads else x.holdUnits
    (v.inp i).owner = some e → v.classOf i = some .mat →
    (t.inp i = { v.inp i with accepted := true, lastEvent := v.tick } ∧ OtherInputs i v t) ∧
    (x.state = .ready → t.ex e = { x with restTimer := none } ∧ OtherExhibits e v t ∧
      KeptBut [.inputs, .exhibits] v t) ∧
    ((x.state ≠ .ready ∧ x.state ≠ .resting) ∨ (x.state = .resting ∧ x.hold.isEmpty = false) →
      KeptBut [.inputs] v t) ∧
    (x.state = .resting → x.hold = ⟨false, false, false⟩ → x.wakePending = false → x.queued = none →
      x.axes ≠ [] →
      (WithinBudget v e units → (t.ex e).state = .resting ∧ (t.ex e).wakePending = true ∧
        Asked v t e units .wake ∧
        KeptBut [.inputs, .exhibits, .groups, .handed, .views, .notice] v t) ∧
      ((v.group x.group).budget < units → (t.ex e).state = .resting ∧
        (t.ex e).wakePending = false ∧ t.notice.getLsbD 3 = true)) ∧
    (let w := v.modInp i (fun y => { y with accepted := false })
     (x.state ≠ .ready ∨ w.matActive e = true → inputEvent i false v = w) ∧
     (x.state = .ready → w.matActive e = false →
       ∃ t, inputEvent i false v = t ∧ t.inp i = w.inp i ∧ OtherInputs i v t ∧
         t.ex e = { x with restTimer :=
           if x.rest.delay = 0 then x.restTimer else some (after v.tick (x.rest.delay * 1000)) } ∧
         OtherExhibits e v t ∧ KeptBut [.inputs, .exhibits] v t)))

/-- GRANT: a handed WAYPOINT grant starts every axis of the run's waypoint toward its clamped target and
pulses the cue, where the start check passes and some axis has a way to go (R105, R119, R142, R106); a
RESUME grant starts its waypoint so where it had no grant before the hold (the model's choice, log entry
13), and otherwise moves on the axes it stopped (R29, R130). A HOMING grant energises the axes where
needed and starts each toward its home (R30, R132), and in HOMING a RESUME grant moves on the axes not
yet set (R29, R130). A WAKE grant energises the axes and brings the exhibit to HOMING, or begins its
queued start, or brings it to READY (R35). -/
def Obligations.GrantStartsTheWaypoint : Prop :=
  (∀ (e : Nat) (r : List Handed) (p : Purpose) (run : Run) (s : State),
    let w := s.waypoint run.routine run.index
    let axes := axesOf s e (runSlots s (s.ex e) run)
    let aim := fun (a : AxisRec) => max a.low (min (w.targets.getD a.slot 0) a.high)
    s.handed = .grant e p :: r → (s.ex e).state = .running → (s.ex e).run = some run →
    run.phase = .waitingGrant → (axes.map (·.channel)).Nodup →
    (p = .waypoint ∨ (p = .resume ∧ run.started = false) → run.arrived = [] →
      (∀ a ∈ axes, (s.ch a.channel).limit = false ∧ (s.ch a.channel).fault = false) →
      (∃ a ∈ axes, (s.ch a.channel).p ≠ aim a * 1000) →
      ∃ t run', exec .grant s = .next t ∧ t.handed = r ∧ (t.ex e).state = .running ∧
        (t.ex e).run = some run' ∧ run'.phase = .moving ∧ run'.started = true ∧
        run'.routine = run.routine ∧ run'.index = run.index ∧ (t.ex e).units = (s.ex e).units ∧
        (∀ a ∈ axes, StartedToward a (aim a) w.percent w.exp (s.ch a.channel) (t.ch a.channel) ∧
          (a.slot ∈ run'.arrived ↔ (t.ch a.channel).state = .idle)) ∧
        (∀ c, c ∉ axes.map (·.channel) → t.ch c = s.ch c) ∧
        (w.cue ≠ 0 → t.cue w.cue = some (after s.tick 100)) ∧ OtherExhibits e s t ∧
        KeptBut [.exhibits, .channels, .slots, .handed, .cues, .views, .notice] s t) ∧
    (p = .resume → run.started = true →
      (∀ a ∈ axes, (s.ch a.channel).limit = false ∧ (s.ch a.channel).fault = false) →
      ∃ t, exec .grant s = .next t ∧ t.handed = r ∧
        t.ex e = { s.ex e with run := some { run with phase := .moving } } ∧ OtherExhibits e s t ∧
        (∀ a ∈ axes, ∀ T, a.slot ∉ run.arrived → (s.ch a.channel).state = .stopped →
          (s.ch a.channel).kind = some .waypoint → (s.ch a.channel).target = some T →
          (s.ch a.channel).p ≠ T * 1000 →
          t.ch a.channel = { s.ch a.channel with
            state := .moving, phase := some .rampUp, v := 0,
            dir := if (s.ch a.channel).p < T * 1000 then .up else .down }) ∧
        (∀ c, (∀ a ∈ axes, a.channel = c → a.slot ∈ run.arrived ∨ (s.ch c).state = .confirming) →
          t.ch c = s.ch c) ∧
        KeptBut [.exhibits, .channels, .handed, .views, .notice] s t)) ∧
  (∀ (e : Nat) (r : List Handed) (p : Purpose) (s : State), let x := s.ex e
    let axes := axesOf s e x.axisSlots
    let powered := fun (c : Channel) => { c with energised := c.energised || !s.energised e }
    s.handed = .grant e p :: r → axes.Perm x.axes → (x.axes.map (·.channel)).Nodup →
    (∀ a ∈ x.axes, (s.ch a.channel).limit = false ∧ (s.ch a.channel).fault = false) →
    (p = .homing → x.state = .homing → (∀ a ∈ x.axes, (s.ch a.channel).kind = none) →
      x.axesSet = [] → (∃ a ∈ x.axes, (s.ch a.channel).home = false) →
      ∃ t, exec .grant s = .next t ∧ t.handed = r ∧ (t.ex e).state = .homing ∧
        (∀ a ∈ x.axes, StartedHoming a (powered (s.ch a.channel)) (t.ch a.channel) ∧
          (a.slot ∈ (t.ex e).axesSet ↔ (s.ch a.channel).home = true)) ∧
        OtherExhibits e s t ∧ KeptBut [.exhibits, .channels, .handed, .views, .notice] s t) ∧
    (p = .resume → x.state = .homing →
      (∀ a ∈ x.axes, a.slot ∉ x.axesSet → (s.ch a.channel).state = .stopped ∧
        (s.ch a.channel).kind = some .homing ∧ (s.ch a.channel).home = false) →
      (∃ a ∈ x.axes, a.slot ∉ x.axesSet) →
      ∃ t, exec .grant s = .next t ∧ t.handed = r ∧ t.ex e = x ∧ OtherExhibits e s t ∧
        (∀ a ∈ x.axes, t.ch a.channel = if a.slot ∈ x.axesSet then s.ch a.channel
          else { s.ch a.channel with state := .moving, phase := some .rampUp, v := 0,
                                     dir := homingDir a }) ∧
        KeptBut [.channels, .exhibits, .handed, .views, .notice] s t) ∧
    (p = .wake → x.state = .resting → x.wakePending = true → s.energised e = false →
      (∀ a ∈ x.axes, (s.ch a.channel).kind = none) →
      (x.axes ≠ [] → x.rest.rehome = true → (∃ a ∈ x.axes, (s.ch a.channel).home = false) →
        ∃ t, exec .grant s = .next t ∧ t.handed = r ∧ (t.ex e).state = .homing ∧
          (t.ex e).wakePending = false ∧ (t.ex e).queued = x.queued ∧
          (∀ a ∈ x.axes, StartedHoming a (powered (s.ch a.channel)) (t.ch a.channel) ∧
            (a.slot ∈ (t.ex e).axesSet ↔ (s.ch a.channel).home = true)) ∧
          OtherExhibits e s t ∧ KeptBut [.exhibits, .channels, .handed, .views, .notice] s t) ∧
      (x.rest.rehome = false ∨ x.axes = [] → x.queued = none →
        ∃ t, exec .grant s = .next t ∧ t.handed = r ∧ (t.ex e).state = .ready ∧
          (t.ex e).wakePending = false ∧
          (∀ a ∈ x.axes, t.ch a.channel = { s.ch a.channel with energised := true }) ∧
          OtherExhibits e s t ∧ KeptBut [.exhibits, .channels, .handed, .views, .notice] s t) ∧
      (∀ q, x.rest.rehome = false → x.queued = some q →
        let run := newRun s q.routine q.origin q.atEnd
        let w := s.waypoint q.routine 0
        let aim := fun (a : AxisRec) => max a.low (min (w.targets.getD a.slot 0) a.high)
        (∃ a ∈ axesOf s e (runSlots s x run), (s.ch a.channel).p ≠ aim a * 1000) →
        ∃ t run', exec .grant s = .next t ∧ t.handed = r ∧ (t.ex e).state = .running ∧
          (t.ex e).wakePending = false ∧ (t.ex e).queued = none ∧ (t.ex e).run = some run' ∧
          run'.routine = q.routine ∧ run'.index = 0 ∧ run'.phase = .moving ∧
          (∀ a ∈ axesOf s e (runSlots s x run),
            StartedToward a (aim a) w.percent w.exp (powered (s.ch a.channel)) (t.ch a.channel)) ∧
          (w.cue ≠ 0 → t.cue w.cue = some (after s.tick 100)) ∧ OtherExhibits e s t ∧
          KeptBut [.exhibits, .channels, .slots, .handed, .cues, .views, .notice] s t))) ∧
  (∀ s : State, (∀ x ∈ s.handed, Handed.isGrant x = false) → exec .grant s = .next (publish s))

/-- MOTION_TICK of a MOVING channel with a WAYPOINT move: the phase latches in RAMP DOWN once the stopping
distance meets the remaining one; the velocity rises or falls by the acceleration step within Vmin and
the cruise speed; the axis moves by it, or arrives exactly at its target (R120, R121, R124, R125). -/
def Obligations.MotionTickAdvances : Prop :=
  ∀ (c : Fin 24) (s : State), let u := settle s
    let x := u.ch c.val
    (∀ (e : Nat) (a : AxisRec) (g : Int), x.owner = some e → x.axis = some a → a.channel = c.val →
      x.state = .moving → x.kind = some .waypoint → x.target = some g → (u.ex e).state ≠ .braking →
      let r := (g * 1000 - x.p).natAbs
      let down := x.phase = some .rampDown ∨ r ≤ x.v * x.v / (2 * a.delta)
      let v := if down then max (x.v - a.delta) a.vmin else min (max (x.v + a.delta) a.vmin) x.vc
      (v < r → x.counter + 1 ≠ 2 ^ x.exp - 1 →
        ∃ t, exec (.motionTick c) s = .next t ∧
          t.ch c.val = { x with
            p := if x.dir = .up then x.p + v else x.p - v, v := v, counter := x.counter + 1,
            phase := some (if down then .rampDown else if v = x.vc then .cruise else .rampUp),
            pulses := x.pulses +
              ((if x.dir = .up then x.p + v else x.p - v) / 1000 - x.p / 1000).natAbs } ∧
          OtherChannels c.val u t ∧ KeptBut [.channels, .views, .notice] u t) ∧
      (r ≤ v → a.confirm = true → x.ready = false → x.counter + 1 ≠ 2 ^ x.exp - 1 →
        ∃ t, exec (.motionTick c) s = .next t ∧ (t.ch c.val).state = .confirming ∧
          (t.ch c.val).p = g * 1000 ∧ (t.ch c.val).v = 0 ∧ (t.ch c.val).target = some g ∧
          (t.ch c.val).counter = x.counter + 1 ∧ OtherChannels c.val u t ∧
          KeptBut [.channels, .views, .notice] u t) ∧
      (r ≤ v → a.confirm = false ∨ x.ready = true →
        (∀ q, (u.ex e).run = some q → (u.waypoint q.routine q.index).dwell ≠ 0) →
        ∃ t, exec (.motionTick c) s = .next t ∧ (t.ch c.val).state = .idle ∧
          (t.ch c.val).p = g * 1000 ∧ (t.ch c.val).v = 0 ∧ (t.ch c.val).kind = none ∧
          OtherChannels c.val u t ∧
          ∀ q, (u.ex e).run = some q → ∃ q', (t.ex e).run = some q' ∧ a.slot ∈ q'.arrived)) ∧
    (x.state ≠ .moving → x.state ≠ .confirming → exec (.motionTick c) s = .next (publish u))

/-- HOMING_TICK of a MOVING channel with a HOMING move: it ramps up to the homing speed and moves in the
homing direction with no travel limit (R133, R125). -/
def Obligations.HomingTickAdvances : Prop :=
  ∀ (c : Fin 24) (s : State), let u := settle s
    let x := u.ch c.val
    (∀ (e : Nat) (a : AxisRec), x.owner = some e → x.axis = some a → a.channel = c.val →
      x.state = .moving → x.kind = some .homing → (u.ex e).state ≠ .braking →
      x.counter + 1 ≠ 2 ^ x.exp - 1 →
      let v := min (max (x.v + a.delta) a.vmin) x.vc
      ∃ t, exec (.homingTick c) s = .next t ∧
        t.ch c.val = { x with
          p := if x.dir = .up then x.p + v else x.p - v, v := v, counter := x.counter + 1,
          phase := some (if v = x.vc then .cruise else .rampUp),
          pulses := x.pulses +
            ((if x.dir = .up then x.p + v else x.p - v) / 1000 - x.p / 1000).natAbs } ∧
        OtherChannels c.val u t ∧ KeptBut [.channels, .views, .notice] u t) ∧
    (x.state ≠ .moving ∨ x.kind ≠ some .homing → exec (.homingTick c) s = .next (publish u))

/-- BRAKING_TICK of a BRAKING channel with a WAYPOINT move, while another axis of the exhibit still moves:
below Vmin plus the acceleration step it stops where it is and keeps its move; otherwise it slows by the
step and moves on; its deadline counter stands (R128, R125). When the last moving axis stops, braking
ends: toward READY the held moves are released and the exhibit is READY, toward HELD with a hold reason
it is HELD with its moves kept, toward LOCKED OUT it is LOCKED OUT, de-energised and without units, each
with the run units returned and the orders that waited for it DONE; and a retire ends (R28, R129, R17). -/
def Obligations.BrakingTickSlows : Prop :=
  ∀ (c : Fin 24) (s : State), let u := settle s
    let x := u.ch c.val
    (∀ (e : Nat) (a a' : AxisRec) (g : Int), x.owner = some e → x.axis = some a → a.channel = c.val →
      x.state = .braking → x.kind = some .waypoint → x.target = some g →
      a' ∈ (u.ex e).axes → a'.channel ≠ c.val → (u.ch a'.channel).isMoving = true →
      let r := (g * 1000 - x.p).natAbs
      (x.v < a.vmin + a.delta →
        ∃ t, exec (.brakingTick c) s = .next t ∧
          t.ch c.val = { x with state := .stopped, v := 0, phase := none } ∧
          OtherChannels c.val u t ∧ KeptBut [.channels, .views, .notice] u t) ∧
      (a.vmin + a.delta ≤ x.v → x.v - a.delta < r →
        ∃ t, exec (.brakingTick c) s = .next t ∧
          t.ch c.val = { x with
            p := if x.dir = .up then x.p + (x.v - a.delta : Nat) else x.p - (x.v - a.delta : Nat),
            v := x.v - a.delta,
            pulses := x.pulses +
              ((if x.dir = .up then x.p + (x.v - a.delta : Nat) else x.p - (x.v - a.delta : Nat)) / 1000
                - x.p / 1000).natAbs } ∧
          OtherChannels c.val u t ∧ KeptBut [.channels, .views, .notice] u t)) ∧
    (∀ (e : Nat) (a : AxisRec) (g : Int), let y := u.ex e
      x.owner = some e → x.axis = some a → a.channel = c.val → x.state = .braking →
      x.kind = some .waypoint → x.target = some g → x.v < a.vmin + a.delta → a ∈ y.axes →
      (∀ a' ∈ y.axes, a'.channel ≠ c.val → (u.ch a'.channel).isMoving = false) →
      y.state = .braking → u.request e = none →
      (y.retire = none → y.target = some .ready → y.queued = none →
        ∃ t, exec (.brakingTick c) s = .next t ∧ (t.ex e).state = .ready ∧
          (∀ a' ∈ y.axes, (t.ch a'.channel).kind = none) ∧ (t.ch c.val).state = .idle ∧
          (t.ch c.val).p = x.p ∧ (t.ch c.val).v = 0 ∧ (t.ex e).units ≤ y.holdUnits ∧
          (∀ k ∈ y.stopOrders, (t.slot k).state = .done ∧ (t.slot k).outcome = .done) ∧
          KeptBut exhibitFields u t) ∧
      (y.retire = none → y.target = some .held → y.heldAct = some .running →
        y.hold.isEmpty = false →
        ∃ t, exec (.brakingTick c) s = .next t ∧ (t.ex e).state = .held ∧
          (t.ex e).heldAct = some .running ∧ (t.ex e).run = y.run ∧ (t.ex e).units ≤ y.holdUnits ∧
          t.ch c.val = { x with state := .stopped, v := 0, phase := none } ∧
          OtherChannels c.val u t ∧ KeptBut exhibitFields u t) ∧
      (y.retire = none → y.target = some .lockedOut → y.lock ≠ ⟨false, false⟩ →
        ∃ t, exec (.brakingTick c) s = .next t ∧ (t.ex e).state = .lockedOut ∧ (t.ex e).units = 0 ∧
          (∀ a' ∈ y.axes, (t.ch a'.channel).energised = false ∧ (t.ch a'.channel).kind = none) ∧
          (∀ k ∈ y.lockOrders, (t.slot k).state = .done ∧ (t.slot k).outcome = .done) ∧
          KeptBut exhibitFields u t) ∧
      (∀ k, y.retire = some k →
        ∃ t, exec (.brakingTick c) s = .next t ∧ t.ex e = .absent ∧
          (∀ a' ∈ y.axes, (t.ch a'.channel).owner = none) ∧ (t.slot k).state = .done ∧
          (t.slot k).outcome = .done ∧ KeptBut exhibitFields u t)) ∧
    (x.state ≠ .braking → exec (.brakingTick c) s = .next (publish u))

/-- DEADLINE_OVERRUN: the report of a first fault fills the capture record, stops every axis, ends the run
and the queued start and leaves the exhibit FAULTED; a later one raises the later-fault count, which
stays at 255, and nothing else (R126, R171, R172, R174). -/
def Obligations.OverrunReachesTheCapture : Prop :=
  ∀ (c : Fin 24) (e : Nat) (rep : FaultReport) (rest : List Handed) (s : State),
    (s.handed = .overrun e rep :: rest → rep.channel = c.val → (s.ex e).installed = true →
      (s.ex e).retire = none →
      (∀ q, (s.ex e).capture = some q →
        ∃ t, exec (.deadlineOverrun c) s = .next t ∧ t.handed = rest ∧
          t.ex e = { s.ex e with laterFaults := min 255 ((s.ex e).laterFaults + 1) } ∧
          OtherExhibits e s t ∧ KeptBut [.exhibits, .handed, .views, .notice] s t) ∧
      ((s.ex e).capture = none → (s.ex e).brakingToLock = false →
        ∃ t, exec (.deadlineOverrun c) s = .next t ∧ (t.ex e).state = .faulted ∧
          (t.ex e).capture = some ⟨rep, s.tick, (s.ex e).state,
            ((s.ex e).run.map (·.routine)).getD 255, ((s.ex e).run.map (·.index)).getD 255⟩ ∧
          (t.ex e).laterFaults = 0 ∧ (t.ex e).run = none ∧ (t.ex e).queued = none ∧
          (∀ a ∈ (s.ex e).axes, (t.ch a.channel).isMoving = false) ∧ KeptBut exhibitFields s t)) ∧
    ((∀ x ∈ s.handed, Handed.isOverrunOf c.val x = false) →
      exec (.deadlineOverrun c) s = .next (publish s))

/-- DWELL_EXPIRY: the waypoint is finished; the run waits for STEP, goes on to its next waypoint, which
asks for its claim, or after its last waypoint, with nothing queued, ends with the exhibit READY and its
order DONE (R108, R109). -/
def Obligations.DwellExpiryFinishesTheWaypoint : Prop :=
  ∀ (e : Fin 32) (run : Run) (c : RoutineCopy) (s : State), let u := settle s
    let x := u.ex e.val
    let next := { run with index := run.index + 1 }
    (x.state = .running → x.run = some run → run.phase = .dwelling → dueNow u.tick run.dwell = true →
      (u.routine run.routine).installed = some c →
      (waitsForStep u run = true →
        ∃ t, exec (.dwellExpiry e) s = .next t ∧
          t.ex e.val = { x with run := some ({ run with
            finished := run.finished + 1, dwell := none, phase := .waitingStep }) } ∧
          OtherExhibits e.val u t ∧ KeptBut [.exhibits, .views, .notice] u t) ∧
      (waitsForStep u run = false → run.index + 1 < c.count → 0 < x.runUnits (runSlots u x next) →
        x.runUnits (runSlots u x next) ≤ (u.group x.group).budget →
        ∃ t, exec (.dwellExpiry e) s = .next t ∧ (t.ex e.val).state = .running ∧
          (t.ex e.val).run = some { next with
            finished := run.finished + 1, phase := .waitingGrant, started := false, arrived := [],
            dwell := none, dwellLeft := none } ∧
          KeptBut [.exhibits, .groups, .handed, .views, .notice] u t) ∧
      (run.index + 1 = c.count → run.loopLeft = some 1 → x.queued = none →
        ∃ t, exec (.dwellExpiry e) s = .next t ∧ (t.ex e.val).state = .ready ∧
          (t.ex e.val).run = none ∧ OtherExhibits e.val u t ∧
          (∀ k, run.origin = .order k → run.originDone = false →
            (t.slot k).state = .done ∧ (t.slot k).outcome = .done ∧
            (t.slot k).result = BitVec.ofNat 32 (run.finished + 1)) ∧
          KeptBut [.exhibits, .routines, .slots, .views, .notice] u t)) ∧
    (x.state ≠ .running ∨ x.run.all (fun q => q.phase != .dwelling || !dueNow u.tick q.dwell) = true →
      exec (.dwellExpiry e) s = .next (publish u))

/-- HOME_ACTIVE sets an axis that is homing, and with the last one homing ends: the homing units are
returned, the order that waited is DONE and the exhibit is READY (R133, R30). DRV_READY_ACTIVE completes
the arrival of a CONFIRMING axis, and with the last one of the waypoint the run units are returned and
the dwell begins (R124, R107). On any other channel each is a level only, as every input that becomes
inactive is, and a sampled change to active acts as its own command (R135). -/
def Obligations.ChannelLevelsAreTaken : Prop :=
  ∀ (c : Fin 24) (s : State), let u := settle s
    let x := u.ch c.val
    let only := fun (i : Instr) (y : Channel) => ∃ t, exec i s = .next t ∧ t.ch c.val = y ∧
      OtherChannels c.val u t ∧ KeptBut [.channels, .views, .notice] u t
    let set := fun (a : AxisRec) => { x with
      home := true, state := .idle, kind := none, phase := none, v := 0, target := none,
      counter := 0, exp := 0, p := a.home * 1000 }
    (x.owner = none ∨ x.kind ≠ some .homing ∨ x.isMoving = false →
      only (.homeActive c) { x with home := true }) ∧
    (∀ (e : Nat) (a a' : AxisRec), x.owner = some e → x.axis = some a → x.home = false →
      x.kind = some .homing → x.state = .moving → (u.ex e).state = .homing → a' ∈ (u.ex e).axes →
      a'.slot ≠ a.slot → a'.slot ∉ (u.ex e).axesSet →
      ∃ t, exec (.homeActive c) s = .next t ∧ t.ch c.val = set a ∧
        a.slot ∈ (t.ex e).axesSet ∧ OtherChannels c.val u t ∧ OtherExhibits e u t ∧
        KeptBut [.channels, .exhibits, .views, .notice] u t) ∧
    (∀ (e : Nat) (a : AxisRec), x.owner = some e → x.axis = some a → x.home = false →
      x.kind = some .homing → x.state = .moving → (u.ex e).state = .homing →
      (∀ a' ∈ (u.ex e).axes, a'.slot ≠ a.slot → a'.slot ∈ (u.ex e).axesSet) →
      (u.ex e).queued = none → u.request e = none →
      ∃ t, exec (.homeActive c) s = .next t ∧ t.ch c.val = set a ∧ OtherChannels c.val u t ∧
        (t.ex e).state = .ready ∧ (t.ex e).homingOrder = none ∧
        ((u.ex e).axes ≠ [] → (t.ex e).units ≤ (u.ex e).holdUnits) ∧
        (∀ h, (u.ex e).homingOrder = some h → (t.slot h.slot).state = .done ∧
          (t.slot h.slot).outcome = .done ∧ (t.slot h.slot).result = h.result) ∧
        KeptBut [.channels, .exhibits, .groups, .handed, .slots, .views, .notice] u t) ∧
    (x.owner = none ∨ x.state ≠ .confirming → only (.drvReadyActive c) { x with ready := true }) ∧
    (∀ (e : Nat) (a : AxisRec), x.owner = some e → x.axis = some a → x.state = .confirming →
      (∀ q, (u.ex e).run = some q → (u.waypoint q.routine q.index).dwell ≠ 0) →
      ∃ t, exec (.drvReadyActive c) s = .next t ∧ (t.ch c.val).state = .idle ∧
        (t.ch c.val).ready = true ∧ (t.ch c.val).p = x.p ∧ (t.ch c.val).kind = none ∧
        (∀ q, (u.ex e).run = some q → ∃ q', (t.ex e).run = some q' ∧ a.slot ∈ q'.arrived) ∧
        ∀ q, (u.ex e).run = some q → (u.ex e).state = .running → q.phase = .moving →
          u.request e = none → (u.ex e).axes ≠ [] →
          (∀ k ∈ runSlots u (u.ex e) q, k ≠ a.slot → k ∈ q.arrived) →
          (t.ex e).units ≤ (u.ex e).holdUnits ∧
          ∃ q', (t.ex e).run = some q' ∧ q'.phase = .dwelling ∧
            q'.dwell = some (after u.tick (u.waypoint q.routine q.index).dwell)) ∧
    only (.channelInputChange c .home false) { x with home := false } ∧
    only (.channelInputChange c .limit false) { x with limit := false } ∧
    only (.channelInputChange c .ready false) { x with ready := false } ∧
    only (.channelInputChange c .fault false) { x with fault := false } ∧
    exec (.channelInputChange c .home true) s = exec (.homeActive c) s ∧
    exec (.channelInputChange c .limit true) s = exec (.limitActive c) s ∧
    exec (.channelInputChange c .ready true) s = exec (.drvReadyActive c) s ∧
    exec (.channelInputChange c .fault true) s = exec (.drvFaultActive c) s

/-- LIMIT_ACTIVE on a moving or confirming channel, and DRV_FAULT_ACTIVE on an energised one, stop it and
bring an exhibit with an empty record to FAULTED with the report of the moment before the stop; on any
other channel each is a level only (R135, R136, R172). -/
def Obligations.ChannelFaultsStopTheExhibit : Prop :=
  ∀ (c : Fin 24) (s : State), let u := settle s
    let x := u.ch c.val
    let only := fun (i : Instr) (y : Channel) => ∃ t, exec i s = .next t ∧ t.ch c.val = y ∧
      OtherChannels c.val u t ∧ KeptBut [.channels, .views, .notice] u t
    let faulted := fun (i : Instr) (k : FaultKind) (e : Nat) (a : AxisRec) =>
      ∃ t, exec i s = .next t ∧ (t.ex e).state = .faulted ∧
        (t.ex e).capture = some ⟨⟨k, a.slot, c.val, x.p / 1000, x.v⟩, u.tick, (u.ex e).state,
          ((u.ex e).run.map (·.routine)).getD 255, ((u.ex e).run.map (·.index)).getD 255⟩ ∧
        (t.ex e).run = none ∧ (t.ch c.val).isMoving = false ∧
        (∀ a' ∈ (u.ex e).axes, (t.ch a'.channel).isMoving = false) ∧ KeptBut exhibitFields u t
    let armed := fun (e : Nat) (a : AxisRec) => x.owner = some e ∧ x.axis = some a ∧
      a.channel = c.val ∧ (u.ex e).installed = true ∧ (u.ex e).retire = none ∧
      (u.ex e).capture = none ∧ (u.ex e).brakingToLock = false
    (x.owner = none ∨ x.state = .idle ∨ x.state = .stopped →
      only (.limitActive c) { x with limit := true }) ∧
    (∀ e a, armed e a → x.limit = false → x.isMoving = true ∨ x.state = .confirming →
      faulted (.limitActive c) .limitHit e a) ∧
    (x.owner = none ∨ x.energised = false → only (.drvFaultActive c) { x with fault := true }) ∧
    (∀ e a, armed e a → x.fault = false → x.energised = true →
      faulted (.drvFaultActive c) .driverFault e a)

/-! ### Attendant calls -/

/-- ESCALATION_EXPIRY: a RINGING call climbs one tier, and only the second has a next expiry; HOLD_EXPIRY
clears an acknowledged HELP cause; neither acts before its tick is due (R155, R163). -/
def Obligations.CallsEscalateAndExpire : Prop :=
  ∀ s : State, let u := settle s
    (∀ (n : Fin 48) (c : Call), (u.callEntry n.val).call = some c →
      (c.ack = none → dueNow u.tick c.escalation = true →
        ∃ t, exec (.escalationExpiry n) s = .next t ∧
          t.callEntry n.val = ⟨(u.callEntry n.val).gen, some { c with
            tier := c.tier + 1, tierTick := u.tick,
            escalation := if c.tier = 1
              then some (after u.tick ((u.zone (u.ex c.ex).call.zone).t2 * 1000)) else none }⟩ ∧
          (∀ j, j ≠ n.val → t.callEntry j = u.callEntry j) ∧
          KeptBut [.calls, .beacons, .views, .notice] u t) ∧
      (c.ack.isSome = true ∨ dueNow u.tick c.escalation = false →
        exec (.escalationExpiry n) s = .next (publish u))) ∧
    (∀ e : Fin 32,
      (dueNow u.tick (helpHoldExpiry u e.val) = true →
        ∃ t, exec (.holdExpiry e) s = .next t ∧ (t.ex e.val).causeRec .help = none ∧
          KeptBut [.exhibits, .calls, .beacons, .views, .notice] u t) ∧
      (dueNow u.tick (helpHoldExpiry u e.val) = false →
        exec (.holdExpiry e) s = .next (publish u)))

/-- BEACON and DARK: the entry that comes first in cyclic order after the one served last and owes a frame
is served; the frame's bytes after SYNC sum to 0; a BEACON starts the refresh countdown, whose expiry owes
the BEACON again (R158, R159). A beacon chosen again shows the preferred one of the calls that light it,
RINGING ones first, then by severity, age and number, with the call's folded pattern or, once it is
acknowledged, its zone's acknowledged pattern; it owes a BEACON where the pattern changes, and a DARK
where a lit one has no call left (R156, R157). -/
def Obligations.BeaconsAreServedInTurn : Prop :=
  (∀ s : State, let u := settle s
    let first := fun (b : Nat) => ∃ k, k < 64 ∧ b = (u.lastServed + 1 + k) % 64 ∧
      Beacon.owes (u.beacon b) = true ∧
      ∀ j, j < k → Beacon.owes (u.beacon ((u.lastServed + 1 + j) % 64)) = false
    (∀ b p n, first b → (∀ j, j < 64 → (u.beacon j).resetDark = false) →
      (u.beacon b).pattern = some p → (u.beacon b).beaconOwed = true → (u.beacon b).shows = some n →
      ∃ t check, exec .beacon s = .next t ∧ t.lastServed = b ∧
        t.attTx = [0x55, 0x01, 0x04, BitVec.ofNat 8 (u.beacon b).addr, BitVec.ofNat 8 p,
          BitVec.ofNat 8 n, BitVec.ofNat 8 (u.callEntry n).gen, check] ∧
        (t.attTx.drop 1).foldl (· + ·) 0 = 0 ∧
        t.beacon b = { u.beacon b with beaconOwed := false, refresh := some (after u.tick 2000) } ∧
        (∀ j, j ≠ b → t.beacon j = u.beacon j) ∧
        KeptBut [.beacons, .lastServed, .attTx, .views, .notice] u t) ∧
    (∀ b, first b → (∀ j, j < 64 → (u.beacon j).resetDark = false) → (u.beacon b).named = true →
      (u.beacon b).pattern = none → (u.beacon b).darkOwed = true →
      ∃ t check, exec .dark s = .next t ∧ t.lastServed = b ∧
        t.attTx = [0x55, 0x02, 0x01, BitVec.ofNat 8 (u.beacon b).addr, check] ∧
        (t.attTx.drop 1).foldl (· + ·) 0 = 0 ∧ t.beacon b = { u.beacon b with darkOwed := false } ∧
        (∀ j, j ≠ b → t.beacon j = u.beacon j) ∧
        KeptBut [.beacons, .lastServed, .attTx, .views, .notice] u t) ∧
    ((∀ j, j < 64 → Beacon.owes (u.beacon j) = false ∧ (u.beacon j).resetDark = false) →
      exec .beacon s = .next (publish u) ∧ exec .dark s = .next (publish u)) ∧
    (∀ b : Fin 64, dueNow u.tick (u.beacon b.val).refresh = true →
      (u.beacon b.val).pattern.isSome = true →
      ∃ t, exec (.refreshExpiry b) s = .next t ∧
        t.beacon b.val = { u.beacon b.val with beaconOwed := true, refresh := none } ∧
        (∀ j, j ≠ b.val → t.beacon j = u.beacon j) ∧ KeptBut [.beacons, .views, .notice] u t)) ∧
  (∀ (v : State) (addrs : List Nat) (b : Nat), let y := v.beacon b
    let t := rechooseFor addrs v
    KeptBut [.beacons] v t ∧
    (y.named = false ∨ y.addr ∉ addrs → t.beacon b = y) ∧
    (y.named = true → y.addr ∈ addrs → (keys v.calls).Nodup →
      ((∀ n c, ¬ CallLights v y.addr n c) →
        (y.pattern = none → t.beacon b = { y with shows := none }) ∧
        (y.pattern.isSome = true → t.beacon b = { y with
          shows := none, pattern := none, refresh := none, beaconOwed := false, darkOwed := true })) ∧
      (∀ n c, CallLights v y.addr n c →
        (∀ m d, CallLights v y.addr m d → m ≠ n → CallPreferred v.tick n c m d) →
        let z := v.zone (v.ex c.ex).call.zone
        let p := if c.ack.isSome then z.ack
          else z.base + (c.severity - 1) * min (v.ex c.ex).call.levels z.count / 4
        (t.beacon b).shows = some n ∧ (t.beacon b).pattern = some p ∧
        (y.pattern = some p → t.beacon b = { y with shows := some n }) ∧
        (y.pattern ≠ some p → (t.beacon b).beaconOwed = true ∧
          (t.beacon b).darkOwed = y.resetDark))))

/-- ACK: a live acknowledgement acknowledges its call with source FRAME and its tag, one of an
acknowledged call changes nothing, and any other is counted stale; bytes without SYNC are discarded while
the receiver hunts, and a bad stop bit, a COUNT above 8, a wrong CHECK or a gap inside a frame counts one
bad frame (R160, R161, R162). That a SYNC with a bad stop bit is discarded uncounted while the receiver
hunts is the model's choice (log entry 29). -/
def Obligations.AttendantFramesAreJudged : Prop :=
  ∀ s : State, let u := settle s
    let bad := fun (i : Instr) => ∃ t, exec i s = .next t ∧ t.rx = none ∧
      t.badFrames = u.badFrames + 1 ∧ KeptBut [.rx, .badFrames, .views, .notice] u t
    (u.rx = none → ∀ (n g tag : Byte),
      (∀ c, n.toNat < 48 → (u.callEntry n.toNat).call = some c →
        (u.callEntry n.toNat).gen = g.toNat → c.ack = none →
        ∃ t m, exec (.ack n g tag) s = .next t ∧ m.tick = u.tick ∧ m.source = .frame ∧ m.tag = tag ∧
          t.callEntry n.toNat = ⟨(u.callEntry n.toNat).gen,
            some { c with ack := some m, escalation := none }⟩ ∧
          (c.cause ≠ .help → m.holdExp = none) ∧
          (c.cause = .help →
            m.holdExp = some (after u.tick ((u.zone (u.ex c.ex).call.zone).hold * 1000))) ∧
          (∀ j, j ≠ n.toNat → t.callEntry j = u.callEntry j) ∧
          KeptBut [.calls, .beacons, .views, .notice] u t) ∧
      (∀ c, n.toNat < 48 → (u.callEntry n.toNat).call = some c →
        (u.callEntry n.toNat).gen = g.toNat → c.ack.isSome = true →
        exec (.ack n g tag) s = .next (publish u)) ∧
      (48 ≤ n.toNat ∨ (u.callEntry n.toNat).call = none ∨ (u.callEntry n.toNat).gen ≠ g.toNat →
        ∃ t, exec (.ack n g tag) s = .next t ∧ t.staleAcks = u.staleAcks + 1 ∧
          KeptBut [.staleAcks, .views, .notice] u t)) ∧
    (∀ bs : List RxByte, u.rx = none → (∀ b ∈ bs, b.val ≠ 0x55 ∨ b.stopOk = false) →
      exec (.badFrame bs) s = .next (publish u)) ∧
    (∀ f v, u.rx = some f → bad (.badFrame [⟨v, false⟩])) ∧
    (∀ k v, u.rx = some [k] → 8 < v.toNat → bad (.badFrame [⟨v, true⟩])) ∧
    (∀ k a b c v, u.rx = some [k, 3, a, b, c] → k + 3 + a + b + c + v ≠ 0 →
      bad (.badFrame [⟨v, true⟩])) ∧
    (u.rx.isSome = true → bad .interbyteGap) ∧
    (u.rx = none → exec .interbyteGap s = .next (publish u))

/-! ### Encoding -/

/-- The order unit reads from a slot exactly the order that the model writes in it, kind and parameters: no
bit of either is dropped on the way. At which offset each stands, a round trip does not say. -/
def Obligations.OrderIsReadAsWritten : Prop :=
  ∀ b : OrderBody, readOrder (BitVec.ofNat 8 (kindCodeOf b)) (paramField (paramBytes b)) = some b
end

