-- ==== Sys2Proof/Laws/Tables.lean ====
section
/-! SUPPORT. Laws of numbered tables, of the stored bytes and of byte lists. -/

namespace Sys2Proof.Machine

/-! ### Tables: read after write -/

/-- The number just stored reads as stored. -/
@[simp] theorem lookup_store_same {α : Type} (d : α) (t : Tab α) (k : Nat) (v : α) :
    lookup d (store t k v) k = v := by
  induction t with
  | nil => simp [store, lookup]
  | cons p r ih =>
    obtain ⟨j, w⟩ := p
    simp only [store]
    split
    · simp [lookup]
    · split
      · simp [lookup]
      · simp [lookup, *]

/-- Every other number reads as before. -/
@[simp] theorem lookup_store_other {α : Type} (d : α) (t : Tab α) (k j : Nat) (v : α) (h : j ≠ k) :
    lookup d (store t k v) j = lookup d t j := by
  induction t with
  | nil => simp [store, lookup, Ne.symm h]
  | cons p r ih =>
    obtain ⟨i, w⟩ := p
    simp only [store]
    split
    · simp [lookup, Ne.symm h]
    · split
      · next hik => subst hik; simp [lookup, Ne.symm h]
      · simp only [lookup, ih]

/-- A changed table reads the changed record, where the change keeps the default. -/
theorem lookup_mapTab {α : Type} (f : α → α) (d : α) (hd : f d = d) (t : Tab α) (k : Nat) :
    lookup d (mapTab f t) k = f (lookup d t k) := by
  induction t with
  | nil => simp [mapTab, lookup, hd]
  | cons p r ih =>
    obtain ⟨j, v⟩ := p
    simp only [mapTab, List.map_cons, lookup] at ih ⊢
    split <;> simp_all

/-! ### Stored bytes -/

/-- A byte reads as last written. -/
@[simp] theorem peek_poke_same (m : List Host.Cell) (a : Nat) (b : Byte) : peek (poke m a b) a = b := by
  unfold peek poke
  split
  · next h =>
    subst h
    induction m with
    | nil => rfl
    | cons c r ih =>
      obtain ⟨j, v⟩ := c
      by_cases hj : j = a <;> simp_all [lookup]
  · exact lookup_store_same ..

/-- A write leaves every other address as it was. -/
@[simp] theorem peek_poke_other (m : List Host.Cell) (a j : Nat) (b : Byte) (h : j ≠ a) :
    peek (poke m a b) j = peek m j := by
  unfold peek poke
  split
  · induction m with
    | nil => rfl
    | cons c r ih =>
      obtain ⟨i, v⟩ := c
      by_cases hi : i = a
      · subst hi; simp_all [lookup, Ne.symm h]
      · simp_all [lookup]
  · exact lookup_store_other _ _ _ _ _ h

/-- The canonical form says that addresses rise and no byte is 0. -/
theorem Memory.wf_iff (m : List Host.Cell) :
    Memory.wf m = true ↔ m.Pairwise (fun x y => x.1 < y.1) ∧ ∀ c ∈ m, c.2 ≠ 0 := by
  induction m with
  | nil => simp [Memory.wf]
  | cons c r ih =>
    obtain ⟨a, v⟩ := c
    cases r with
    | nil => simp [Memory.wf]
    | cons c' r' =>
      obtain ⟨b, w⟩ := c'
      simp only [Memory.wf, Bool.and_eq_true, bne_iff_ne, ne_eq, decide_eq_true_eq, ih]
      simp only [List.pairwise_cons, List.mem_cons, forall_eq_or_imp]
      constructor
      · rintro ⟨⟨hv, hab⟩, ⟨hb, hr⟩, hw, hr0⟩
        exact ⟨⟨⟨hab, fun x hx => hab.trans (hb x hx)⟩, hb, hr⟩, hv, hw, hr0⟩
      · rintro ⟨⟨⟨hab, _⟩, hb, hr⟩, hv, hw, hr0⟩
        exact ⟨⟨hv, hab⟩, ⟨hb, hr⟩, hw, hr0⟩

/-- What a table lists after a store: the new pair and older ones. -/
theorem mem_store {α : Type} (t : Tab α) (k : Nat) (v : α) (p : Nat × α) (h : p ∈ store t k v) :
    p = (k, v) ∨ p ∈ t := by
  induction t with
  | nil => simpa [store] using h
  | cons q r ih =>
    obtain ⟨j, w⟩ := q
    simp only [store] at h
    split at h
    · simpa using h
    · split at h
      · rcases List.mem_cons.1 h with h | h
        · exact .inl h
        · exact .inr (List.mem_cons_of_mem _ h)
      · rcases List.mem_cons.1 h with h | h
        · exact .inr (h ▸ List.mem_cons_self)
        · exact (ih h).imp id (List.mem_cons_of_mem _)

/-- A store keeps the numbers in rising order. -/
theorem pairwise_store {α : Type} (t : Tab α) (k : Nat) (v : α)
    (h : t.Pairwise (fun x y => x.1 < y.1)) : (store t k v).Pairwise (fun x y => x.1 < y.1) := by
  induction t with
  | nil => simp [store]
  | cons q r ih =>
    obtain ⟨j, w⟩ := q
    obtain ⟨hq, hr⟩ := List.pairwise_cons.1 h
    simp only [store]
    split
    · next hk =>
      refine List.pairwise_cons.2 ⟨fun p hp => ?_, h⟩
      rcases List.mem_cons.1 hp with rfl | hp
      · exact hk
      · exact Nat.lt_trans hk (hq p hp)
    · split
      · next hjk => subst hjk; exact List.pairwise_cons.2 ⟨hq, hr⟩
      · refine List.pairwise_cons.2 ⟨fun p hp => ?_, ih hr⟩
        rcases mem_store _ _ _ _ hp with rfl | hp
        · show j < k; omega
        · exact hq p hp

/-- Every write keeps the canonical form. -/
theorem Memory.wf_poke (m : List Host.Cell) (a : Nat) (b : Byte) (h : Memory.wf m = true) :
    Memory.wf (poke m a b) = true := by
  rw [Memory.wf_iff] at h ⊢
  unfold poke
  split
  · exact ⟨h.1.filter _, fun c hc => h.2 c (List.mem_filter.1 hc).1⟩
  · next hb =>
    refine ⟨pairwise_store _ _ _ h.1, fun c hc => ?_⟩
    rcases mem_store _ _ _ _ hc with rfl | hc
    · exact hb
    · exact h.2 c hc

/-- The reset memory is canonical. -/
theorem Memory.wf_reset : Memory.wf State.reset.mem = true := rfl

/-! ### Byte lists -/

@[simp] theorem bytesOf_length (n v : Nat) : (bytesOf n v).length = n := by
  induction n generalizing v with
  | zero => rfl
  | succ n ih => simp [bytesOf, ih]

@[simp] theorem signedBytes_length (n : Nat) (v : Int) : (signedBytes n v).length = n := by
  simp [signedBytes]

@[simp] theorem fitBytes_length (n : Nat) (l : List Byte) : (fitBytes n l).length = n := by
  induction n generalizing l with
  | zero => rfl
  | succ n ih => cases l <;> simp [fitBytes, ih]

/-- A list that has the length already is kept whole. -/
theorem fitBytes_append (l r : List Byte) : fitBytes l.length (l ++ r) = l := by
  induction l with
  | nil => cases r <;> rfl
  | cons b l ih => simp [fitBytes, ih]

end Sys2Proof.Machine
end

