-- ==== Sys2Proof/Laws/State.lean ====
section
/-! SUPPORT. One lemma for each field under each update of the state, and what an accessor reads after
an update of its own table or of another. -/

namespace Sys2Proof.Machine

/-! ### `modEx` -/

section
variable (s : State) (k j : Nat) (f : Exhibit → Exhibit)

@[simp] theorem State.modEx_pending : (s.modEx k f).pending = s.pending := rfl
@[simp] theorem State.modEx_tick : (s.modEx k f).tick = s.tick := rfl
@[simp] theorem State.modEx_mem : (s.modEx k f).mem = s.mem := rfl
@[simp] theorem State.modEx_slots : (s.modEx k f).slots = s.slots := rfl
@[simp] theorem State.modEx_lastTaken : (s.modEx k f).lastTaken = s.lastTaken := rfl
@[simp] theorem State.modEx_pass : (s.modEx k f).pass = s.pass := rfl
@[simp] theorem State.modEx_scanBit : (s.modEx k f).scanBit = s.scanBit := rfl
@[simp] theorem State.modEx_scanKept : (s.modEx k f).scanKept = s.scanKept := rfl
@[simp] theorem State.modEx_dueList : (s.modEx k f).dueList = s.dueList := rfl
@[simp] theorem State.modEx_control : (s.modEx k f).control = s.control := rfl
@[simp] theorem State.modEx_denial : (s.modEx k f).denial = s.denial := rfl
@[simp] theorem State.modEx_notice : (s.modEx k f).notice = s.notice := rfl
@[simp] theorem State.modEx_enable : (s.modEx k f).enable = s.enable := rfl
@[simp] theorem State.modEx_mode : (s.modEx k f).mode = s.mode := rfl
@[simp] theorem State.modEx_haltPin : (s.modEx k f).haltPin = s.haltPin := rfl
@[simp] theorem State.modEx_linkMask : (s.modEx k f).linkMask = s.linkMask := rfl
@[simp] theorem State.modEx_linkTimeout : (s.modEx k f).linkTimeout = s.linkTimeout := rfl
@[simp] theorem State.modEx_depth : (s.modEx k f).depth = s.depth := rfl
@[simp] theorem State.modEx_nodes : (s.modEx k f).nodes = s.nodes := rfl
@[simp] theorem State.modEx_inputs : (s.modEx k f).inputs = s.inputs := rfl
@[simp] theorem State.modEx_pollPos : (s.modEx k f).pollPos = s.pollPos := rfl
@[simp] theorem State.modEx_window : (s.modEx k f).window = s.window := rfl
@[simp] theorem State.modEx_linkTx : (s.modEx k f).linkTx = s.linkTx := rfl
@[simp] theorem State.modEx_pages : (s.modEx k f).pages = s.pages := rfl
@[simp] theorem State.modEx_curPage : (s.modEx k f).curPage = s.curPage := rfl
@[simp] theorem State.modEx_lastPage : (s.modEx k f).lastPage = s.lastPage := rfl
@[simp] theorem State.modEx_nextSeq : (s.modEx k f).nextSeq = s.nextSeq := rfl
@[simp] theorem State.modEx_linger : (s.modEx k f).linger = s.linger := rfl
@[simp] theorem State.modEx_routines : (s.modEx k f).routines = s.routines := rfl
@[simp] theorem State.modEx_pool : (s.modEx k f).pool = s.pool := rfl
@[simp] theorem State.modEx_channels : (s.modEx k f).channels = s.channels := rfl
@[simp] theorem State.modEx_groups : (s.modEx k f).groups = s.groups := rfl
@[simp] theorem State.modEx_handed : (s.modEx k f).handed = s.handed := rfl
@[simp] theorem State.modEx_calls : (s.modEx k f).calls = s.calls := rfl
@[simp] theorem State.modEx_zones : (s.modEx k f).zones = s.zones := rfl
@[simp] theorem State.modEx_beacons : (s.modEx k f).beacons = s.beacons := rfl
@[simp] theorem State.modEx_lastServed : (s.modEx k f).lastServed = s.lastServed := rfl
@[simp] theorem State.modEx_badFrames : (s.modEx k f).badFrames = s.badFrames := rfl
@[simp] theorem State.modEx_staleAcks : (s.modEx k f).staleAcks = s.staleAcks := rfl
@[simp] theorem State.modEx_rx : (s.modEx k f).rx = s.rx := rfl
@[simp] theorem State.modEx_attTx : (s.modEx k f).attTx = s.attTx := rfl
@[simp] theorem State.modEx_cues : (s.modEx k f).cues = s.cues := rfl
@[simp] theorem State.modEx_views : (s.modEx k f).views = s.views := rfl
@[simp] theorem State.modEx_ch : (s.modEx k f).ch j = s.ch j := rfl
@[simp] theorem State.modEx_inp : (s.modEx k f).inp j = s.inp j := rfl
@[simp] theorem State.modEx_node : (s.modEx k f).node j = s.node j := rfl
@[simp] theorem State.modEx_slot : (s.modEx k f).slot j = s.slot j := rfl
@[simp] theorem State.modEx_page : (s.modEx k f).page j = s.page j := rfl
@[simp] theorem State.modEx_routine : (s.modEx k f).routine j = s.routine j := rfl
@[simp] theorem State.modEx_group : (s.modEx k f).group j = s.group j := rfl
@[simp] theorem State.modEx_callEntry : (s.modEx k f).callEntry j = s.callEntry j := rfl
@[simp] theorem State.modEx_beacon : (s.modEx k f).beacon j = s.beacon j := rfl
@[simp] theorem State.modEx_zone : (s.modEx k f).zone j = s.zone j := rfl
@[simp] theorem State.modEx_cue : (s.modEx k f).cue j = s.cue j := rfl
@[simp] theorem State.modEx_ex_same : (s.modEx k f).ex k = f (s.ex k) := by
  simp [State.modEx, State.ex]
theorem State.modEx_ex_other (h : j ≠ k) : (s.modEx k f).ex j = s.ex j := by
  simp [State.modEx, State.ex, h]

end

/-! ### `modCh` -/

section
variable (s : State) (k j : Nat) (f : Channel → Channel)

@[simp] theorem State.modCh_pending : (s.modCh k f).pending = s.pending := rfl
@[simp] theorem State.modCh_tick : (s.modCh k f).tick = s.tick := rfl
@[simp] theorem State.modCh_mem : (s.modCh k f).mem = s.mem := rfl
@[simp] theorem State.modCh_slots : (s.modCh k f).slots = s.slots := rfl
@[simp] theorem State.modCh_lastTaken : (s.modCh k f).lastTaken = s.lastTaken := rfl
@[simp] theorem State.modCh_pass : (s.modCh k f).pass = s.pass := rfl
@[simp] theorem State.modCh_scanBit : (s.modCh k f).scanBit = s.scanBit := rfl
@[simp] theorem State.modCh_scanKept : (s.modCh k f).scanKept = s.scanKept := rfl
@[simp] theorem State.modCh_dueList : (s.modCh k f).dueList = s.dueList := rfl
@[simp] theorem State.modCh_control : (s.modCh k f).control = s.control := rfl
@[simp] theorem State.modCh_denial : (s.modCh k f).denial = s.denial := rfl
@[simp] theorem State.modCh_notice : (s.modCh k f).notice = s.notice := rfl
@[simp] theorem State.modCh_enable : (s.modCh k f).enable = s.enable := rfl
@[simp] theorem State.modCh_mode : (s.modCh k f).mode = s.mode := rfl
@[simp] theorem State.modCh_haltPin : (s.modCh k f).haltPin = s.haltPin := rfl
@[simp] theorem State.modCh_exhibits : (s.modCh k f).exhibits = s.exhibits := rfl
@[simp] theorem State.modCh_linkMask : (s.modCh k f).linkMask = s.linkMask := rfl
@[simp] theorem State.modCh_linkTimeout : (s.modCh k f).linkTimeout = s.linkTimeout := rfl
@[simp] theorem State.modCh_depth : (s.modCh k f).depth = s.depth := rfl
@[simp] theorem State.modCh_nodes : (s.modCh k f).nodes = s.nodes := rfl
@[simp] theorem State.modCh_inputs : (s.modCh k f).inputs = s.inputs := rfl
@[simp] theorem State.modCh_pollPos : (s.modCh k f).pollPos = s.pollPos := rfl
@[simp] theorem State.modCh_window : (s.modCh k f).window = s.window := rfl
@[simp] theorem State.modCh_linkTx : (s.modCh k f).linkTx = s.linkTx := rfl
@[simp] theorem State.modCh_pages : (s.modCh k f).pages = s.pages := rfl
@[simp] theorem State.modCh_curPage : (s.modCh k f).curPage = s.curPage := rfl
@[simp] theorem State.modCh_lastPage : (s.modCh k f).lastPage = s.lastPage := rfl
@[simp] theorem State.modCh_nextSeq : (s.modCh k f).nextSeq = s.nextSeq := rfl
@[simp] theorem State.modCh_linger : (s.modCh k f).linger = s.linger := rfl
@[simp] theorem State.modCh_routines : (s.modCh k f).routines = s.routines := rfl
@[simp] theorem State.modCh_pool : (s.modCh k f).pool = s.pool := rfl
@[simp] theorem State.modCh_groups : (s.modCh k f).groups = s.groups := rfl
@[simp] theorem State.modCh_handed : (s.modCh k f).handed = s.handed := rfl
@[simp] theorem State.modCh_calls : (s.modCh k f).calls = s.calls := rfl
@[simp] theorem State.modCh_zones : (s.modCh k f).zones = s.zones := rfl
@[simp] theorem State.modCh_beacons : (s.modCh k f).beacons = s.beacons := rfl
@[simp] theorem State.modCh_lastServed : (s.modCh k f).lastServed = s.lastServed := rfl
@[simp] theorem State.modCh_badFrames : (s.modCh k f).badFrames = s.badFrames := rfl
@[simp] theorem State.modCh_staleAcks : (s.modCh k f).staleAcks = s.staleAcks := rfl
@[simp] theorem State.modCh_rx : (s.modCh k f).rx = s.rx := rfl
@[simp] theorem State.modCh_attTx : (s.modCh k f).attTx = s.attTx := rfl
@[simp] theorem State.modCh_cues : (s.modCh k f).cues = s.cues := rfl
@[simp] theorem State.modCh_views : (s.modCh k f).views = s.views := rfl
@[simp] theorem State.modCh_ex : (s.modCh k f).ex j = s.ex j := rfl
@[simp] theorem State.modCh_inp : (s.modCh k f).inp j = s.inp j := rfl
@[simp] theorem State.modCh_node : (s.modCh k f).node j = s.node j := rfl
@[simp] theorem State.modCh_slot : (s.modCh k f).slot j = s.slot j := rfl
@[simp] theorem State.modCh_page : (s.modCh k f).page j = s.page j := rfl
@[simp] theorem State.modCh_routine : (s.modCh k f).routine j = s.routine j := rfl
@[simp] theorem State.modCh_group : (s.modCh k f).group j = s.group j := rfl
@[simp] theorem State.modCh_callEntry : (s.modCh k f).callEntry j = s.callEntry j := rfl
@[simp] theorem State.modCh_beacon : (s.modCh k f).beacon j = s.beacon j := rfl
@[simp] theorem State.modCh_zone : (s.modCh k f).zone j = s.zone j := rfl
@[simp] theorem State.modCh_cue : (s.modCh k f).cue j = s.cue j := rfl
@[simp] theorem State.modCh_ch_same : (s.modCh k f).ch k = f (s.ch k) := by
  simp [State.modCh, State.ch]
theorem State.modCh_ch_other (h : j ≠ k) : (s.modCh k f).ch j = s.ch j := by
  simp [State.modCh, State.ch, h]

end

/-! ### `modInp` -/

section
variable (s : State) (k j : Nat) (f : Input → Input)

@[simp] theorem State.modInp_pending : (s.modInp k f).pending = s.pending := rfl
@[simp] theorem State.modInp_tick : (s.modInp k f).tick = s.tick := rfl
@[simp] theorem State.modInp_mem : (s.modInp k f).mem = s.mem := rfl
@[simp] theorem State.modInp_slots : (s.modInp k f).slots = s.slots := rfl
@[simp] theorem State.modInp_lastTaken : (s.modInp k f).lastTaken = s.lastTaken := rfl
@[simp] theorem State.modInp_pass : (s.modInp k f).pass = s.pass := rfl
@[simp] theorem State.modInp_scanBit : (s.modInp k f).scanBit = s.scanBit := rfl
@[simp] theorem State.modInp_scanKept : (s.modInp k f).scanKept = s.scanKept := rfl
@[simp] theorem State.modInp_dueList : (s.modInp k f).dueList = s.dueList := rfl
@[simp] theorem State.modInp_control : (s.modInp k f).control = s.control := rfl
@[simp] theorem State.modInp_denial : (s.modInp k f).denial = s.denial := rfl
@[simp] theorem State.modInp_notice : (s.modInp k f).notice = s.notice := rfl
@[simp] theorem State.modInp_enable : (s.modInp k f).enable = s.enable := rfl
@[simp] theorem State.modInp_mode : (s.modInp k f).mode = s.mode := rfl
@[simp] theorem State.modInp_haltPin : (s.modInp k f).haltPin = s.haltPin := rfl
@[simp] theorem State.modInp_exhibits : (s.modInp k f).exhibits = s.exhibits := rfl
@[simp] theorem State.modInp_linkMask : (s.modInp k f).linkMask = s.linkMask := rfl
@[simp] theorem State.modInp_linkTimeout : (s.modInp k f).linkTimeout = s.linkTimeout := rfl
@[simp] theorem State.modInp_depth : (s.modInp k f).depth = s.depth := rfl
@[simp] theorem State.modInp_nodes : (s.modInp k f).nodes = s.nodes := rfl
@[simp] theorem State.modInp_pollPos : (s.modInp k f).pollPos = s.pollPos := rfl
@[simp] theorem State.modInp_window : (s.modInp k f).window = s.window := rfl
@[simp] theorem State.modInp_linkTx : (s.modInp k f).linkTx = s.linkTx := rfl
@[simp] theorem State.modInp_pages : (s.modInp k f).pages = s.pages := rfl
@[simp] theorem State.modInp_curPage : (s.modInp k f).curPage = s.curPage := rfl
@[simp] theorem State.modInp_lastPage : (s.modInp k f).lastPage = s.lastPage := rfl
@[simp] theorem State.modInp_nextSeq : (s.modInp k f).nextSeq = s.nextSeq := rfl
@[simp] theorem State.modInp_linger : (s.modInp k f).linger = s.linger := rfl
@[simp] theorem State.modInp_routines : (s.modInp k f).routines = s.routines := rfl
@[simp] theorem State.modInp_pool : (s.modInp k f).pool = s.pool := rfl
@[simp] theorem State.modInp_channels : (s.modInp k f).channels = s.channels := rfl
@[simp] theorem State.modInp_groups : (s.modInp k f).groups = s.groups := rfl
@[simp] theorem State.modInp_handed : (s.modInp k f).handed = s.handed := rfl
@[simp] theorem State.modInp_calls : (s.modInp k f).calls = s.calls := rfl
@[simp] theorem State.modInp_zones : (s.modInp k f).zones = s.zones := rfl
@[simp] theorem State.modInp_beacons : (s.modInp k f).beacons = s.beacons := rfl
@[simp] theorem State.modInp_lastServed : (s.modInp k f).lastServed = s.lastServed := rfl
@[simp] theorem State.modInp_badFrames : (s.modInp k f).badFrames = s.badFrames := rfl
@[simp] theorem State.modInp_staleAcks : (s.modInp k f).staleAcks = s.staleAcks := rfl
@[simp] theorem State.modInp_rx : (s.modInp k f).rx = s.rx := rfl
@[simp] theorem State.modInp_attTx : (s.modInp k f).attTx = s.attTx := rfl
@[simp] theorem State.modInp_cues : (s.modInp k f).cues = s.cues := rfl
@[simp] theorem State.modInp_views : (s.modInp k f).views = s.views := rfl
@[simp] theorem State.modInp_ex : (s.modInp k f).ex j = s.ex j := rfl
@[simp] theorem State.modInp_ch : (s.modInp k f).ch j = s.ch j := rfl
@[simp] theorem State.modInp_node : (s.modInp k f).node j = s.node j := rfl
@[simp] theorem State.modInp_slot : (s.modInp k f).slot j = s.slot j := rfl
@[simp] theorem State.modInp_page : (s.modInp k f).page j = s.page j := rfl
@[simp] theorem State.modInp_routine : (s.modInp k f).routine j = s.routine j := rfl
@[simp] theorem State.modInp_group : (s.modInp k f).group j = s.group j := rfl
@[simp] theorem State.modInp_callEntry : (s.modInp k f).callEntry j = s.callEntry j := rfl
@[simp] theorem State.modInp_beacon : (s.modInp k f).beacon j = s.beacon j := rfl
@[simp] theorem State.modInp_zone : (s.modInp k f).zone j = s.zone j := rfl
@[simp] theorem State.modInp_cue : (s.modInp k f).cue j = s.cue j := rfl
@[simp] theorem State.modInp_inp_same : (s.modInp k f).inp k = f (s.inp k) := by
  simp [State.modInp, State.inp]
theorem State.modInp_inp_other (h : j ≠ k) : (s.modInp k f).inp j = s.inp j := by
  simp [State.modInp, State.inp, h]

end

/-! ### `modNode` -/

section
variable (s : State) (k j : Nat) (f : Node → Node)

@[simp] theorem State.modNode_pending : (s.modNode k f).pending = s.pending := rfl
@[simp] theorem State.modNode_tick : (s.modNode k f).tick = s.tick := rfl
@[simp] theorem State.modNode_mem : (s.modNode k f).mem = s.mem := rfl
@[simp] theorem State.modNode_slots : (s.modNode k f).slots = s.slots := rfl
@[simp] theorem State.modNode_lastTaken : (s.modNode k f).lastTaken = s.lastTaken := rfl
@[simp] theorem State.modNode_pass : (s.modNode k f).pass = s.pass := rfl
@[simp] theorem State.modNode_scanBit : (s.modNode k f).scanBit = s.scanBit := rfl
@[simp] theorem State.modNode_scanKept : (s.modNode k f).scanKept = s.scanKept := rfl
@[simp] theorem State.modNode_dueList : (s.modNode k f).dueList = s.dueList := rfl
@[simp] theorem State.modNode_control : (s.modNode k f).control = s.control := rfl
@[simp] theorem State.modNode_denial : (s.modNode k f).denial = s.denial := rfl
@[simp] theorem State.modNode_notice : (s.modNode k f).notice = s.notice := rfl
@[simp] theorem State.modNode_enable : (s.modNode k f).enable = s.enable := rfl
@[simp] theorem State.modNode_mode : (s.modNode k f).mode = s.mode := rfl
@[simp] theorem State.modNode_haltPin : (s.modNode k f).haltPin = s.haltPin := rfl
@[simp] theorem State.modNode_exhibits : (s.modNode k f).exhibits = s.exhibits := rfl
@[simp] theorem State.modNode_linkMask : (s.modNode k f).linkMask = s.linkMask := rfl
@[simp] theorem State.modNode_linkTimeout : (s.modNode k f).linkTimeout = s.linkTimeout := rfl
@[simp] theorem State.modNode_depth : (s.modNode k f).depth = s.depth := rfl
@[simp] theorem State.modNode_inputs : (s.modNode k f).inputs = s.inputs := rfl
@[simp] theorem State.modNode_pollPos : (s.modNode k f).pollPos = s.pollPos := rfl
@[simp] theorem State.modNode_window : (s.modNode k f).window = s.window := rfl
@[simp] theorem State.modNode_linkTx : (s.modNode k f).linkTx = s.linkTx := rfl
@[simp] theorem State.modNode_pages : (s.modNode k f).pages = s.pages := rfl
@[simp] theorem State.modNode_curPage : (s.modNode k f).curPage = s.curPage := rfl
@[simp] theorem State.modNode_lastPage : (s.modNode k f).lastPage = s.lastPage := rfl
@[simp] theorem State.modNode_nextSeq : (s.modNode k f).nextSeq = s.nextSeq := rfl
@[simp] theorem State.modNode_linger : (s.modNode k f).linger = s.linger := rfl
@[simp] theorem State.modNode_routines : (s.modNode k f).routines = s.routines := rfl
@[simp] theorem State.modNode_pool : (s.modNode k f).pool = s.pool := rfl
@[simp] theorem State.modNode_channels : (s.modNode k f).channels = s.channels := rfl
@[simp] theorem State.modNode_groups : (s.modNode k f).groups = s.groups := rfl
@[simp] theorem State.modNode_handed : (s.modNode k f).handed = s.handed := rfl
@[simp] theorem State.modNode_calls : (s.modNode k f).calls = s.calls := rfl
@[simp] theorem State.modNode_zones : (s.modNode k f).zones = s.zones := rfl
@[simp] theorem State.modNode_beacons : (s.modNode k f).beacons = s.beacons := rfl
@[simp] theorem State.modNode_lastServed : (s.modNode k f).lastServed = s.lastServed := rfl
@[simp] theorem State.modNode_badFrames : (s.modNode k f).badFrames = s.badFrames := rfl
@[simp] theorem State.modNode_staleAcks : (s.modNode k f).staleAcks = s.staleAcks := rfl
@[simp] theorem State.modNode_rx : (s.modNode k f).rx = s.rx := rfl
@[simp] theorem State.modNode_attTx : (s.modNode k f).attTx = s.attTx := rfl
@[simp] theorem State.modNode_cues : (s.modNode k f).cues = s.cues := rfl
@[simp] theorem State.modNode_views : (s.modNode k f).views = s.views := rfl
@[simp] theorem State.modNode_ex : (s.modNode k f).ex j = s.ex j := rfl
@[simp] theorem State.modNode_ch : (s.modNode k f).ch j = s.ch j := rfl
@[simp] theorem State.modNode_inp : (s.modNode k f).inp j = s.inp j := rfl
@[simp] theorem State.modNode_slot : (s.modNode k f).slot j = s.slot j := rfl
@[simp] theorem State.modNode_page : (s.modNode k f).page j = s.page j := rfl
@[simp] theorem State.modNode_routine : (s.modNode k f).routine j = s.routine j := rfl
@[simp] theorem State.modNode_group : (s.modNode k f).group j = s.group j := rfl
@[simp] theorem State.modNode_callEntry : (s.modNode k f).callEntry j = s.callEntry j := rfl
@[simp] theorem State.modNode_beacon : (s.modNode k f).beacon j = s.beacon j := rfl
@[simp] theorem State.modNode_zone : (s.modNode k f).zone j = s.zone j := rfl
@[simp] theorem State.modNode_cue : (s.modNode k f).cue j = s.cue j := rfl
@[simp] theorem State.modNode_node_same : (s.modNode k f).node k = f (s.node k) := by
  simp [State.modNode, State.node]
theorem State.modNode_node_other (h : j ≠ k) : (s.modNode k f).node j = s.node j := by
  simp [State.modNode, State.node, h]

end

/-! ### `modSlot` -/

section
variable (s : State) (k j : Nat) (f : Slot → Slot)

@[simp] theorem State.modSlot_pending : (s.modSlot k f).pending = s.pending := rfl
@[simp] theorem State.modSlot_tick : (s.modSlot k f).tick = s.tick := rfl
@[simp] theorem State.modSlot_mem : (s.modSlot k f).mem = s.mem := rfl
@[simp] theorem State.modSlot_lastTaken : (s.modSlot k f).lastTaken = s.lastTaken := rfl
@[simp] theorem State.modSlot_pass : (s.modSlot k f).pass = s.pass := rfl
@[simp] theorem State.modSlot_scanBit : (s.modSlot k f).scanBit = s.scanBit := rfl
@[simp] theorem State.modSlot_scanKept : (s.modSlot k f).scanKept = s.scanKept := rfl
@[simp] theorem State.modSlot_dueList : (s.modSlot k f).dueList = s.dueList := rfl
@[simp] theorem State.modSlot_control : (s.modSlot k f).control = s.control := rfl
@[simp] theorem State.modSlot_denial : (s.modSlot k f).denial = s.denial := rfl
@[simp] theorem State.modSlot_notice : (s.modSlot k f).notice = s.notice := rfl
@[simp] theorem State.modSlot_enable : (s.modSlot k f).enable = s.enable := rfl
@[simp] theorem State.modSlot_mode : (s.modSlot k f).mode = s.mode := rfl
@[simp] theorem State.modSlot_haltPin : (s.modSlot k f).haltPin = s.haltPin := rfl
@[simp] theorem State.modSlot_exhibits : (s.modSlot k f).exhibits = s.exhibits := rfl
@[simp] theorem State.modSlot_linkMask : (s.modSlot k f).linkMask = s.linkMask := rfl
@[simp] theorem State.modSlot_linkTimeout : (s.modSlot k f).linkTimeout = s.linkTimeout := rfl
@[simp] theorem State.modSlot_depth : (s.modSlot k f).depth = s.depth := rfl
@[simp] theorem State.modSlot_nodes : (s.modSlot k f).nodes = s.nodes := rfl
@[simp] theorem State.modSlot_inputs : (s.modSlot k f).inputs = s.inputs := rfl
@[simp] theorem State.modSlot_pollPos : (s.modSlot k f).pollPos = s.pollPos := rfl
@[simp] theorem State.modSlot_window : (s.modSlot k f).window = s.window := rfl
@[simp] theorem State.modSlot_linkTx : (s.modSlot k f).linkTx = s.linkTx := rfl
@[simp] theorem State.modSlot_pages : (s.modSlot k f).pages = s.pages := rfl
@[simp] theorem State.modSlot_curPage : (s.modSlot k f).curPage = s.curPage := rfl
@[simp] theorem State.modSlot_lastPage : (s.modSlot k f).lastPage = s.lastPage := rfl
@[simp] theorem State.modSlot_nextSeq : (s.modSlot k f).nextSeq = s.nextSeq := rfl
@[simp] theorem State.modSlot_linger : (s.modSlot k f).linger = s.linger := rfl
@[simp] theorem State.modSlot_routines : (s.modSlot k f).routines = s.routines := rfl
@[simp] theorem State.modSlot_pool : (s.modSlot k f).pool = s.pool := rfl
@[simp] theorem State.modSlot_channels : (s.modSlot k f).channels = s.channels := rfl
@[simp] theorem State.modSlot_groups : (s.modSlot k f).groups = s.groups := rfl
@[simp] theorem State.modSlot_handed : (s.modSlot k f).handed = s.handed := rfl
@[simp] theorem State.modSlot_calls : (s.modSlot k f).calls = s.calls := rfl
@[simp] theorem State.modSlot_zones : (s.modSlot k f).zones = s.zones := rfl
@[simp] theorem State.modSlot_beacons : (s.modSlot k f).beacons = s.beacons := rfl
@[simp] theorem State.modSlot_lastServed : (s.modSlot k f).lastServed = s.lastServed := rfl
@[simp] theorem State.modSlot_badFrames : (s.modSlot k f).badFrames = s.badFrames := rfl
@[simp] theorem State.modSlot_staleAcks : (s.modSlot k f).staleAcks = s.staleAcks := rfl
@[simp] theorem State.modSlot_rx : (s.modSlot k f).rx = s.rx := rfl
@[simp] theorem State.modSlot_attTx : (s.modSlot k f).attTx = s.attTx := rfl
@[simp] theorem State.modSlot_cues : (s.modSlot k f).cues = s.cues := rfl
@[simp] theorem State.modSlot_views : (s.modSlot k f).views = s.views := rfl
@[simp] theorem State.modSlot_ex : (s.modSlot k f).ex j = s.ex j := rfl
@[simp] theorem State.modSlot_ch : (s.modSlot k f).ch j = s.ch j := rfl
@[simp] theorem State.modSlot_inp : (s.modSlot k f).inp j = s.inp j := rfl
@[simp] theorem State.modSlot_node : (s.modSlot k f).node j = s.node j := rfl
@[simp] theorem State.modSlot_page : (s.modSlot k f).page j = s.page j := rfl
@[simp] theorem State.modSlot_routine : (s.modSlot k f).routine j = s.routine j := rfl
@[simp] theorem State.modSlot_group : (s.modSlot k f).group j = s.group j := rfl
@[simp] theorem State.modSlot_callEntry : (s.modSlot k f).callEntry j = s.callEntry j := rfl
@[simp] theorem State.modSlot_beacon : (s.modSlot k f).beacon j = s.beacon j := rfl
@[simp] theorem State.modSlot_zone : (s.modSlot k f).zone j = s.zone j := rfl
@[simp] theorem State.modSlot_cue : (s.modSlot k f).cue j = s.cue j := rfl
@[simp] theorem State.modSlot_slot_same : (s.modSlot k f).slot k = f (s.slot k) := by
  simp [State.modSlot, State.slot]
theorem State.modSlot_slot_other (h : j ≠ k) : (s.modSlot k f).slot j = s.slot j := by
  simp [State.modSlot, State.slot, h]

end

/-! ### `modPage` -/

section
variable (s : State) (k j : Nat) (f : Page → Page)

@[simp] theorem State.modPage_pending : (s.modPage k f).pending = s.pending := rfl
@[simp] theorem State.modPage_tick : (s.modPage k f).tick = s.tick := rfl
@[simp] theorem State.modPage_mem : (s.modPage k f).mem = s.mem := rfl
@[simp] theorem State.modPage_slots : (s.modPage k f).slots = s.slots := rfl
@[simp] theorem State.modPage_lastTaken : (s.modPage k f).lastTaken = s.lastTaken := rfl
@[simp] theorem State.modPage_pass : (s.modPage k f).pass = s.pass := rfl
@[simp] theorem State.modPage_scanBit : (s.modPage k f).scanBit = s.scanBit := rfl
@[simp] theorem State.modPage_scanKept : (s.modPage k f).scanKept = s.scanKept := rfl
@[simp] theorem State.modPage_dueList : (s.modPage k f).dueList = s.dueList := rfl
@[simp] theorem State.modPage_control : (s.modPage k f).control = s.control := rfl
@[simp] theorem State.modPage_denial : (s.modPage k f).denial = s.denial := rfl
@[simp] theorem State.modPage_notice : (s.modPage k f).notice = s.notice := rfl
@[simp] theorem State.modPage_enable : (s.modPage k f).enable = s.enable := rfl
@[simp] theorem State.modPage_mode : (s.modPage k f).mode = s.mode := rfl
@[simp] theorem State.modPage_haltPin : (s.modPage k f).haltPin = s.haltPin := rfl
@[simp] theorem State.modPage_exhibits : (s.modPage k f).exhibits = s.exhibits := rfl
@[simp] theorem State.modPage_linkMask : (s.modPage k f).linkMask = s.linkMask := rfl
@[simp] theorem State.modPage_linkTimeout : (s.modPage k f).linkTimeout = s.linkTimeout := rfl
@[simp] theorem State.modPage_depth : (s.modPage k f).depth = s.depth := rfl
@[simp] theorem State.modPage_nodes : (s.modPage k f).nodes = s.nodes := rfl
@[simp] theorem State.modPage_inputs : (s.modPage k f).inputs = s.inputs := rfl
@[simp] theorem State.modPage_pollPos : (s.modPage k f).pollPos = s.pollPos := rfl
@[simp] theorem State.modPage_window : (s.modPage k f).window = s.window := rfl
@[simp] theorem State.modPage_linkTx : (s.modPage k f).linkTx = s.linkTx := rfl
@[simp] theorem State.modPage_curPage : (s.modPage k f).curPage = s.curPage := rfl
@[simp] theorem State.modPage_lastPage : (s.modPage k f).lastPage = s.lastPage := rfl
@[simp] theorem State.modPage_nextSeq : (s.modPage k f).nextSeq = s.nextSeq := rfl
@[simp] theorem State.modPage_linger : (s.modPage k f).linger = s.linger := rfl
@[simp] theorem State.modPage_routines : (s.modPage k f).routines = s.routines := rfl
@[simp] theorem State.modPage_pool : (s.modPage k f).pool = s.pool := rfl
@[simp] theorem State.modPage_channels : (s.modPage k f).channels = s.channels := rfl
@[simp] theorem State.modPage_groups : (s.modPage k f).groups = s.groups := rfl
@[simp] theorem State.modPage_handed : (s.modPage k f).handed = s.handed := rfl
@[simp] theorem State.modPage_calls : (s.modPage k f).calls = s.calls := rfl
@[simp] theorem State.modPage_zones : (s.modPage k f).zones = s.zones := rfl
@[simp] theorem State.modPage_beacons : (s.modPage k f).beacons = s.beacons := rfl
@[simp] theorem State.modPage_lastServed : (s.modPage k f).lastServed = s.lastServed := rfl
@[simp] theorem State.modPage_badFrames : (s.modPage k f).badFrames = s.badFrames := rfl
@[simp] theorem State.modPage_staleAcks : (s.modPage k f).staleAcks = s.staleAcks := rfl
@[simp] theorem State.modPage_rx : (s.modPage k f).rx = s.rx := rfl
@[simp] theorem State.modPage_attTx : (s.modPage k f).attTx = s.attTx := rfl
@[simp] theorem State.modPage_cues : (s.modPage k f).cues = s.cues := rfl
@[simp] theorem State.modPage_views : (s.modPage k f).views = s.views := rfl
@[simp] theorem State.modPage_ex : (s.modPage k f).ex j = s.ex j := rfl
@[simp] theorem State.modPage_ch : (s.modPage k f).ch j = s.ch j := rfl
@[simp] theorem State.modPage_inp : (s.modPage k f).inp j = s.inp j := rfl
@[simp] theorem State.modPage_node : (s.modPage k f).node j = s.node j := rfl
@[simp] theorem State.modPage_slot : (s.modPage k f).slot j = s.slot j := rfl
@[simp] theorem State.modPage_routine : (s.modPage k f).routine j = s.routine j := rfl
@[simp] theorem State.modPage_group : (s.modPage k f).group j = s.group j := rfl
@[simp] theorem State.modPage_callEntry : (s.modPage k f).callEntry j = s.callEntry j := rfl
@[simp] theorem State.modPage_beacon : (s.modPage k f).beacon j = s.beacon j := rfl
@[simp] theorem State.modPage_zone : (s.modPage k f).zone j = s.zone j := rfl
@[simp] theorem State.modPage_cue : (s.modPage k f).cue j = s.cue j := rfl
@[simp] theorem State.modPage_page_same : (s.modPage k f).page k = f (s.page k) := by
  simp [State.modPage, State.page]
theorem State.modPage_page_other (h : j ≠ k) : (s.modPage k f).page j = s.page j := by
  simp [State.modPage, State.page, h]

end

/-! ### `modRoutine` -/

section
variable (s : State) (k j : Nat) (f : Routine → Routine)

@[simp] theorem State.modRoutine_pending : (s.modRoutine k f).pending = s.pending := rfl
@[simp] theorem State.modRoutine_tick : (s.modRoutine k f).tick = s.tick := rfl
@[simp] theorem State.modRoutine_mem : (s.modRoutine k f).mem = s.mem := rfl
@[simp] theorem State.modRoutine_slots : (s.modRoutine k f).slots = s.slots := rfl
@[simp] theorem State.modRoutine_lastTaken : (s.modRoutine k f).lastTaken = s.lastTaken := rfl
@[simp] theorem State.modRoutine_pass : (s.modRoutine k f).pass = s.pass := rfl
@[simp] theorem State.modRoutine_scanBit : (s.modRoutine k f).scanBit = s.scanBit := rfl
@[simp] theorem State.modRoutine_scanKept : (s.modRoutine k f).scanKept = s.scanKept := rfl
@[simp] theorem State.modRoutine_dueList : (s.modRoutine k f).dueList = s.dueList := rfl
@[simp] theorem State.modRoutine_control : (s.modRoutine k f).control = s.control := rfl
@[simp] theorem State.modRoutine_denial : (s.modRoutine k f).denial = s.denial := rfl
@[simp] theorem State.modRoutine_notice : (s.modRoutine k f).notice = s.notice := rfl
@[simp] theorem State.modRoutine_enable : (s.modRoutine k f).enable = s.enable := rfl
@[simp] theorem State.modRoutine_mode : (s.modRoutine k f).mode = s.mode := rfl
@[simp] theorem State.modRoutine_haltPin : (s.modRoutine k f).haltPin = s.haltPin := rfl
@[simp] theorem State.modRoutine_exhibits : (s.modRoutine k f).exhibits = s.exhibits := rfl
@[simp] theorem State.modRoutine_linkMask : (s.modRoutine k f).linkMask = s.linkMask := rfl
@[simp] theorem State.modRoutine_linkTimeout : (s.modRoutine k f).linkTimeout = s.linkTimeout := rfl
@[simp] theorem State.modRoutine_depth : (s.modRoutine k f).depth = s.depth := rfl
@[simp] theorem State.modRoutine_nodes : (s.modRoutine k f).nodes = s.nodes := rfl
@[simp] theorem State.modRoutine_inputs : (s.modRoutine k f).inputs = s.inputs := rfl
@[simp] theorem State.modRoutine_pollPos : (s.modRoutine k f).pollPos = s.pollPos := rfl
@[simp] theorem State.modRoutine_window : (s.modRoutine k f).window = s.window := rfl
@[simp] theorem State.modRoutine_linkTx : (s.modRoutine k f).linkTx = s.linkTx := rfl
@[simp] theorem State.modRoutine_pages : (s.modRoutine k f).pages = s.pages := rfl
@[simp] theorem State.modRoutine_curPage : (s.modRoutine k f).curPage = s.curPage := rfl
@[simp] theorem State.modRoutine_lastPage : (s.modRoutine k f).lastPage = s.lastPage := rfl
@[simp] theorem State.modRoutine_nextSeq : (s.modRoutine k f).nextSeq = s.nextSeq := rfl
@[simp] theorem State.modRoutine_linger : (s.modRoutine k f).linger = s.linger := rfl
@[simp] theorem State.modRoutine_pool : (s.modRoutine k f).pool = s.pool := rfl
@[simp] theorem State.modRoutine_channels : (s.modRoutine k f).channels = s.channels := rfl
@[simp] theorem State.modRoutine_groups : (s.modRoutine k f).groups = s.groups := rfl
@[simp] theorem State.modRoutine_handed : (s.modRoutine k f).handed = s.handed := rfl
@[simp] theorem State.modRoutine_calls : (s.modRoutine k f).calls = s.calls := rfl
@[simp] theorem State.modRoutine_zones : (s.modRoutine k f).zones = s.zones := rfl
@[simp] theorem State.modRoutine_beacons : (s.modRoutine k f).beacons = s.beacons := rfl
@[simp] theorem State.modRoutine_lastServed : (s.modRoutine k f).lastServed = s.lastServed := rfl
@[simp] theorem State.modRoutine_badFrames : (s.modRoutine k f).badFrames = s.badFrames := rfl
@[simp] theorem State.modRoutine_staleAcks : (s.modRoutine k f).staleAcks = s.staleAcks := rfl
@[simp] theorem State.modRoutine_rx : (s.modRoutine k f).rx = s.rx := rfl
@[simp] theorem State.modRoutine_attTx : (s.modRoutine k f).attTx = s.attTx := rfl
@[simp] theorem State.modRoutine_cues : (s.modRoutine k f).cues = s.cues := rfl
@[simp] theorem State.modRoutine_views : (s.modRoutine k f).views = s.views := rfl
@[simp] theorem State.modRoutine_ex : (s.modRoutine k f).ex j = s.ex j := rfl
@[simp] theorem State.modRoutine_ch : (s.modRoutine k f).ch j = s.ch j := rfl
@[simp] theorem State.modRoutine_inp : (s.modRoutine k f).inp j = s.inp j := rfl
@[simp] theorem State.modRoutine_node : (s.modRoutine k f).node j = s.node j := rfl
@[simp] theorem State.modRoutine_slot : (s.modRoutine k f).slot j = s.slot j := rfl
@[simp] theorem State.modRoutine_page : (s.modRoutine k f).page j = s.page j := rfl
@[simp] theorem State.modRoutine_group : (s.modRoutine k f).group j = s.group j := rfl
@[simp] theorem State.modRoutine_callEntry : (s.modRoutine k f).callEntry j = s.callEntry j := rfl
@[simp] theorem State.modRoutine_beacon : (s.modRoutine k f).beacon j = s.beacon j := rfl
@[simp] theorem State.modRoutine_zone : (s.modRoutine k f).zone j = s.zone j := rfl
@[simp] theorem State.modRoutine_cue : (s.modRoutine k f).cue j = s.cue j := rfl
@[simp] theorem State.modRoutine_routine_same : (s.modRoutine k f).routine k = f (s.routine k) := by
  simp [State.modRoutine, State.routine]
theorem State.modRoutine_routine_other (h : j ≠ k) : (s.modRoutine k f).routine j = s.routine j := by
  simp [State.modRoutine, State.routine, h]

end

/-! ### `modGroup` -/

section
variable (s : State) (k j : Nat) (f : Group → Group)

@[simp] theorem State.modGroup_pending : (s.modGroup k f).pending = s.pending := rfl
@[simp] theorem State.modGroup_tick : (s.modGroup k f).tick = s.tick := rfl
@[simp] theorem State.modGroup_mem : (s.modGroup k f).mem = s.mem := rfl
@[simp] theorem State.modGroup_slots : (s.modGroup k f).slots = s.slots := rfl
@[simp] theorem State.modGroup_lastTaken : (s.modGroup k f).lastTaken = s.lastTaken := rfl
@[simp] theorem State.modGroup_pass : (s.modGroup k f).pass = s.pass := rfl
@[simp] theorem State.modGroup_scanBit : (s.modGroup k f).scanBit = s.scanBit := rfl
@[simp] theorem State.modGroup_scanKept : (s.modGroup k f).scanKept = s.scanKept := rfl
@[simp] theorem State.modGroup_dueList : (s.modGroup k f).dueList = s.dueList := rfl
@[simp] theorem State.modGroup_control : (s.modGroup k f).control = s.control := rfl
@[simp] theorem State.modGroup_denial : (s.modGroup k f).denial = s.denial := rfl
@[simp] theorem State.modGroup_notice : (s.modGroup k f).notice = s.notice := rfl
@[simp] theorem State.modGroup_enable : (s.modGroup k f).enable = s.enable := rfl
@[simp] theorem State.modGroup_mode : (s.modGroup k f).mode = s.mode := rfl
@[simp] theorem State.modGroup_haltPin : (s.modGroup k f).haltPin = s.haltPin := rfl
@[simp] theorem State.modGroup_exhibits : (s.modGroup k f).exhibits = s.exhibits := rfl
@[simp] theorem State.modGroup_linkMask : (s.modGroup k f).linkMask = s.linkMask := rfl
@[simp] theorem State.modGroup_linkTimeout : (s.modGroup k f).linkTimeout = s.linkTimeout := rfl
@[simp] theorem State.modGroup_depth : (s.modGroup k f).depth = s.depth := rfl
@[simp] theorem State.modGroup_nodes : (s.modGroup k f).nodes = s.nodes := rfl
@[simp] theorem State.modGroup_inputs : (s.modGroup k f).inputs = s.inputs := rfl
@[simp] theorem State.modGroup_pollPos : (s.modGroup k f).pollPos = s.pollPos := rfl
@[simp] theorem State.modGroup_window : (s.modGroup k f).window = s.window := rfl
@[simp] theorem State.modGroup_linkTx : (s.modGroup k f).linkTx = s.linkTx := rfl
@[simp] theorem State.modGroup_pages : (s.modGroup k f).pages = s.pages := rfl
@[simp] theorem State.modGroup_curPage : (s.modGroup k f).curPage = s.curPage := rfl
@[simp] theorem State.modGroup_lastPage : (s.modGroup k f).lastPage = s.lastPage := rfl
@[simp] theorem State.modGroup_nextSeq : (s.modGroup k f).nextSeq = s.nextSeq := rfl
@[simp] theorem State.modGroup_linger : (s.modGroup k f).linger = s.linger := rfl
@[simp] theorem State.modGroup_routines : (s.modGroup k f).routines = s.routines := rfl
@[simp] theorem State.modGroup_pool : (s.modGroup k f).pool = s.pool := rfl
@[simp] theorem State.modGroup_channels : (s.modGroup k f).channels = s.channels := rfl
@[simp] theorem State.modGroup_handed : (s.modGroup k f).handed = s.handed := rfl
@[simp] theorem State.modGroup_calls : (s.modGroup k f).calls = s.calls := rfl
@[simp] theorem State.modGroup_zones : (s.modGroup k f).zones = s.zones := rfl
@[simp] theorem State.modGroup_beacons : (s.modGroup k f).beacons = s.beacons := rfl
@[simp] theorem State.modGroup_lastServed : (s.modGroup k f).lastServed = s.lastServed := rfl
@[simp] theorem State.modGroup_badFrames : (s.modGroup k f).badFrames = s.badFrames := rfl
@[simp] theorem State.modGroup_staleAcks : (s.modGroup k f).staleAcks = s.staleAcks := rfl
@[simp] theorem State.modGroup_rx : (s.modGroup k f).rx = s.rx := rfl
@[simp] theorem State.modGroup_attTx : (s.modGroup k f).attTx = s.attTx := rfl
@[simp] theorem State.modGroup_cues : (s.modGroup k f).cues = s.cues := rfl
@[simp] theorem State.modGroup_views : (s.modGroup k f).views = s.views := rfl
@[simp] theorem State.modGroup_ex : (s.modGroup k f).ex j = s.ex j := rfl
@[simp] theorem State.modGroup_ch : (s.modGroup k f).ch j = s.ch j := rfl
@[simp] theorem State.modGroup_inp : (s.modGroup k f).inp j = s.inp j := rfl
@[simp] theorem State.modGroup_node : (s.modGroup k f).node j = s.node j := rfl
@[simp] theorem State.modGroup_slot : (s.modGroup k f).slot j = s.slot j := rfl
@[simp] theorem State.modGroup_page : (s.modGroup k f).page j = s.page j := rfl
@[simp] theorem State.modGroup_routine : (s.modGroup k f).routine j = s.routine j := rfl
@[simp] theorem State.modGroup_callEntry : (s.modGroup k f).callEntry j = s.callEntry j := rfl
@[simp] theorem State.modGroup_beacon : (s.modGroup k f).beacon j = s.beacon j := rfl
@[simp] theorem State.modGroup_zone : (s.modGroup k f).zone j = s.zone j := rfl
@[simp] theorem State.modGroup_cue : (s.modGroup k f).cue j = s.cue j := rfl
@[simp] theorem State.modGroup_group_same : (s.modGroup k f).group k = f (s.group k) := by
  simp [State.modGroup, State.group]
theorem State.modGroup_group_other (h : j ≠ k) : (s.modGroup k f).group j = s.group j := by
  simp [State.modGroup, State.group, h]

end

/-! ### `modCall` -/

section
variable (s : State) (k j : Nat) (f : CallEntry → CallEntry)

@[simp] theorem State.modCall_pending : (s.modCall k f).pending = s.pending := rfl
@[simp] theorem State.modCall_tick : (s.modCall k f).tick = s.tick := rfl
@[simp] theorem State.modCall_mem : (s.modCall k f).mem = s.mem := rfl
@[simp] theorem State.modCall_slots : (s.modCall k f).slots = s.slots := rfl
@[simp] theorem State.modCall_lastTaken : (s.modCall k f).lastTaken = s.lastTaken := rfl
@[simp] theorem State.modCall_pass : (s.modCall k f).pass = s.pass := rfl
@[simp] theorem State.modCall_scanBit : (s.modCall k f).scanBit = s.scanBit := rfl
@[simp] theorem State.modCall_scanKept : (s.modCall k f).scanKept = s.scanKept := rfl
@[simp] theorem State.modCall_dueList : (s.modCall k f).dueList = s.dueList := rfl
@[simp] theorem State.modCall_control : (s.modCall k f).control = s.control := rfl
@[simp] theorem State.modCall_denial : (s.modCall k f).denial = s.denial := rfl
@[simp] theorem State.modCall_notice : (s.modCall k f).notice = s.notice := rfl
@[simp] theorem State.modCall_enable : (s.modCall k f).enable = s.enable := rfl
@[simp] theorem State.modCall_mode : (s.modCall k f).mode = s.mode := rfl
@[simp] theorem State.modCall_haltPin : (s.modCall k f).haltPin = s.haltPin := rfl
@[simp] theorem State.modCall_exhibits : (s.modCall k f).exhibits = s.exhibits := rfl
@[simp] theorem State.modCall_linkMask : (s.modCall k f).linkMask = s.linkMask := rfl
@[simp] theorem State.modCall_linkTimeout : (s.modCall k f).linkTimeout = s.linkTimeout := rfl
@[simp] theorem State.modCall_depth : (s.modCall k f).depth = s.depth := rfl
@[simp] theorem State.modCall_nodes : (s.modCall k f).nodes = s.nodes := rfl
@[simp] theorem State.modCall_inputs : (s.modCall k f).inputs = s.inputs := rfl
@[simp] theorem State.modCall_pollPos : (s.modCall k f).pollPos = s.pollPos := rfl
@[simp] theorem State.modCall_window : (s.modCall k f).window = s.window := rfl
@[simp] theorem State.modCall_linkTx : (s.modCall k f).linkTx = s.linkTx := rfl
@[simp] theorem State.modCall_pages : (s.modCall k f).pages = s.pages := rfl
@[simp] theorem State.modCall_curPage : (s.modCall k f).curPage = s.curPage := rfl
@[simp] theorem State.modCall_lastPage : (s.modCall k f).lastPage = s.lastPage := rfl
@[simp] theorem State.modCall_nextSeq : (s.modCall k f).nextSeq = s.nextSeq := rfl
@[simp] theorem State.modCall_linger : (s.modCall k f).linger = s.linger := rfl
@[simp] theorem State.modCall_routines : (s.modCall k f).routines = s.routines := rfl
@[simp] theorem State.modCall_pool : (s.modCall k f).pool = s.pool := rfl
@[simp] theorem State.modCall_channels : (s.modCall k f).channels = s.channels := rfl
@[simp] theorem State.modCall_groups : (s.modCall k f).groups = s.groups := rfl
@[simp] theorem State.modCall_handed : (s.modCall k f).handed = s.handed := rfl
@[simp] theorem State.modCall_zones : (s.modCall k f).zones = s.zones := rfl
@[simp] theorem State.modCall_beacons : (s.modCall k f).beacons = s.beacons := rfl
@[simp] theorem State.modCall_lastServed : (s.modCall k f).lastServed = s.lastServed := rfl
@[simp] theorem State.modCall_badFrames : (s.modCall k f).badFrames = s.badFrames := rfl
@[simp] theorem State.modCall_staleAcks : (s.modCall k f).staleAcks = s.staleAcks := rfl
@[simp] theorem State.modCall_rx : (s.modCall k f).rx = s.rx := rfl
@[simp] theorem State.modCall_attTx : (s.modCall k f).attTx = s.attTx := rfl
@[simp] theorem State.modCall_cues : (s.modCall k f).cues = s.cues := rfl
@[simp] theorem State.modCall_views : (s.modCall k f).views = s.views := rfl
@[simp] theorem State.modCall_ex : (s.modCall k f).ex j = s.ex j := rfl
@[simp] theorem State.modCall_ch : (s.modCall k f).ch j = s.ch j := rfl
@[simp] theorem State.modCall_inp : (s.modCall k f).inp j = s.inp j := rfl
@[simp] theorem State.modCall_node : (s.modCall k f).node j = s.node j := rfl
@[simp] theorem State.modCall_slot : (s.modCall k f).slot j = s.slot j := rfl
@[simp] theorem State.modCall_page : (s.modCall k f).page j = s.page j := rfl
@[simp] theorem State.modCall_routine : (s.modCall k f).routine j = s.routine j := rfl
@[simp] theorem State.modCall_group : (s.modCall k f).group j = s.group j := rfl
@[simp] theorem State.modCall_beacon : (s.modCall k f).beacon j = s.beacon j := rfl
@[simp] theorem State.modCall_zone : (s.modCall k f).zone j = s.zone j := rfl
@[simp] theorem State.modCall_cue : (s.modCall k f).cue j = s.cue j := rfl
@[simp] theorem State.modCall_callEntry_same : (s.modCall k f).callEntry k = f (s.callEntry k) := by
  simp [State.modCall, State.callEntry]
theorem State.modCall_callEntry_other (h : j ≠ k) : (s.modCall k f).callEntry j = s.callEntry j := by
  simp [State.modCall, State.callEntry, h]

end

/-! ### `modBeacon` -/

section
variable (s : State) (k j : Nat) (f : Beacon → Beacon)

@[simp] theorem State.modBeacon_pending : (s.modBeacon k f).pending = s.pending := rfl
@[simp] theorem State.modBeacon_tick : (s.modBeacon k f).tick = s.tick := rfl
@[simp] theorem State.modBeacon_mem : (s.modBeacon k f).mem = s.mem := rfl
@[simp] theorem State.modBeacon_slots : (s.modBeacon k f).slots = s.slots := rfl
@[simp] theorem State.modBeacon_lastTaken : (s.modBeacon k f).lastTaken = s.lastTaken := rfl
@[simp] theorem State.modBeacon_pass : (s.modBeacon k f).pass = s.pass := rfl
@[simp] theorem State.modBeacon_scanBit : (s.modBeacon k f).scanBit = s.scanBit := rfl
@[simp] theorem State.modBeacon_scanKept : (s.modBeacon k f).scanKept = s.scanKept := rfl
@[simp] theorem State.modBeacon_dueList : (s.modBeacon k f).dueList = s.dueList := rfl
@[simp] theorem State.modBeacon_control : (s.modBeacon k f).control = s.control := rfl
@[simp] theorem State.modBeacon_denial : (s.modBeacon k f).denial = s.denial := rfl
@[simp] theorem State.modBeacon_notice : (s.modBeacon k f).notice = s.notice := rfl
@[simp] theorem State.modBeacon_enable : (s.modBeacon k f).enable = s.enable := rfl
@[simp] theorem State.modBeacon_mode : (s.modBeacon k f).mode = s.mode := rfl
@[simp] theorem State.modBeacon_haltPin : (s.modBeacon k f).haltPin = s.haltPin := rfl
@[simp] theorem State.modBeacon_exhibits : (s.modBeacon k f).exhibits = s.exhibits := rfl
@[simp] theorem State.modBeacon_linkMask : (s.modBeacon k f).linkMask = s.linkMask := rfl
@[simp] theorem State.modBeacon_linkTimeout : (s.modBeacon k f).linkTimeout = s.linkTimeout := rfl
@[simp] theorem State.modBeacon_depth : (s.modBeacon k f).depth = s.depth := rfl
@[simp] theorem State.modBeacon_nodes : (s.modBeacon k f).nodes = s.nodes := rfl
@[simp] theorem State.modBeacon_inputs : (s.modBeacon k f).inputs = s.inputs := rfl
@[simp] theorem State.modBeacon_pollPos : (s.modBeacon k f).pollPos = s.pollPos := rfl
@[simp] theorem State.modBeacon_window : (s.modBeacon k f).window = s.window := rfl
@[simp] theorem State.modBeacon_linkTx : (s.modBeacon k f).linkTx = s.linkTx := rfl
@[simp] theorem State.modBeacon_pages : (s.modBeacon k f).pages = s.pages := rfl
@[simp] theorem State.modBeacon_curPage : (s.modBeacon k f).curPage = s.curPage := rfl
@[simp] theorem State.modBeacon_lastPage : (s.modBeacon k f).lastPage = s.lastPage := rfl
@[simp] theorem State.modBeacon_nextSeq : (s.modBeacon k f).nextSeq = s.nextSeq := rfl
@[simp] theorem State.modBeacon_linger : (s.modBeacon k f).linger = s.linger := rfl
@[simp] theorem State.modBeacon_routines : (s.modBeacon k f).routines = s.routines := rfl
@[simp] theorem State.modBeacon_pool : (s.modBeacon k f).pool = s.pool := rfl
@[simp] theorem State.modBeacon_channels : (s.modBeacon k f).channels = s.channels := rfl
@[simp] theorem State.modBeacon_groups : (s.modBeacon k f).groups = s.groups := rfl
@[simp] theorem State.modBeacon_handed : (s.modBeacon k f).handed = s.handed := rfl
@[simp] theorem State.modBeacon_calls : (s.modBeacon k f).calls = s.calls := rfl
@[simp] theorem State.modBeacon_zones : (s.modBeacon k f).zones = s.zones := rfl
@[simp] theorem State.modBeacon_lastServed : (s.modBeacon k f).lastServed = s.lastServed := rfl
@[simp] theorem State.modBeacon_badFrames : (s.modBeacon k f).badFrames = s.badFrames := rfl
@[simp] theorem State.modBeacon_staleAcks : (s.modBeacon k f).staleAcks = s.staleAcks := rfl
@[simp] theorem State.modBeacon_rx : (s.modBeacon k f).rx = s.rx := rfl
@[simp] theorem State.modBeacon_attTx : (s.modBeacon k f).attTx = s.attTx := rfl
@[simp] theorem State.modBeacon_cues : (s.modBeacon k f).cues = s.cues := rfl
@[simp] theorem State.modBeacon_views : (s.modBeacon k f).views = s.views := rfl
@[simp] theorem State.modBeacon_ex : (s.modBeacon k f).ex j = s.ex j := rfl
@[simp] theorem State.modBeacon_ch : (s.modBeacon k f).ch j = s.ch j := rfl
@[simp] theorem State.modBeacon_inp : (s.modBeacon k f).inp j = s.inp j := rfl
@[simp] theorem State.modBeacon_node : (s.modBeacon k f).node j = s.node j := rfl
@[simp] theorem State.modBeacon_slot : (s.modBeacon k f).slot j = s.slot j := rfl
@[simp] theorem State.modBeacon_page : (s.modBeacon k f).page j = s.page j := rfl
@[simp] theorem State.modBeacon_routine : (s.modBeacon k f).routine j = s.routine j := rfl
@[simp] theorem State.modBeacon_group : (s.modBeacon k f).group j = s.group j := rfl
@[simp] theorem State.modBeacon_callEntry : (s.modBeacon k f).callEntry j = s.callEntry j := rfl
@[simp] theorem State.modBeacon_zone : (s.modBeacon k f).zone j = s.zone j := rfl
@[simp] theorem State.modBeacon_cue : (s.modBeacon k f).cue j = s.cue j := rfl
@[simp] theorem State.modBeacon_beacon_same : (s.modBeacon k f).beacon k = f (s.beacon k) := by
  simp [State.modBeacon, State.beacon]
theorem State.modBeacon_beacon_other (h : j ≠ k) : (s.modBeacon k f).beacon j = s.beacon j := by
  simp [State.modBeacon, State.beacon, h]

end

/-! ### `setNotice` -/

section
variable (n : BitVec 6) (s : State) (j : Nat)

@[simp] theorem setNotice_pending : (setNotice n s).pending = s.pending := rfl
@[simp] theorem setNotice_tick : (setNotice n s).tick = s.tick := rfl
@[simp] theorem setNotice_mem : (setNotice n s).mem = s.mem := rfl
@[simp] theorem setNotice_slots : (setNotice n s).slots = s.slots := rfl
@[simp] theorem setNotice_lastTaken : (setNotice n s).lastTaken = s.lastTaken := rfl
@[simp] theorem setNotice_pass : (setNotice n s).pass = s.pass := rfl
@[simp] theorem setNotice_scanBit : (setNotice n s).scanBit = s.scanBit := rfl
@[simp] theorem setNotice_scanKept : (setNotice n s).scanKept = s.scanKept := rfl
@[simp] theorem setNotice_dueList : (setNotice n s).dueList = s.dueList := rfl
@[simp] theorem setNotice_control : (setNotice n s).control = s.control := rfl
@[simp] theorem setNotice_denial : (setNotice n s).denial = s.denial := rfl
@[simp] theorem setNotice_enable : (setNotice n s).enable = s.enable := rfl
@[simp] theorem setNotice_mode : (setNotice n s).mode = s.mode := rfl
@[simp] theorem setNotice_haltPin : (setNotice n s).haltPin = s.haltPin := rfl
@[simp] theorem setNotice_exhibits : (setNotice n s).exhibits = s.exhibits := rfl
@[simp] theorem setNotice_linkMask : (setNotice n s).linkMask = s.linkMask := rfl
@[simp] theorem setNotice_linkTimeout : (setNotice n s).linkTimeout = s.linkTimeout := rfl
@[simp] theorem setNotice_depth : (setNotice n s).depth = s.depth := rfl
@[simp] theorem setNotice_nodes : (setNotice n s).nodes = s.nodes := rfl
@[simp] theorem setNotice_inputs : (setNotice n s).inputs = s.inputs := rfl
@[simp] theorem setNotice_pollPos : (setNotice n s).pollPos = s.pollPos := rfl
@[simp] theorem setNotice_window : (setNotice n s).window = s.window := rfl
@[simp] theorem setNotice_linkTx : (setNotice n s).linkTx = s.linkTx := rfl
@[simp] theorem setNotice_pages : (setNotice n s).pages = s.pages := rfl
@[simp] theorem setNotice_curPage : (setNotice n s).curPage = s.curPage := rfl
@[simp] theorem setNotice_lastPage : (setNotice n s).lastPage = s.lastPage := rfl
@[simp] theorem setNotice_nextSeq : (setNotice n s).nextSeq = s.nextSeq := rfl
@[simp] theorem setNotice_linger : (setNotice n s).linger = s.linger := rfl
@[simp] theorem setNotice_routines : (setNotice n s).routines = s.routines := rfl
@[simp] theorem setNotice_pool : (setNotice n s).pool = s.pool := rfl
@[simp] theorem setNotice_channels : (setNotice n s).channels = s.channels := rfl
@[simp] theorem setNotice_groups : (setNotice n s).groups = s.groups := rfl
@[simp] theorem setNotice_handed : (setNotice n s).handed = s.handed := rfl
@[simp] theorem setNotice_calls : (setNotice n s).calls = s.calls := rfl
@[simp] theorem setNotice_zones : (setNotice n s).zones = s.zones := rfl
@[simp] theorem setNotice_beacons : (setNotice n s).beacons = s.beacons := rfl
@[simp] theorem setNotice_lastServed : (setNotice n s).lastServed = s.lastServed := rfl
@[simp] theorem setNotice_badFrames : (setNotice n s).badFrames = s.badFrames := rfl
@[simp] theorem setNotice_staleAcks : (setNotice n s).staleAcks = s.staleAcks := rfl
@[simp] theorem setNotice_rx : (setNotice n s).rx = s.rx := rfl
@[simp] theorem setNotice_attTx : (setNotice n s).attTx = s.attTx := rfl
@[simp] theorem setNotice_cues : (setNotice n s).cues = s.cues := rfl
@[simp] theorem setNotice_views : (setNotice n s).views = s.views := rfl
@[simp] theorem setNotice_ex : (setNotice n s).ex j = s.ex j := rfl
@[simp] theorem setNotice_ch : (setNotice n s).ch j = s.ch j := rfl
@[simp] theorem setNotice_inp : (setNotice n s).inp j = s.inp j := rfl
@[simp] theorem setNotice_node : (setNotice n s).node j = s.node j := rfl
@[simp] theorem setNotice_slot : (setNotice n s).slot j = s.slot j := rfl
@[simp] theorem setNotice_page : (setNotice n s).page j = s.page j := rfl
@[simp] theorem setNotice_routine : (setNotice n s).routine j = s.routine j := rfl
@[simp] theorem setNotice_group : (setNotice n s).group j = s.group j := rfl
@[simp] theorem setNotice_callEntry : (setNotice n s).callEntry j = s.callEntry j := rfl
@[simp] theorem setNotice_beacon : (setNotice n s).beacon j = s.beacon j := rfl
@[simp] theorem setNotice_zone : (setNotice n s).zone j = s.zone j := rfl
@[simp] theorem setNotice_cue : (setNotice n s).cue j = s.cue j := rfl

end

/-! ### `publish` -/

section
variable (s : State) (j : Nat)

@[simp] theorem publish_pending : (publish s).pending = s.pending := rfl
@[simp] theorem publish_tick : (publish s).tick = s.tick := rfl
@[simp] theorem publish_mem : (publish s).mem = s.mem := rfl
@[simp] theorem publish_slots : (publish s).slots = s.slots := rfl
@[simp] theorem publish_lastTaken : (publish s).lastTaken = s.lastTaken := rfl
@[simp] theorem publish_pass : (publish s).pass = s.pass := rfl
@[simp] theorem publish_scanBit : (publish s).scanBit = s.scanBit := rfl
@[simp] theorem publish_scanKept : (publish s).scanKept = s.scanKept := rfl
@[simp] theorem publish_dueList : (publish s).dueList = s.dueList := rfl
@[simp] theorem publish_control : (publish s).control = s.control := rfl
@[simp] theorem publish_denial : (publish s).denial = s.denial := rfl
@[simp] theorem publish_enable : (publish s).enable = s.enable := rfl
@[simp] theorem publish_mode : (publish s).mode = s.mode := rfl
@[simp] theorem publish_haltPin : (publish s).haltPin = s.haltPin := rfl
@[simp] theorem publish_exhibits : (publish s).exhibits = s.exhibits := rfl
@[simp] theorem publish_linkMask : (publish s).linkMask = s.linkMask := rfl
@[simp] theorem publish_linkTimeout : (publish s).linkTimeout = s.linkTimeout := rfl
@[simp] theorem publish_depth : (publish s).depth = s.depth := rfl
@[simp] theorem publish_nodes : (publish s).nodes = s.nodes := rfl
@[simp] theorem publish_inputs : (publish s).inputs = s.inputs := rfl
@[simp] theorem publish_pollPos : (publish s).pollPos = s.pollPos := rfl
@[simp] theorem publish_window : (publish s).window = s.window := rfl
@[simp] theorem publish_linkTx : (publish s).linkTx = s.linkTx := rfl
@[simp] theorem publish_pages : (publish s).pages = s.pages := rfl
@[simp] theorem publish_curPage : (publish s).curPage = s.curPage := rfl
@[simp] theorem publish_lastPage : (publish s).lastPage = s.lastPage := rfl
@[simp] theorem publish_nextSeq : (publish s).nextSeq = s.nextSeq := rfl
@[simp] theorem publish_linger : (publish s).linger = s.linger := rfl
@[simp] theorem publish_routines : (publish s).routines = s.routines := rfl
@[simp] theorem publish_pool : (publish s).pool = s.pool := rfl
@[simp] theorem publish_channels : (publish s).channels = s.channels := rfl
@[simp] theorem publish_groups : (publish s).groups = s.groups := rfl
@[simp] theorem publish_handed : (publish s).handed = s.handed := rfl
@[simp] theorem publish_calls : (publish s).calls = s.calls := rfl
@[simp] theorem publish_zones : (publish s).zones = s.zones := rfl
@[simp] theorem publish_beacons : (publish s).beacons = s.beacons := rfl
@[simp] theorem publish_lastServed : (publish s).lastServed = s.lastServed := rfl
@[simp] theorem publish_badFrames : (publish s).badFrames = s.badFrames := rfl
@[simp] theorem publish_staleAcks : (publish s).staleAcks = s.staleAcks := rfl
@[simp] theorem publish_rx : (publish s).rx = s.rx := rfl
@[simp] theorem publish_attTx : (publish s).attTx = s.attTx := rfl
@[simp] theorem publish_cues : (publish s).cues = s.cues := rfl
@[simp] theorem publish_ex : (publish s).ex j = s.ex j := rfl
@[simp] theorem publish_ch : (publish s).ch j = s.ch j := rfl
@[simp] theorem publish_inp : (publish s).inp j = s.inp j := rfl
@[simp] theorem publish_node : (publish s).node j = s.node j := rfl
@[simp] theorem publish_slot : (publish s).slot j = s.slot j := rfl
@[simp] theorem publish_page : (publish s).page j = s.page j := rfl
@[simp] theorem publish_routine : (publish s).routine j = s.routine j := rfl
@[simp] theorem publish_group : (publish s).group j = s.group j := rfl
@[simp] theorem publish_callEntry : (publish s).callEntry j = s.callEntry j := rfl
@[simp] theorem publish_beacon : (publish s).beacon j = s.beacon j := rfl
@[simp] theorem publish_zone : (publish s).zone j = s.zone j := rfl
@[simp] theorem publish_cue : (publish s).cue j = s.cue j := rfl

end

/-! ### `publishExhibit` -/

section
variable (e : Nat) (s : State) (j : Nat)

@[simp] theorem publishExhibit_pending : (publishExhibit e s).pending = s.pending := rfl
@[simp] theorem publishExhibit_tick : (publishExhibit e s).tick = s.tick := rfl
@[simp] theorem publishExhibit_mem : (publishExhibit e s).mem = s.mem := rfl
@[simp] theorem publishExhibit_slots : (publishExhibit e s).slots = s.slots := rfl
@[simp] theorem publishExhibit_lastTaken : (publishExhibit e s).lastTaken = s.lastTaken := rfl
@[simp] theorem publishExhibit_pass : (publishExhibit e s).pass = s.pass := rfl
@[simp] theorem publishExhibit_scanBit : (publishExhibit e s).scanBit = s.scanBit := rfl
@[simp] theorem publishExhibit_scanKept : (publishExhibit e s).scanKept = s.scanKept := rfl
@[simp] theorem publishExhibit_dueList : (publishExhibit e s).dueList = s.dueList := rfl
@[simp] theorem publishExhibit_control : (publishExhibit e s).control = s.control := rfl
@[simp] theorem publishExhibit_denial : (publishExhibit e s).denial = s.denial := rfl
@[simp] theorem publishExhibit_enable : (publishExhibit e s).enable = s.enable := rfl
@[simp] theorem publishExhibit_mode : (publishExhibit e s).mode = s.mode := rfl
@[simp] theorem publishExhibit_haltPin : (publishExhibit e s).haltPin = s.haltPin := rfl
@[simp] theorem publishExhibit_exhibits : (publishExhibit e s).exhibits = s.exhibits := rfl
@[simp] theorem publishExhibit_linkMask : (publishExhibit e s).linkMask = s.linkMask := rfl
@[simp] theorem publishExhibit_linkTimeout : (publishExhibit e s).linkTimeout = s.linkTimeout := rfl
@[simp] theorem publishExhibit_depth : (publishExhibit e s).depth = s.depth := rfl
@[simp] theorem publishExhibit_nodes : (publishExhibit e s).nodes = s.nodes := rfl
@[simp] theorem publishExhibit_inputs : (publishExhibit e s).inputs = s.inputs := rfl
@[simp] theorem publishExhibit_pollPos : (publishExhibit e s).pollPos = s.pollPos := rfl
@[simp] theorem publishExhibit_window : (publishExhibit e s).window = s.window := rfl
@[simp] theorem publishExhibit_linkTx : (publishExhibit e s).linkTx = s.linkTx := rfl
@[simp] theorem publishExhibit_pages : (publishExhibit e s).pages = s.pages := rfl
@[simp] theorem publishExhibit_curPage : (publishExhibit e s).curPage = s.curPage := rfl
@[simp] theorem publishExhibit_lastPage : (publishExhibit e s).lastPage = s.lastPage := rfl
@[simp] theorem publishExhibit_nextSeq : (publishExhibit e s).nextSeq = s.nextSeq := rfl
@[simp] theorem publishExhibit_linger : (publishExhibit e s).linger = s.linger := rfl
@[simp] theorem publishExhibit_routines : (publishExhibit e s).routines = s.routines := rfl
@[simp] theorem publishExhibit_pool : (publishExhibit e s).pool = s.pool := rfl
@[simp] theorem publishExhibit_channels : (publishExhibit e s).channels = s.channels := rfl
@[simp] theorem publishExhibit_groups : (publishExhibit e s).groups = s.groups := rfl
@[simp] theorem publishExhibit_handed : (publishExhibit e s).handed = s.handed := rfl
@[simp] theorem publishExhibit_calls : (publishExhibit e s).calls = s.calls := rfl
@[simp] theorem publishExhibit_zones : (publishExhibit e s).zones = s.zones := rfl
@[simp] theorem publishExhibit_beacons : (publishExhibit e s).beacons = s.beacons := rfl
@[simp] theorem publishExhibit_lastServed : (publishExhibit e s).lastServed = s.lastServed := rfl
@[simp] theorem publishExhibit_badFrames : (publishExhibit e s).badFrames = s.badFrames := rfl
@[simp] theorem publishExhibit_staleAcks : (publishExhibit e s).staleAcks = s.staleAcks := rfl
@[simp] theorem publishExhibit_rx : (publishExhibit e s).rx = s.rx := rfl
@[simp] theorem publishExhibit_attTx : (publishExhibit e s).attTx = s.attTx := rfl
@[simp] theorem publishExhibit_cues : (publishExhibit e s).cues = s.cues := rfl
@[simp] theorem publishExhibit_ex : (publishExhibit e s).ex j = s.ex j := rfl
@[simp] theorem publishExhibit_ch : (publishExhibit e s).ch j = s.ch j := rfl
@[simp] theorem publishExhibit_inp : (publishExhibit e s).inp j = s.inp j := rfl
@[simp] theorem publishExhibit_node : (publishExhibit e s).node j = s.node j := rfl
@[simp] theorem publishExhibit_slot : (publishExhibit e s).slot j = s.slot j := rfl
@[simp] theorem publishExhibit_page : (publishExhibit e s).page j = s.page j := rfl
@[simp] theorem publishExhibit_routine : (publishExhibit e s).routine j = s.routine j := rfl
@[simp] theorem publishExhibit_group : (publishExhibit e s).group j = s.group j := rfl
@[simp] theorem publishExhibit_callEntry : (publishExhibit e s).callEntry j = s.callEntry j := rfl
@[simp] theorem publishExhibit_beacon : (publishExhibit e s).beacon j = s.beacon j := rfl
@[simp] theorem publishExhibit_zone : (publishExhibit e s).zone j = s.zone j := rfl
@[simp] theorem publishExhibit_cue : (publishExhibit e s).cue j = s.cue j := rfl

end

/-! ### `complete` -/

section
variable (k : Nat) (o : OrderOutcome) (r : Word) (s : State) (j : Nat)

@[simp] theorem complete_pending : (complete k o r s).pending = s.pending := rfl
@[simp] theorem complete_tick : (complete k o r s).tick = s.tick := rfl
@[simp] theorem complete_mem : (complete k o r s).mem = s.mem := rfl
@[simp] theorem complete_lastTaken : (complete k o r s).lastTaken = s.lastTaken := rfl
@[simp] theorem complete_pass : (complete k o r s).pass = s.pass := rfl
@[simp] theorem complete_scanBit : (complete k o r s).scanBit = s.scanBit := rfl
@[simp] theorem complete_scanKept : (complete k o r s).scanKept = s.scanKept := rfl
@[simp] theorem complete_dueList : (complete k o r s).dueList = s.dueList := rfl
@[simp] theorem complete_control : (complete k o r s).control = s.control := rfl
@[simp] theorem complete_denial : (complete k o r s).denial = s.denial := rfl
@[simp] theorem complete_enable : (complete k o r s).enable = s.enable := rfl
@[simp] theorem complete_mode : (complete k o r s).mode = s.mode := rfl
@[simp] theorem complete_haltPin : (complete k o r s).haltPin = s.haltPin := rfl
@[simp] theorem complete_exhibits : (complete k o r s).exhibits = s.exhibits := rfl
@[simp] theorem complete_linkMask : (complete k o r s).linkMask = s.linkMask := rfl
@[simp] theorem complete_linkTimeout : (complete k o r s).linkTimeout = s.linkTimeout := rfl
@[simp] theorem complete_depth : (complete k o r s).depth = s.depth := rfl
@[simp] theorem complete_nodes : (complete k o r s).nodes = s.nodes := rfl
@[simp] theorem complete_inputs : (complete k o r s).inputs = s.inputs := rfl
@[simp] theorem complete_pollPos : (complete k o r s).pollPos = s.pollPos := rfl
@[simp] theorem complete_window : (complete k o r s).window = s.window := rfl
@[simp] theorem complete_linkTx : (complete k o r s).linkTx = s.linkTx := rfl
@[simp] theorem complete_pages : (complete k o r s).pages = s.pages := rfl
@[simp] theorem complete_curPage : (complete k o r s).curPage = s.curPage := rfl
@[simp] theorem complete_lastPage : (complete k o r s).lastPage = s.lastPage := rfl
@[simp] theorem complete_nextSeq : (complete k o r s).nextSeq = s.nextSeq := rfl
@[simp] theorem complete_linger : (complete k o r s).linger = s.linger := rfl
@[simp] theorem complete_routines : (complete k o r s).routines = s.routines := rfl
@[simp] theorem complete_pool : (complete k o r s).pool = s.pool := rfl
@[simp] theorem complete_channels : (complete k o r s).channels = s.channels := rfl
@[simp] theorem complete_groups : (complete k o r s).groups = s.groups := rfl
@[simp] theorem complete_handed : (complete k o r s).handed = s.handed := rfl
@[simp] theorem complete_calls : (complete k o r s).calls = s.calls := rfl
@[simp] theorem complete_zones : (complete k o r s).zones = s.zones := rfl
@[simp] theorem complete_beacons : (complete k o r s).beacons = s.beacons := rfl
@[simp] theorem complete_lastServed : (complete k o r s).lastServed = s.lastServed := rfl
@[simp] theorem complete_badFrames : (complete k o r s).badFrames = s.badFrames := rfl
@[simp] theorem complete_staleAcks : (complete k o r s).staleAcks = s.staleAcks := rfl
@[simp] theorem complete_rx : (complete k o r s).rx = s.rx := rfl
@[simp] theorem complete_attTx : (complete k o r s).attTx = s.attTx := rfl
@[simp] theorem complete_cues : (complete k o r s).cues = s.cues := rfl
@[simp] theorem complete_views : (complete k o r s).views = s.views := rfl
@[simp] theorem complete_ex : (complete k o r s).ex j = s.ex j := rfl
@[simp] theorem complete_ch : (complete k o r s).ch j = s.ch j := rfl
@[simp] theorem complete_inp : (complete k o r s).inp j = s.inp j := rfl
@[simp] theorem complete_node : (complete k o r s).node j = s.node j := rfl
@[simp] theorem complete_page : (complete k o r s).page j = s.page j := rfl
@[simp] theorem complete_routine : (complete k o r s).routine j = s.routine j := rfl
@[simp] theorem complete_group : (complete k o r s).group j = s.group j := rfl
@[simp] theorem complete_callEntry : (complete k o r s).callEntry j = s.callEntry j := rfl
@[simp] theorem complete_beacon : (complete k o r s).beacon j = s.beacon j := rfl
@[simp] theorem complete_zone : (complete k o r s).zone j = s.zone j := rfl
@[simp] theorem complete_cue : (complete k o r s).cue j = s.cue j := rfl

end

/-- A completed order's slot (R185). -/
@[simp] theorem complete_slot_same (k : Nat) (o : OrderOutcome) (r : Word) (s : State) :
    (complete k o r s).slot k =
      { s.slot k with edit := (s.slot k).edit + 2, state := .done, outcome := o, doneTick := s.tick,
                      result := r } := by
  simp [complete]

/-- A completion leaves the other slots as they are. -/
theorem complete_slot_other (k j : Nat) (o : OrderOutcome) (r : Word) (s : State) (h : j ≠ k) :
    (complete k o r s).slot j = s.slot j := by
  simp [complete, State.modSlot_slot_other, h]

/-- A completion sets the ORDERS notice. -/
@[simp] theorem complete_notice (k : Nat) (o : OrderOutcome) (r : Word) (s : State) :
    (complete k o r s).notice = s.notice ||| noticeOrders := rfl

end Sys2Proof.Machine
end

