-- ==== Sys2Proof/Laws/Outer.lean ====
section
/-! SUPPORT. What the exhibits and the blocks they act on leave alone. `State.outer` gathers the fields
outside their reach; each operation keeps it, so a claim about one of these fields passes through any
chain of them. -/

set_option linter.unusedTactic false
set_option linter.unnecessarySeqFocus false

namespace Sys2Proof.Machine

/-- The fields that no operation of the exhibits, the load arbiter, the call unit's causes or the axis
channels changes. -/
structure Outer where
  pending : List Instr
  tick : Tick
  mem : List Host.Cell
  lastTaken : Nat
  pass : Option (List Nat)
  scanBit : Bool
  scanKept : Bool
  dueList : List DueEntry
  control : BitVec 4
  denial : Option Denial
  enable : BitVec 6
  mode : GalleryMode
  haltPin : Bool
  linkMask : Word
  linkTimeout : Nat
  depth : Nat
  nodes : Tab Node
  inputs : Tab Input
  pollPos : Nat
  window : Option Window
  linkTx : List Byte
  pages : Tab Page
  curPage : Option Nat
  lastPage : Option Nat
  nextSeq : Half
  linger : Option Tick
  pool : Tab Waypoint
  zones : Tab Zone
  lastServed : Nat
  badFrames : Half
  staleAcks : Half
  rx : Receiver
  attTx : List Byte

/-- The outer fields of a state. -/
def State.outer (s : State) : Outer :=
  ⟨s.pending, s.tick, s.mem, s.lastTaken, s.pass, s.scanBit, s.scanKept, s.dueList, s.control,
   s.denial, s.enable, s.mode, s.haltPin, s.linkMask, s.linkTimeout, s.depth, s.nodes, s.inputs,
   s.pollPos, s.window, s.linkTx, s.pages, s.curPage, s.lastPage, s.nextSeq, s.linger, s.pool,
   s.zones, s.lastServed, s.badFrames, s.staleAcks, s.rx, s.attTx⟩

/-! ### Reading one field -/

section
variable {s t : State} (h : t.outer = s.outer)
include h

theorem outer_pending : t.pending = s.pending := congrArg Outer.pending h
theorem outer_tick : t.tick = s.tick := congrArg Outer.tick h
theorem outer_mem : t.mem = s.mem := congrArg Outer.mem h
theorem outer_lastTaken : t.lastTaken = s.lastTaken := congrArg Outer.lastTaken h
theorem outer_pass : t.pass = s.pass := congrArg Outer.pass h
theorem outer_scanBit : t.scanBit = s.scanBit := congrArg Outer.scanBit h
theorem outer_scanKept : t.scanKept = s.scanKept := congrArg Outer.scanKept h
theorem outer_dueList : t.dueList = s.dueList := congrArg Outer.dueList h
theorem outer_control : t.control = s.control := congrArg Outer.control h
theorem outer_denial : t.denial = s.denial := congrArg Outer.denial h
theorem outer_enable : t.enable = s.enable := congrArg Outer.enable h
theorem outer_mode : t.mode = s.mode := congrArg Outer.mode h
theorem outer_haltPin : t.haltPin = s.haltPin := congrArg Outer.haltPin h
theorem outer_linkMask : t.linkMask = s.linkMask := congrArg Outer.linkMask h
theorem outer_linkTimeout : t.linkTimeout = s.linkTimeout := congrArg Outer.linkTimeout h
theorem outer_depth : t.depth = s.depth := congrArg Outer.depth h
theorem outer_nodes : t.nodes = s.nodes := congrArg Outer.nodes h
theorem outer_inputs : t.inputs = s.inputs := congrArg Outer.inputs h
theorem outer_pollPos : t.pollPos = s.pollPos := congrArg Outer.pollPos h
theorem outer_window : t.window = s.window := congrArg Outer.window h
theorem outer_linkTx : t.linkTx = s.linkTx := congrArg Outer.linkTx h
theorem outer_pages : t.pages = s.pages := congrArg Outer.pages h
theorem outer_curPage : t.curPage = s.curPage := congrArg Outer.curPage h
theorem outer_lastPage : t.lastPage = s.lastPage := congrArg Outer.lastPage h
theorem outer_nextSeq : t.nextSeq = s.nextSeq := congrArg Outer.nextSeq h
theorem outer_linger : t.linger = s.linger := congrArg Outer.linger h
theorem outer_pool : t.pool = s.pool := congrArg Outer.pool h
theorem outer_zones : t.zones = s.zones := congrArg Outer.zones h
theorem outer_lastServed : t.lastServed = s.lastServed := congrArg Outer.lastServed h
theorem outer_badFrames : t.badFrames = s.badFrames := congrArg Outer.badFrames h
theorem outer_staleAcks : t.staleAcks = s.staleAcks := congrArg Outer.staleAcks h
theorem outer_rx : t.rx = s.rx := congrArg Outer.rx h
theorem outer_attTx : t.attTx = s.attTx := congrArg Outer.attTx h

end

/-! ### Folds and updates -/

/-- A fold of operations that keep the outer fields keeps them. -/
theorem outer_foldl {α : Type} (f : State → α → State) (h : ∀ s a, (f s a).outer = s.outer)
    (l : List α) (s : State) : (l.foldl f s).outer = s.outer := by
  induction l generalizing s with
  | nil => rfl
  | cons a l ih => simp [ih, h]

@[simp] theorem State.modEx_outer (s : State) (k : Nat) (f : Exhibit → Exhibit) :
    (s.modEx k f).outer = s.outer := rfl
@[simp] theorem State.modCh_outer (s : State) (k : Nat) (f : Channel → Channel) :
    (s.modCh k f).outer = s.outer := rfl
@[simp] theorem State.modSlot_outer (s : State) (k : Nat) (f : Slot → Slot) :
    (s.modSlot k f).outer = s.outer := rfl
@[simp] theorem State.modRoutine_outer (s : State) (k : Nat) (f : Routine → Routine) :
    (s.modRoutine k f).outer = s.outer := rfl
@[simp] theorem State.modGroup_outer (s : State) (k : Nat) (f : Group → Group) :
    (s.modGroup k f).outer = s.outer := rfl
@[simp] theorem State.modCall_outer (s : State) (k : Nat) (f : CallEntry → CallEntry) :
    (s.modCall k f).outer = s.outer := rfl
@[simp] theorem State.modBeacon_outer (s : State) (k : Nat) (f : Beacon → Beacon) :
    (s.modBeacon k f).outer = s.outer := rfl
@[simp] theorem setNotice_outer (n : BitVec 6) (s : State) : (setNotice n s).outer = s.outer := rfl
@[simp] theorem publish_outer (s : State) : (publish s).outer = s.outer := rfl
@[simp] theorem publishExhibit_outer (e : Nat) (s : State) :
    (publishExhibit e s).outer = s.outer := rfl
@[simp] theorem complete_outer (k : Nat) (o : OrderOutcome) (r : Word) (s : State) :
    (complete k o r s).outer = s.outer := rfl
@[simp] theorem with_handed_outer (s : State) (x) : State.outer { s with handed := x } = s.outer := rfl
@[simp] theorem with_cues_outer (s : State) (x) : State.outer { s with cues := x } = s.outer := rfl

/-! ### Shared operations -/

@[simp] theorem completeAll_outer (ks : List Nat) (o : OrderOutcome) (s : State) :
    (completeAll ks o s).outer = s.outer := by
  unfold completeAll; exact outer_foldl _ (fun _ _ => by simp) _ _
@[simp] theorem completeOrigin_outer (o : Origin) (out : OrderOutcome) (r : Word) (s : State) :
    (completeOrigin o out r s).outer = s.outer := by
  unfold completeOrigin; (try dsimp only); (repeat' split) <;> simp
@[simp] theorem incUse_outer (r : Nat) (s : State) : (incUse r s).outer = s.outer := by
  unfold incUse; (try dsimp only); (repeat' split) <;> simp
@[simp] theorem decUse_outer (r : Nat) (s : State) : (decUse r s).outer = s.outer := by
  unfold decUse; (try dsimp only); (repeat' split) <;> simp

/-! ### Load arbiter -/

@[simp] theorem book_outer (g : Nat) (r : Request) (s : State) : (book g r s).outer = s.outer := by
  unfold book; exact (with_handed_outer _ _).trans (by simp)
@[simp] theorem evaluateLoop_outer (n g : Nat) (s : State) :
    (evaluateLoop n g s).outer = s.outer := by
  induction n generalizing s with
  | zero => rfl
  | succ n ih => unfold evaluateLoop; (repeat' split) <;> simp [ih]
@[simp] theorem evaluate_outer (g : Nat) (s : State) : (evaluate g s).outer = s.outer := by
  unfold evaluate; (try dsimp only); (repeat' split) <;> simp
@[simp] theorem withdraw_outer (e : Nat) (s : State) : (withdraw e s).outer = s.outer := by
  unfold withdraw; (try dsimp only); (repeat' split) <;> simp
@[simp] theorem request_outer (e n : Nat) (p : Purpose) (s : State) :
    (request e n p s).1.outer = s.outer := by
  unfold request; (try dsimp only); (repeat' split) <;> simp
@[simp] theorem returnUnits_outer (e n : Nat) (s : State) :
    (returnUnits e n s).outer = s.outer := by
  unfold returnUnits; (try dsimp only); (repeat' split) <;> simp
@[simp] theorem returnRun_outer (e : Nat) (s : State) : (returnRun e s).outer = s.outer := by
  unfold returnRun; (try dsimp only); (repeat' split) <;> simp
@[simp] theorem returnAll_outer (e : Nat) (s : State) : (returnAll e s).outer = s.outer := by
  unfold returnAll; (try dsimp only); (repeat' split) <;> simp

/-! ### Call unit -/

@[simp] theorem rechoose_outer (t : Nat → Bool) (s : State) : (rechoose t s).outer = s.outer := by
  unfold rechoose; exact outer_foldl _ (fun _ _ => by (repeat' split) <;> simp) _ _
@[simp] theorem rechooseFor_outer (l : List Nat) (s : State) :
    (rechooseFor l s).outer = s.outer := by
  unfold rechooseFor; (try dsimp only); (repeat' split) <;> simp
@[simp] theorem enterCall_outer (n e : Nat) (c : Cause) (p : Pending) (s : State) :
    (enterCall n e c p s).outer = s.outer := by
  unfold enterCall; (try dsimp only); (repeat' split) <;> simp
@[simp] theorem freeEntry_outer (n : Nat) (s : State) : (freeEntry n s).outer = s.outer := by
  unfold freeEntry; (try dsimp only); (repeat' split) <;> simp
@[simp] theorem removeCause_outer (e : Nat) (c : Cause) (s : State) :
    (removeCause e c s).outer = s.outer := by
  unfold removeCause; (try dsimp only); (repeat' split) <;> simp
@[simp] theorem fillEntries_outer (n : Nat) (s : State) : (fillEntries n s).outer = s.outer := by
  induction n generalizing s with
  | zero => rfl
  | succ n ih => unfold fillEntries; dsimp only; (repeat' split) <;> simp [ih]
@[simp] theorem clearCausesOf_outer (es : List Nat) (cs : List Cause) (s : State) :
    (clearCausesOf es cs s).outer = s.outer := by
  unfold clearCausesOf; simp only [fillEntries_outer]
  exact outer_foldl _ (fun _ _ => outer_foldl _ (fun _ _ => by simp) _ _) _ _
@[simp] theorem clearCauses_outer (e : Nat) (cs : List Cause) (s : State) :
    (clearCauses e cs s).outer = s.outer := by
  unfold clearCauses; simp
@[simp] theorem raiseCause_outer (e : Nat) (c : Cause) (v : Nat) (s : State) :
    (raiseCause e c v s).outer = s.outer := by
  unfold raiseCause; (try dsimp only); (repeat' split) <;> simp
@[simp] theorem ackEntry_outer (n : Nat) (a : AckSource) (b : Byte) (s : State) :
    (ackEntry n a b s).outer = s.outer := by
  unfold ackEntry; repeat' split
  · rfl
  · rfl
  · exact (outer_foldl _ (fun _ _ => by split <;> simp) _ _).trans (by simp)
@[simp] theorem ackCause_outer (e : Nat) (a : AckSource) (c : Cause) (s : State) :
    (ackCause e a c s).outer = s.outer := by
  unfold ackCause; (try dsimp only); (repeat' split) <;> simp
@[simp] theorem ackCauses_outer (e : Nat) (a : AckSource) (cs : List Cause) (s : State) :
    (ackCauses e a cs s).outer = s.outer := by
  unfold ackCauses; exact outer_foldl _ (fun _ _ => by simp) _ _
@[simp] theorem escalate_outer (n : Nat) (s : State) : (escalate n s).outer = s.outer := by
  unfold escalate; (try dsimp only); (repeat' split) <;> simp
@[simp] theorem refreshDue_outer (b : Nat) (s : State) : (refreshDue b s).outer = s.outer := by
  unfold refreshDue; (try dsimp only); (repeat' split) <;> simp

/-! ### Axis channels -/

@[simp] theorem modAxes_outer (e : Nat) (f : AxisRec → Channel → Channel) (s : State) :
    (modAxes e f s).outer = s.outer := by
  unfold modAxes; exact outer_foldl _ (fun _ _ => by (repeat' split) <;> simp) _ _
@[simp] theorem brakeAxes_outer (e : Nat) (s : State) : (brakeAxes e s).outer = s.outer := by
  unfold brakeAxes; (try dsimp only); (repeat' split) <;> simp
@[simp] theorem tripAxes_outer (e : Nat) (s : State) : (tripAxes e s).outer = s.outer := by
  unfold tripAxes; (try dsimp only); (repeat' split) <;> simp
@[simp] theorem releaseAxes_outer (e : Nat) (s : State) : (releaseAxes e s).outer = s.outer := by
  unfold releaseAxes; (try dsimp only); (repeat' split) <;> simp
@[simp] theorem energiseAxes_outer (e : Nat) (s : State) : (energiseAxes e s).outer = s.outer := by
  unfold energiseAxes; (try dsimp only); (repeat' split) <;> simp
@[simp] theorem deenergiseAxes_outer (e : Nat) (s : State) :
    (deenergiseAxes e s).outer = s.outer := by
  unfold deenergiseAxes; (try dsimp only); (repeat' split) <;> simp

/-! ### Exhibits -/

@[simp] theorem enter_outer (e : Nat) (x : ExState) (s : State) :
    (enter e x s).outer = s.outer := by
  unfold enter; (try dsimp only); (repeat' split) <;> simp
@[simp] theorem enterBraking_outer (e : Nat) (t : Target) (a : Option Activity) (s : State) :
    (enterBraking e t a s).outer = s.outer := by
  unfold enterBraking; (try dsimp only); (repeat' split) <;> simp
@[simp] theorem enterHeld_outer (e : Nat) (a : Activity) (s : State) :
    (enterHeld e a s).outer = s.outer := by
  unfold enterHeld; (try dsimp only); (repeat' split) <;> simp
@[simp] theorem startRest_outer (e : Nat) (s : State) : (startRest e s).outer = s.outer := by
  unfold startRest; (try dsimp only); (repeat' split) <;> simp
@[simp] theorem endRun_outer (e : Nat) (o : OrderOutcome) (s : State) :
    (endRun e o s).outer = s.outer := by
  unfold endRun; (try dsimp only); (repeat' split) <;> simp
@[simp] theorem dropQueued_outer (e : Nat) (o : OrderOutcome) (s : State) :
    (dropQueued e o s).outer = s.outer := by
  unfold dropQueued; (try dsimp only); (repeat' split) <;> simp
@[simp] theorem setQueued_outer (e : Nat) (q : Queued) (s : State) :
    (setQueued e q s).outer = s.outer := by
  unfold setQueued; (try dsimp only); (repeat' split) <;> simp
@[simp] theorem endHomingOrder_outer (e : Nat) (o : OrderOutcome) (s : State) :
    (endHomingOrder e o s).outer = s.outer := by
  unfold endHomingOrder; (try dsimp only); (repeat' split) <;> simp
@[simp] theorem endStopOrders_outer (e : Nat) (o : OrderOutcome) (s : State) :
    (endStopOrders e o s).outer = s.outer := by
  unfold endStopOrders; (try dsimp only); (repeat' split) <;> simp
@[simp] theorem endLockOrders_outer (e : Nat) (o : OrderOutcome) (s : State) :
    (endLockOrders e o s).outer = s.outer := by
  unfold endLockOrders; (try dsimp only); (repeat' split) <;> simp
@[simp] theorem lockDown_outer (e : Nat) (s : State) : (lockDown e s).outer = s.outer := by
  unfold lockDown; (try dsimp only); (repeat' split) <;> simp
@[simp] theorem firstFault_outer (e : Nat) (r : FaultReport) (s : State) :
    (firstFault e r s).outer = s.outer := by
  unfold firstFault; (try dsimp only); (repeat' split) <;> simp
@[simp] theorem takeFault_outer (e : Nat) (r : FaultReport) (s : State) :
    (takeFault e r s).outer = s.outer := by
  unfold takeFault; (try dsimp only); (repeat' split) <;> simp
@[simp] theorem energiseFault_outer (e : Nat) (s : State) :
    (energiseFault e s).outer = s.outer := by
  unfold energiseFault; (repeat' split) <;> simp
@[simp] theorem checkFault_outer (e : Nat) (b : Bool) (r : FaultReport) (s : State) :
    (checkFault e b r s).outer = s.outer := by
  unfold checkFault; (try dsimp only); (repeat' split) <;> simp
@[simp] theorem modRun_outer (e : Nat) (f : Run → Run) (s : State) :
    (modRun e f s).outer = s.outer := by
  unfold modRun; (try dsimp only); (repeat' split) <;> simp
@[simp] theorem formWaypoint_outer (e : Nat) (s : State) : (formWaypoint e s).outer = s.outer := by
  unfold formWaypoint; (try dsimp only); (repeat' split) <;> simp
@[simp] theorem pulseCue_outer (c : Nat) (s : State) : (pulseCue c s).outer = s.outer := by
  unfold pulseCue; (try dsimp only); (repeat' split) <;> simp
@[simp] theorem arrivedAll_outer (e : Nat) (s : State) : (arrivedAll e s).1.outer = s.outer := by
  unfold arrivedAll; (try dsimp only); (repeat' split) <;> simp
@[simp] theorem completeAtGrant_outer (e : Nat) (s : State) :
    (completeAtGrant e s).outer = s.outer := by
  unfold completeAtGrant; (try dsimp only); (repeat' split) <;> simp
@[simp] theorem startRunAxes_outer (e : Nat) (r : Run) (l : List AxisRec) (s : State) :
    (startRunAxes e r l s).outer = s.outer := by
  unfold startRunAxes; simp only [publishExhibit_outer, modRun_outer]; exact outer_foldl _ (fun _ _ => by simp) _ _
@[simp] theorem waypointGranted_outer (e : Nat) (b : Bool) (s : State) :
    (waypointGranted e b s).1.outer = s.outer := by
  unfold waypointGranted; (try dsimp only); (repeat' split) <;> simp
@[simp] theorem beginOnce_outer (e : Nat) (s : State) : (beginOnce e s).1.outer = s.outer := by
  unfold beginOnce; (try dsimp only); (repeat' split) <;> simp
@[simp] theorem beginRun_outer (e r : Nat) (o : Origin) (b : Bool) (s : State) :
    (beginRun e r o b s).outer = s.outer := by
  unfold beginRun; (try dsimp only); (repeat' split) <;> simp
@[simp] theorem beginQueued_outer (e : Nat) (q : Queued) (s : State) :
    (beginQueued e q s).outer = s.outer := by
  unfold beginQueued; (try dsimp only); (repeat' split) <;> simp
@[simp] theorem readyContinue_outer (e : Nat) (s : State) :
    (readyContinue e s).1.outer = s.outer := by
  unfold readyContinue; (try dsimp only); (repeat' split) <;> simp
@[simp] theorem runRefused_outer (e : Nat) (s : State) : (runRefused e s).outer = s.outer := by
  unfold runRefused; (try dsimp only); (repeat' split) <;> simp
@[simp] theorem beginWaypoint_outer (e : Nat) (s : State) :
    (beginWaypoint e s).1.outer = s.outer := by
  unfold beginWaypoint
  rcases h : beginOnce e s with ⟨s1, b⟩
  have h1 : s1.outer = s.outer := by
    have q := beginOnce_outer e s
    rw [h] at q
    simpa using q
  cases b with
  | rest => exact h1
  | dwellDue => exact h1
  | refused =>
    rcases h' : readyContinue e (runRefused e s1) with ⟨s2, b⟩
    have h2 : s2.outer = s.outer := by
      have q := readyContinue_outer e (runRefused e s1)
      rw [h'] at q
      simpa [h1] using q
    simp only [h']
    cases b with
    | false => exact h2
    | true =>
      rcases h'' : beginOnce e s2 with ⟨s3, b⟩
      have h3 : s3.outer = s.outer := by
        have q := beginOnce_outer e s2
        rw [h''] at q
        simpa [h2] using q
      simp only [h'']
      cases b <;> simp [h3]
@[simp] theorem finishRun_outer (e : Nat) (s : State) : (finishRun e s).1.outer = s.outer := by
  unfold finishRun; (try dsimp only); (repeat' split) <;> simp
@[simp] theorem advanceRun_outer (e : Nat) (s : State) : (advanceRun e s).1.outer = s.outer := by
  unfold advanceRun; (try dsimp only); (repeat' split) <;> simp
@[simp] theorem afterDwell_outer (e : Nat) (s : State) : (afterDwell e s).1.outer = s.outer := by
  unfold afterDwell; (try dsimp only); (repeat' split) <;> simp
@[simp] theorem dwellChain_outer (n e : Nat) (s : State) : (dwellChain n e s).outer = s.outer := by
  induction n generalizing s with
  | zero => rfl
  | succ n ih =>
    rcases h : afterDwell e s with ⟨s1, b⟩
    have h1 : s1.outer = s.outer := by
      have q := afterDwell_outer e s
      rw [h] at q
      simpa using q
    simp only [dwellChain, h]
    cases b
    · exact h1
    · rcases h' : beginWaypoint e s1 with ⟨s2, b⟩
      have h2 : s2.outer = s1.outer := by
        have q := beginWaypoint_outer e s1
        rw [h'] at q
        simpa using q
      simp only [h']
      cases b <;> simp [h1, h2, ih]
@[simp] theorem goWaypoint_outer (e : Nat) (s : State) : (goWaypoint e s).outer = s.outer := by
  rcases h : beginWaypoint e s with ⟨s1, b⟩
  have h1 : s1.outer = s.outer := by
    have q := beginWaypoint_outer e s
    rw [h] at q
    simpa using q
  simp only [goWaypoint, h]; cases b <;> simp [h1]
@[simp] theorem goBegun_outer (e : Nat) (x : State × Begun) : (goBegun e x).outer = x.1.outer := by
  obtain ⟨s1, b⟩ := x; cases b <;> simp [goBegun]
@[simp] theorem readyNow_outer (e : Nat) (s : State) : (readyNow e s).outer = s.outer := by
  rcases h : readyContinue e s with ⟨s1, b⟩
  have h1 : s1.outer = s.outer := by
    have q := readyContinue_outer e s
    rw [h] at q
    simpa using q
  simp only [readyNow, h]; cases b <;> simp [h1]
@[simp] theorem toReady_outer (e : Nat) (s : State) : (toReady e s).outer = s.outer := by
  unfold toReady; (try dsimp only); (repeat' split) <;> simp
@[simp] theorem startRun_outer (e r : Nat) (o : Origin) (b : Bool) (s : State) :
    (startRun e r o b s).outer = s.outer := by
  unfold startRun; (try dsimp only); (repeat' split) <;> simp
@[simp] theorem stepWaiting_outer (e : Nat) (s : State) : (stepWaiting e s).outer = s.outer := by
  rcases h : advanceRun e s with ⟨s1, b⟩
  have h1 : s1.outer = s.outer := by
    have q := advanceRun_outer e s
    rw [h] at q
    simpa using q
  simp only [stepWaiting, h]; cases b <;> simp [h1]
@[simp] theorem homingEnd_outer (e : Nat) (s : State) : (homingEnd e s).outer = s.outer := by
  unfold homingEnd; (try dsimp only); (repeat' split) <;> simp
@[simp] theorem markSet_outer (e : Nat) (l : List Nat) (s : State) :
    (markSet e l s).outer = s.outer := by
  unfold markSet; (try dsimp only); (repeat' split) <;> simp
@[simp] theorem homeAxes_outer (e : Nat) (b : Bool) (axes : List AxisRec) (s : State) :
    (homeAxes e b axes s).outer = s.outer := by
  unfold homeAxes
  split
  · simp
  · have key : ((axes.foldl (fun u a => u.modCh a.channel (fun c =>
        if c.state = .stopped ∧ c.kind = some .homing then resumeMove a c else startHoming a c))
        (markSet e (homeActiveSlots s axes) s))).outer = s.outer :=
      (outer_foldl _ (fun _ _ => by simp) _ _).trans (by simp)
    dsimp only
    split <;> simp [key]
@[simp] theorem homingGranted_outer (e : Nat) (s : State) :
    (homingGranted e s).outer = s.outer := by
  unfold homingGranted; (try dsimp only); (repeat' split) <;> simp
@[simp] theorem homingRefused_outer (e : Nat) (s : State) :
    (homingRefused e s).outer = s.outer := by
  unfold homingRefused; (try dsimp only); (repeat' split) <;> simp
@[simp] theorem askHoming_outer (e : Nat) (s : State) : (askHoming e s).outer = s.outer := by
  unfold askHoming; (try dsimp only); (repeat' split) <;> simp
@[simp] theorem enterHoming_outer (e : Nat) (s : State) : (enterHoming e s).outer = s.outer := by
  unfold enterHoming; (try dsimp only); (repeat' split) <;> simp
@[simp] theorem leaveLockedOut_outer (e : Nat) (s : State) :
    (leaveLockedOut e s).outer = s.outer := by
  unfold leaveLockedOut; (try dsimp only); (repeat' split) <;> simp
@[simp] theorem enterLockedOut_outer (e : Nat) (s : State) :
    (enterLockedOut e s).outer = s.outer := by
  unfold enterLockedOut; (try dsimp only); (repeat' split) <;> simp
@[simp] theorem addLock_outer (e : Nat) (r : LockReason) (s : State) :
    (addLock e r s).outer = s.outer := by
  unfold addLock; (try dsimp only); (repeat' split) <;> simp
@[simp] theorem removeLock_outer (e : Nat) (r : LockReason) (s : State) :
    (removeLock e r s).outer = s.outer := by
  unfold removeLock; (try dsimp only); (repeat' split) <;> simp
@[simp] theorem wakeGranted_outer (e : Nat) (s : State) : (wakeGranted e s).outer = s.outer := by
  unfold wakeGranted; (try dsimp only); (repeat' split) <;> simp
@[simp] theorem wakeRefused_outer (e : Nat) (s : State) : (wakeRefused e s).outer = s.outer := by
  unfold wakeRefused; (try dsimp only); (repeat' split) <;> simp
@[simp] theorem wake_outer (e : Nat) (s : State) : (wake e s).outer = s.outer := by
  unfold wake; (try dsimp only); (repeat' split) <;> simp
@[simp] theorem restExpired_outer (e : Nat) (s : State) : (restExpired e s).outer = s.outer := by
  unfold restExpired; (try dsimp only); (repeat' split) <;> simp
@[simp] theorem resumeGranted_outer (e : Nat) (s : State) :
    (resumeGranted e s).1.outer = s.outer := by
  unfold resumeGranted; dsimp only; repeat' split
  · rfl
  · simp
  · simp
  · simp only [modRun_outer]; exact outer_foldl _ (fun _ _ => by simp) _ _
@[simp] theorem resumeMovement_outer (e : Nat) (r : Run) (s : State) :
    (resumeMovement e r s).outer = s.outer := by
  unfold resumeMovement; (try dsimp only); (repeat' split) <;> simp
@[simp] theorem resumeHoming_outer (e : Nat) (s : State) : (resumeHoming e s).outer = s.outer := by
  unfold resumeHoming; (try dsimp only); (repeat' split) <;> simp
@[simp] theorem leaveHeld_outer (e : Nat) (s : State) : (leaveHeld e s).outer = s.outer := by
  unfold leaveHeld; (try dsimp only); (repeat' split) <;> simp
@[simp] theorem pauseRun_outer (e : Nat) (s : State) : (pauseRun e s).outer = s.outer := by
  unfold pauseRun; (try dsimp only); (repeat' split) <;> simp
@[simp] theorem holdEffect_outer (e : Nat) (s : State) : (holdEffect e s).outer = s.outer := by
  unfold holdEffect; (try dsimp only); (repeat' split) <;> simp
@[simp] theorem addHold_outer (e : Nat) (r : HoldReason) (s : State) :
    (addHold e r s).outer = s.outer := by
  unfold addHold; (try dsimp only); (repeat' split) <;> simp
@[simp] theorem releaseEffect_outer (e : Nat) (s : State) :
    (releaseEffect e s).outer = s.outer := by
  unfold releaseEffect; (try dsimp only); (repeat' split) <;> simp
@[simp] theorem removeHold_outer (e : Nat) (r : HoldReason) (s : State) :
    (removeHold e r s).outer = s.outer := by
  unfold removeHold; (try dsimp only); (repeat' split) <;> simp
@[simp] theorem finishRetire_outer (e k : Nat) (s : State) :
    (finishRetire e k s).outer = s.outer := by
  unfold finishRetire; (try dsimp only); (repeat' split) <;> simp
@[simp] theorem brakingEnd_outer (e : Nat) (s : State) : (brakingEnd e s).outer = s.outer := by
  unfold brakingEnd; (try dsimp only); (repeat' split) <;> simp
@[simp] theorem brakingCheck_outer (e : Nat) (s : State) : (brakingCheck e s).outer = s.outer := by
  unfold brakingCheck; (try dsimp only); (repeat' split) <;> simp
@[simp] theorem stopRunning_outer (e : Nat) (b : Bool) (s : State) :
    (stopRunning e b s).outer = s.outer := by
  unfold stopRunning; (try dsimp only); (repeat' split) <;> simp
@[simp] theorem dropReplace_outer (e : Nat) (s : State) : (dropReplace e s).outer = s.outer := by
  unfold dropReplace; (try dsimp only); (repeat' split) <;> simp
@[simp] theorem awaitStop_outer (e k : Nat) (s : State) : (awaitStop e k s).outer = s.outer := by
  unfold awaitStop; (try dsimp only); (repeat' split) <;> simp
@[simp] theorem stopExhibit.brakingOrDone_outer (e : Nat) (u : State) :
    (stopExhibit.brakingOrDone e u).outer = u.outer := by
  unfold stopExhibit.brakingOrDone; (try dsimp only); (repeat' split) <;> simp
@[simp] theorem stopExhibit_outer (e k : Nat) (s : State) :
    (stopExhibit e k s).outer = s.outer := by
  unfold stopExhibit; (try dsimp only); (repeat' split) <;> simp
@[simp] theorem axisArrived_outer (e k : Nat) (s : State) :
    (axisArrived e k s).outer = s.outer := by
  unfold axisArrived; (try dsimp only); (repeat' split) <;> simp
@[simp] theorem axisSet_outer (e k : Nat) (s : State) : (axisSet e k s).outer = s.outer := by
  unfold axisSet; (try dsimp only); (repeat' split) <;> simp

/-! ### What is handed, and the channels' events -/

@[simp] theorem takeGrant_outer (e : Nat) (p : Purpose) (s : State) :
    (takeGrant e p s).outer = s.outer := by
  unfold takeGrant; (try dsimp only); (repeat' split) <;> simp
@[simp] theorem deliver_outer (h : Handed) (s : State) : (deliver h s).outer = s.outer := by
  unfold deliver; (try dsimp only); (repeat' split) <;> simp
@[simp] theorem settleLoop_outer (n : Nat) (s : State) : (settleLoop n s).outer = s.outer := by
  induction n generalizing s with
  | zero => rfl
  | succ n ih => unfold settleLoop; split <;> simp [ih]
@[simp] theorem settle_outer (s : State) : (settle s).outer = s.outer := by
  unfold settle; (try dsimp only); (repeat' split) <;> simp
@[simp] theorem closeEvent_outer (s : State) : (closeEvent s).outer = s.outer := by
  unfold closeEvent; simp
@[simp] theorem deliverFirst_outer (t : Handed → Bool) (s : State) :
    (deliverFirst t s).outer = s.outer := by
  unfold deliverFirst; (try dsimp only); (repeat' split) <;> simp
@[simp] theorem handOverrun_outer (e : Nat) (a : AxisRec) (s : State) :
    (handOverrun e a s).outer = s.outer := by
  unfold handOverrun; (try dsimp only); (repeat' split) <;> simp
@[simp] theorem afterTick_outer (e : Nat) (a : AxisRec) (s : State) :
    (afterTick e a s).outer = s.outer := by
  unfold afterTick; (try dsimp only); (repeat' split) <;> simp
@[simp] theorem tickChannel_outer (f : AxisRec → Channel → Channel) (c : Nat) (s : State) :
    (tickChannel f c s).outer = s.outer := by
  unfold tickChannel; (try dsimp only); (repeat' split) <;> simp
@[simp] theorem motionTickOf_outer (c : Nat) (s : State) : (motionTickOf c s).outer = s.outer := by
  unfold motionTickOf; (try dsimp only); (repeat' split) <;> simp
@[simp] theorem homingTickOf_outer (c : Nat) (s : State) : (homingTickOf c s).outer = s.outer := by
  unfold homingTickOf; (try dsimp only); (repeat' split) <;> simp
@[simp] theorem brakingTickOf_outer (c : Nat) (s : State) :
    (brakingTickOf c s).outer = s.outer := by
  unfold brakingTickOf; (try dsimp only); (repeat' split) <;> simp
@[simp] theorem homeOn_outer (c : Nat) (s : State) : (homeOn c s).outer = s.outer := by
  unfold homeOn; (try dsimp only); (repeat' split) <;> simp
@[simp] theorem limitOn_outer (c : Nat) (s : State) : (limitOn c s).outer = s.outer := by
  unfold limitOn; (try dsimp only); (repeat' split) <;> simp
@[simp] theorem readyOn_outer (c : Nat) (s : State) : (readyOn c s).outer = s.outer := by
  unfold readyOn; (try dsimp only); (repeat' split) <;> simp
@[simp] theorem faultOn_outer (c : Nat) (s : State) : (faultOn c s).outer = s.outer := by
  unfold faultOn; (try dsimp only); (repeat' split) <;> simp
@[simp] theorem sampleChange_outer (c : Nat) (i : ChanInput) (b : Bool) (s : State) :
    (sampleChange c i b s).outer = s.outer := by
  unfold sampleChange; (try dsimp only); (repeat' split) <;> simp
@[simp] theorem dwellExpired_outer (e : Nat) (s : State) : (dwellExpired e s).outer = s.outer := by
  unfold dwellExpired; (try dsimp only); (repeat' split) <;> simp
@[simp] theorem cueEnd_outer (l : Nat) (s : State) : (cueEnd l s).outer = s.outer := by
  unfold cueEnd; (try dsimp only); (repeat' split) <;> simp
@[simp] theorem helpHoldDue_outer (e : Nat) (s : State) : (helpHoldDue e s).outer = s.outer := by
  unfold helpHoldDue; (try dsimp only); (repeat' split) <;> simp

end Sys2Proof.Machine
end

