-- ==== Sys2Proof/WellFormed.lean ====
section
/-! DEFINITION. Which commands are well formed: what a sender of commands keeps to. A command that is
not well formed still has its meaning; the part refuses or ignores it as its rules say. -/

namespace Sys2Proof

open Machine

/-- An order's head with its kind and parameters, for the commands that give an order. -/
def Instr.order : Instr → Option (OrderHead × OrderBody)
  | .bringUpExhibit h o => some (h, .bringUp o)
  | .retireExhibit h => some (h, .retire)
  | .setAccess h m => some (h, .setAccess m)
  | .homeExhibit h => some (h, .home)
  | .stopExhibit h => some (h, .stop)
  | .hold h => some (h, .hold)
  | .release h => some (h, .release)
  | .lockOut h => some (h, .lockOut)
  | .returnToService h => some (h, .returnToService)
  | .setGalleryMode h m => some (h, .setMode m)
  | .setLamps h p => some (h, .setLamps p)
  | .setStationLink h m t d => some (h, .setLink m t d)
  | .runRoutine h r => some (h, .runRoutine r)
  | .stepRun h => some (h, .stepRun)
  | .commitRoutine h r o => some (h, .commit r o)
  | .clearRoutine h r => some (h, .clearRoutine r)
  | .setBudget h g b => some (h, .setBudget g b)
  | .setZone h z => some (h, .setZone z)
  | .raiseCall h v => some (h, .raiseCall v)
  | .acknowledgeCall h c => some (h, .ackCall c)
  | .clearCall h c => some (h, .clearCall c)
  | .clearFault h => some (h, .clearFault)
  | .setControl h m => some (h, .setControl m)
  | .setClock h t => some (h, .setClock t)
  | .cancel h n => some (h, .cancel n)
  | .powerOn => none | .partReset => none | .controlHalt => none | .scanOrders => none
  | .noticeClear _ => none | .noticeEnableWrite _ => none | .registerWrite _ _ => none
  | .hostWrite _ _ => none | .slotPost _ => none | .slotEmpty _ => none | .pageFree _ => none
  | .scanPeriod => none | .scanPass => none | .take => none | .dueExpiry => none
  | .galleryHaltLow => none | .galleryHaltHigh => none | .poll => none | .reply _ => none
  | .replyTimeout => none | .refillExpiry _ => none | .lingerExpiry => none
  | .restTimerExpiry _ => none | .grant => none | .cuePulseEnd _ => none | .motionTick _ => none
  | .homingTick _ => none | .brakingTick _ => none | .deadlineOverrun _ => none
  | .dwellExpiry _ => none | .homeActive _ => none | .limitActive _ => none
  | .drvReadyActive _ => none | .drvFaultActive _ => none | .channelInputChange _ _ _ => none
  | .escalationExpiry _ => none | .holdExpiry _ => none | .refreshExpiry _ => none
  | .beacon => none | .dark => none | .ack _ _ _ => none | .badFrame _ => none
  | .interbyteGap => none

/-! ### The checks -/

/-- The parameters lie in the ranges of section 11.6 (R185). -/
def parametersInRange (b : OrderBody) : Bool := paramsOk b

/-- A due tick goes only with a kind that may carry one (section 11.6). -/
def dueTickAllowed (h : OrderHead) (b : OrderBody) : Bool := dueAllowed b || !h.flags.getLsbD 0

/-- An exhibit kind names an exhibit number, 0 to 31 (R42). -/
def exhibitNamed (h : OrderHead) (b : OrderBody) : Bool :=
  match scopeOf b with
  | .exhibit => decide (h.exhibit.toNat ≤ 31)
  | .gallery => true
  | .slot => true

/-- A clear of notices writes 1 to some category (R181). -/
def clearsSome (bits : BitVec 6) : Bool := bits != 0

/-- Some byte arrives (R51, R160). -/
def someBytes (bs : List RxByte) : Bool := !bs.isEmpty

/-- The bytes are not one good ACK frame, which is a command of its own (R160). -/
def notGoodAck (bs : List RxByte) : Bool :=
  match bs with
  | [sync, kind, cnt, call, gen, tag, chk] =>
    !(sync.val == 0x55 && kind.val == 0x81 && cnt.val == 3 && bs.all (·.stopOk) &&
      kind.val + cnt.val + call.val + gen.val + tag.val + chk.val == 0)
  | _ => true

/-- The command is well formed. -/
def Instr.wellFormed (i : Instr) : Bool :=
  match i.order with
  | some (h, b) => parametersInRange b && dueTickAllowed h b && exhibitNamed h b
  | none =>
    match i with
    | .noticeClear bits => clearsSome bits
    | .reply bs => someBytes bs
    | .badFrame bs => someBytes bs && notGoodAck bs
    | _ => true

end Sys2Proof
end

