-- ==== Sys2Proof/Laws/PerInstr.lean ====
section
/-! SUPPORT. What holds of every command as syntax, one lemma for each constructor. -/

namespace Sys2Proof.Laws.Orders

open Sys2Proof.Machine

/-- The order that a command gives, if any, is spelled by one of the kind codes 1 to 25 of section 11.6,
and the command is the one that gives this order. -/
def Statement (i : Instr) : Prop :=
  ∀ h b, i.order = some (h, b) → orderCommand h b = i ∧ 1 ≤ kindCodeOf b ∧ kindCodeOf b ≤ 25

theorem powerOn : Statement (.powerOn) := by
  rintro _ _ ⟨⟩
theorem partReset : Statement (.partReset) := by
  rintro _ _ ⟨⟩
theorem controlHalt : Statement (.controlHalt) := by
  rintro _ _ ⟨⟩
theorem scanOrders : Statement (.scanOrders) := by
  rintro _ _ ⟨⟩
theorem noticeClear (bits : BitVec 6) : Statement (.noticeClear bits) := by
  rintro _ _ ⟨⟩
theorem noticeEnableWrite (bits : BitVec 6) : Statement (.noticeEnableWrite bits) := by
  rintro _ _ ⟨⟩
theorem registerWrite (offset : Fin 16) (value : Byte) :
    Statement (.registerWrite offset value) := by
  rintro _ _ ⟨⟩
theorem hostWrite (offset : Half) (data : HostData) : Statement (.hostWrite offset data) := by
  rintro _ _ ⟨⟩
theorem slotPost (slot : Fin 32) : Statement (.slotPost slot) := by
  rintro _ _ ⟨⟩
theorem slotEmpty (slot : Fin 32) : Statement (.slotEmpty slot) := by
  rintro _ _ ⟨⟩
theorem pageFree (page : Fin 8) : Statement (.pageFree page) := by
  rintro _ _ ⟨⟩
theorem scanPeriod : Statement (.scanPeriod) := by
  rintro _ _ ⟨⟩
theorem scanPass : Statement (.scanPass) := by
  rintro _ _ ⟨⟩
theorem take : Statement (.take) := by
  rintro _ _ ⟨⟩
theorem dueExpiry : Statement (.dueExpiry) := by
  rintro _ _ ⟨⟩
theorem bringUpExhibit (h : OrderHead) (offset : Half) : Statement (.bringUpExhibit h offset) := by
  rintro _ _ ⟨⟩; exact ⟨rfl, by simp [kindCodeOf], by simp [kindCodeOf]⟩
theorem retireExhibit (h : OrderHead) : Statement (.retireExhibit h) := by
  rintro _ _ ⟨⟩; exact ⟨rfl, by simp [kindCodeOf], by simp [kindCodeOf]⟩
theorem setAccess (h : OrderHead) (mask : Byte) : Statement (.setAccess h mask) := by
  rintro _ _ ⟨⟩; exact ⟨rfl, by simp [kindCodeOf], by simp [kindCodeOf]⟩
theorem homeExhibit (h : OrderHead) : Statement (.homeExhibit h) := by
  rintro _ _ ⟨⟩; exact ⟨rfl, by simp [kindCodeOf], by simp [kindCodeOf]⟩
theorem stopExhibit (h : OrderHead) : Statement (.stopExhibit h) := by
  rintro _ _ ⟨⟩; exact ⟨rfl, by simp [kindCodeOf], by simp [kindCodeOf]⟩
theorem hold (h : OrderHead) : Statement (.hold h) := by
  rintro _ _ ⟨⟩; exact ⟨rfl, by simp [kindCodeOf], by simp [kindCodeOf]⟩
theorem release (h : OrderHead) : Statement (.release h) := by
  rintro _ _ ⟨⟩; exact ⟨rfl, by simp [kindCodeOf], by simp [kindCodeOf]⟩
theorem lockOut (h : OrderHead) : Statement (.lockOut h) := by
  rintro _ _ ⟨⟩; exact ⟨rfl, by simp [kindCodeOf], by simp [kindCodeOf]⟩
theorem returnToService (h : OrderHead) : Statement (.returnToService h) := by
  rintro _ _ ⟨⟩; exact ⟨rfl, by simp [kindCodeOf], by simp [kindCodeOf]⟩
theorem setGalleryMode (h : OrderHead) (mode : Byte) : Statement (.setGalleryMode h mode) := by
  rintro _ _ ⟨⟩; exact ⟨rfl, by simp [kindCodeOf], by simp [kindCodeOf]⟩
theorem setLamps (h : OrderHead) (pattern : Byte) : Statement (.setLamps h pattern) := by
  rintro _ _ ⟨⟩; exact ⟨rfl, by simp [kindCodeOf], by simp [kindCodeOf]⟩
theorem setStationLink (h : OrderHead) (mask : Word) (timeout : Half) (depth : Byte) :
    Statement (.setStationLink h mask timeout depth) := by
  rintro _ _ ⟨⟩; exact ⟨rfl, by simp [kindCodeOf], by simp [kindCodeOf]⟩
theorem runRoutine (h : OrderHead) (routine : Byte) : Statement (.runRoutine h routine) := by
  rintro _ _ ⟨⟩; exact ⟨rfl, by simp [kindCodeOf], by simp [kindCodeOf]⟩
theorem stepRun (h : OrderHead) : Statement (.stepRun h) := by
  rintro _ _ ⟨⟩; exact ⟨rfl, by simp [kindCodeOf], by simp [kindCodeOf]⟩
theorem commitRoutine (h : OrderHead) (routine : Byte) (offset : Half) :
    Statement (.commitRoutine h routine offset) := by
  rintro _ _ ⟨⟩; exact ⟨rfl, by simp [kindCodeOf], by simp [kindCodeOf]⟩
theorem clearRoutine (h : OrderHead) (routine : Byte) : Statement (.clearRoutine h routine) := by
  rintro _ _ ⟨⟩; exact ⟨rfl, by simp [kindCodeOf], by simp [kindCodeOf]⟩
theorem setBudget (h : OrderHead) (group : Byte) (budget : Half) :
    Statement (.setBudget h group budget) := by
  rintro _ _ ⟨⟩; exact ⟨rfl, by simp [kindCodeOf], by simp [kindCodeOf]⟩
theorem setZone (h : OrderHead) (z : ZoneParams) : Statement (.setZone h z) := by
  rintro _ _ ⟨⟩; exact ⟨rfl, by simp [kindCodeOf], by simp [kindCodeOf]⟩
theorem raiseCall (h : OrderHead) (severity : Byte) : Statement (.raiseCall h severity) := by
  rintro _ _ ⟨⟩; exact ⟨rfl, by simp [kindCodeOf], by simp [kindCodeOf]⟩
theorem acknowledgeCall (h : OrderHead) (cause : Byte) : Statement (.acknowledgeCall h cause) := by
  rintro _ _ ⟨⟩; exact ⟨rfl, by simp [kindCodeOf], by simp [kindCodeOf]⟩
theorem clearCall (h : OrderHead) (cause : Byte) : Statement (.clearCall h cause) := by
  rintro _ _ ⟨⟩; exact ⟨rfl, by simp [kindCodeOf], by simp [kindCodeOf]⟩
theorem clearFault (h : OrderHead) : Statement (.clearFault h) := by
  rintro _ _ ⟨⟩; exact ⟨rfl, by simp [kindCodeOf], by simp [kindCodeOf]⟩
theorem setControl (h : OrderHead) (mask : Byte) : Statement (.setControl h mask) := by
  rintro _ _ ⟨⟩; exact ⟨rfl, by simp [kindCodeOf], by simp [kindCodeOf]⟩
theorem setClock (h : OrderHead) (tick : Tick) : Statement (.setClock h tick) := by
  rintro _ _ ⟨⟩; exact ⟨rfl, by simp [kindCodeOf], by simp [kindCodeOf]⟩
theorem cancel (h : OrderHead) (slot : Byte) : Statement (.cancel h slot) := by
  rintro _ _ ⟨⟩; exact ⟨rfl, by simp [kindCodeOf], by simp [kindCodeOf]⟩
theorem galleryHaltLow : Statement (.galleryHaltLow) := by
  rintro _ _ ⟨⟩
theorem galleryHaltHigh : Statement (.galleryHaltHigh) := by
  rintro _ _ ⟨⟩
theorem poll : Statement (.poll) := by
  rintro _ _ ⟨⟩
theorem reply (bytes : List RxByte) : Statement (.reply bytes) := by
  rintro _ _ ⟨⟩
theorem replyTimeout : Statement (.replyTimeout) := by
  rintro _ _ ⟨⟩
theorem refillExpiry (input : Fin 256) : Statement (.refillExpiry input) := by
  rintro _ _ ⟨⟩
theorem lingerExpiry : Statement (.lingerExpiry) := by
  rintro _ _ ⟨⟩
theorem restTimerExpiry (e : Fin 32) : Statement (.restTimerExpiry e) := by
  rintro _ _ ⟨⟩
theorem grant : Statement (.grant) := by
  rintro _ _ ⟨⟩
theorem cuePulseEnd (line : Fin 8) : Statement (.cuePulseEnd line) := by
  rintro _ _ ⟨⟩
theorem motionTick (ch : Fin 24) : Statement (.motionTick ch) := by
  rintro _ _ ⟨⟩
theorem homingTick (ch : Fin 24) : Statement (.homingTick ch) := by
  rintro _ _ ⟨⟩
theorem brakingTick (ch : Fin 24) : Statement (.brakingTick ch) := by
  rintro _ _ ⟨⟩
theorem deadlineOverrun (ch : Fin 24) : Statement (.deadlineOverrun ch) := by
  rintro _ _ ⟨⟩
theorem dwellExpiry (e : Fin 32) : Statement (.dwellExpiry e) := by
  rintro _ _ ⟨⟩
theorem homeActive (ch : Fin 24) : Statement (.homeActive ch) := by
  rintro _ _ ⟨⟩
theorem limitActive (ch : Fin 24) : Statement (.limitActive ch) := by
  rintro _ _ ⟨⟩
theorem drvReadyActive (ch : Fin 24) : Statement (.drvReadyActive ch) := by
  rintro _ _ ⟨⟩
theorem drvFaultActive (ch : Fin 24) : Statement (.drvFaultActive ch) := by
  rintro _ _ ⟨⟩
theorem channelInputChange (ch : Fin 24) (input : ChanInput) (level : Bool) :
    Statement (.channelInputChange ch input level) := by
  rintro _ _ ⟨⟩
theorem escalationExpiry (call : Fin 48) : Statement (.escalationExpiry call) := by
  rintro _ _ ⟨⟩
theorem holdExpiry (e : Fin 32) : Statement (.holdExpiry e) := by
  rintro _ _ ⟨⟩
theorem refreshExpiry (entry : Fin 64) : Statement (.refreshExpiry entry) := by
  rintro _ _ ⟨⟩
theorem beacon : Statement (.beacon) := by
  rintro _ _ ⟨⟩
theorem dark : Statement (.dark) := by
  rintro _ _ ⟨⟩
theorem ack (call gen tag : Byte) : Statement (.ack call gen tag) := by
  rintro _ _ ⟨⟩
theorem badFrame (bytes : List RxByte) : Statement (.badFrame bytes) := by
  rintro _ _ ⟨⟩
theorem interbyteGap : Statement (.interbyteGap) := by
  rintro _ _ ⟨⟩

end Sys2Proof.Laws.Orders
end

