-- ==== Sys2Proof/Laws/Steps.lean ====
section
/-! SUPPORT. Laws of a step: what settling, publishing and the forms of a meaning can do, and the order of
the due list. -/

namespace Sys2Proof.Machine

/-! ### Settling (R142, R126) -/

/-- With nothing handed, settling changes nothing. -/
theorem settleLoop_nil (n : Nat) (s : State) (h : s.handed = []) : settleLoop n s = s := by
  cases n with
  | zero => rfl
  | succ n => simp [settleLoop, h]

/-- With nothing handed, settling changes nothing. -/
theorem settle_nil (s : State) (h : s.handed = []) : settle s = s := settleLoop_nil _ _ h

/-- Settling stops with nothing handed, or has used up its bound. -/
theorem settleLoop_cases (n : Nat) (s : State) :
    (settleLoop n s).handed = [] ∨ ∃ h r, s.handed = h :: r ∧
      (n = 0 ∨ ∃ m, n = m + 1 ∧
        settleLoop n s = settleLoop m (publish (deliver h { s with handed := r }))) := by
  cases hs : s.handed with
  | nil => left; rw [settleLoop_nil _ _ hs]; exact hs
  | cons h r =>
    right
    cases n with
    | zero => exact ⟨h, r, rfl, .inl rfl⟩
    | succ n => exact ⟨h, r, rfl, .inr ⟨n, rfl, by simp [settleLoop, hs]⟩⟩

/-- With nothing handed, closing an event writes the views and does nothing else. -/
theorem closeEvent_nil (s : State) (h : s.handed = []) : closeEvent s = publish s := by
  rw [closeEvent, settle_nil s h]

/-- What holds before an event for each number and is kept by each event and its closing holds after
all of them. -/
theorem eachEvent_induct {P : State → Prop} (f : Nat → State → State) (ks : List Nat) (s : State)
    (h0 : P s) (hf : ∀ k s, k ∈ ks → P s → P (closeEvent (f k s))) : P (eachEvent f ks s) := by
  unfold eachEvent
  induction ks generalizing s with
  | nil => exact h0
  | cons k ks ih =>
    exact ih _ (hf k s List.mem_cons_self h0) fun j t hj => hf j t (List.mem_cons_of_mem _ hj)

/-- Events that keep the outer fields keep them together. -/
theorem eachEvent_outer (f : Nat → State → State) (hf : ∀ k s, (f k s).outer = s.outer)
    (ks : List Nat) (s : State) : (eachEvent f ks s).outer = s.outer := by
  unfold eachEvent
  exact outer_foldl _ (fun s k => by simp [hf]) _ _

/-! ### The forms of a meaning -/

/-- A command's answer is always a next state: the effect on the settled state, with the views. -/
theorem act_next (f : State → State) (s : State) : act f s = .next (publish (f (settle s))) := rfl

/-- With nothing handed, a command acts on the state as it stands. -/
theorem act_quiet (f : State → State) (s : State) (h : s.handed = []) :
    act f s = .next (publish (f s)) := by rw [act_next, settle_nil s h]

/-- A thing handed that a command acts on leaves the list of things handed. -/
theorem deliverFirst_head (t : Handed → Bool) (s : State) (h : Handed) (r : List Handed)
    (hs : s.handed = h :: r) (ht : t h = true) :
    deliverFirst t s = deliver h { s with handed := r } := by
  simp [deliverFirst, hs, takeFirst, ht]

/-! ### The gallery mode and the pin keep the fields outside the exhibits -/

@[simp] theorem holdGallery_outer (s : State) : (holdGallery s).outer = s.outer :=
  eachEvent_outer _ (fun _ _ => by simp) _ _

@[simp] theorem releaseGallery_outer (s : State) : (releaseGallery s).outer = s.outer :=
  eachEvent_outer _ (fun _ _ => by simp) _ _

/-- Entering HALT sets the mode, whatever it was (R38). -/
theorem enterHalt_mode (s : State) : (enterHalt s).mode = .halt := by
  unfold enterHalt
  split
  · assumption
  · exact (outer_mode (holdGallery_outer _)).trans rfl

/-! ### The order unit's own steps -/

/-- A step of the queue runs the command at its front. -/
theorem step_cons (c : Instr) (r : List Instr) (s : State) (h : s.pending = c :: r) :
    step s = exec c { s with pending := r } := by simp [step, h]

/-- A frame is read field by field. -/
theorem KeptBut.of_kept {fs : List Field} {s t : State} (h : KeptBut fs s t) (f : Field)
    (hf : f ∉ fs) : Field.kept f s t := h f hf

/-- Equal outer fields give the frame of the exhibits' fields, once the take's own are added. -/
theorem keptBut_of_outer {s t : State} (h : t.outer = s.outer) : KeptBut exhibitFields s t := by
  intro f hf
  have := h
  simp only [State.outer, Outer.mk.injEq] at this
  cases f <;> first | (exact absurd (by decide) hf) | simp_all [Field.kept]

/-! ### The order of the due list -/

/-- Placing an entry in the due list adds it and keeps the others. -/
theorem insertDue_perm (now : Tick) (d : DueEntry) (l : List DueEntry) :
    (insertDue now d l).Perm (d :: l) := by
  induction l with
  | nil => exact .refl _
  | cons x r ih =>
    unfold insertDue
    split
    · exact (ih.cons x).trans (.swap d x r)
    · exact .refl _

/-- Placing an entry keeps the due list in order. -/
theorem insertDue_sorted (now : Tick) (d : DueEntry) (l : List DueEntry)
    (h : l.Pairwise (fun a b => dueOffset now a.due ≤ dueOffset now b.due)) :
    (insertDue now d l).Pairwise (fun a b => dueOffset now a.due ≤ dueOffset now b.due) := by
  induction l with
  | nil => simp [insertDue]
  | cons x r ih =>
    rw [List.pairwise_cons] at h
    unfold insertDue
    split
    next hx =>
      refine List.pairwise_cons.2 ⟨fun b hb => ?_, ih h.2⟩
      rcases List.mem_cons.1 ((insertDue_perm now d r).mem_iff.1 hb) with rfl | hb
      · exact hx
      · exact h.1 b hb
    next hx =>
      refine List.pairwise_cons.2 ⟨fun b hb => ?_, List.pairwise_cons.2 h⟩
      have hd : dueOffset now d.due ≤ dueOffset now x.due := by omega
      rcases List.mem_cons.1 hb with rfl | hb
      · exact hd
      · exact hd.trans (h.1 b hb)

/-- What putting a due list in order does: the same entries, in the order of their offsets. -/
theorem sortDue_spec (now : Tick) (l : List DueEntry) :
    (sortDue now l).Perm l ∧
      (sortDue now l).Pairwise (fun a b => dueOffset now a.due ≤ dueOffset now b.due) := by
  suffices h : ∀ acc : List DueEntry,
      acc.Pairwise (fun a b => dueOffset now a.due ≤ dueOffset now b.due) →
      (l.foldl (fun acc d => insertDue now d acc) acc).Perm (acc ++ l) ∧
        (l.foldl (fun acc d => insertDue now d acc) acc).Pairwise
          (fun a b => dueOffset now a.due ≤ dueOffset now b.due) from h [] .nil
  induction l with
  | nil => intro acc h; exact ⟨by simp, h⟩
  | cons d r ih =>
    intro acc h
    obtain ⟨hp, hs⟩ := ih (insertDue now d acc) (insertDue_sorted now d acc h)
    refine ⟨hp.trans ?_, hs⟩
    exact ((insertDue_perm now d acc).append_right r).trans (List.perm_middle.symm)

end Sys2Proof.Machine
end

