-- ==== Sys2Proof/Tests/Slice0.lean ====
section
/-! SUPPORT. Tests: the checks of well-formedness, worked examples of the reference, and a witness for the
hypotheses of each statement. -/

namespace Sys2Proof.Tests

open Machine

-- The tests run in the kernel one after another.
set_option Elab.async false

/-! ### Well-formedness: an ill-formed command for each check -/

/-- An order's head: slot, exhibit field, flags, due tick. -/
def hd (k : Fin 32) (e : Byte) (flags : Byte := 0) (due : Tick := 0) : OrderHead :=
  ⟨k, flags, e, 0x1234, due⟩

/-- A reply timeout that is not a multiple of 50. -/
theorem test_parameters_out_of_range : (Instr.setStationLink (hd 0 0) 1 425 2).wellFormed = false := by
  decide

/-- RELEASE carries no due tick. -/
theorem test_due_tick_not_allowed : (Instr.release (hd 0 5 1 9000)).wellFormed = false := by decide

/-- STOP EXHIBIT may carry one. -/
theorem test_due_tick_allowed : (Instr.stopExhibit (hd 0 31 1 9000)).wellFormed = true := by decide

theorem test_exhibit_out_of_range : (Instr.homeExhibit (hd 0 32)).wellFormed = false := by decide

theorem test_clears_nothing : (Instr.noticeClear 0).wellFormed = false := by decide

theorem test_no_bytes : (Instr.reply []).wellFormed = false := by decide

theorem test_good_ack_is_no_bad_frame :
    (Instr.badFrame (ackFrame 3 1 0xB2)).wellFormed = false := by decide

/-! ### States for the tests -/

/-- The state a command answers. -/
def after1 (i : Instr) (s : State) : State :=
  match exec i s with
  | .next t => t
  | .fault _ => s
  | .refused _ => s

/-- An axis as in section 7.14's example: acceleration step 100, limits -2000 to 30,000. -/
def axA : AxisRec := ⟨0, 6, 1, 40, 10, 200, 2000, 100, -2000, 30000, 0, .towardLow, 400, 14, false⟩

/-- A second axis, with the confirm flag set. -/
def axB : AxisRec := ⟨1, 7, 1, 30, 5, 100, 1000, 50, 0, 8000, 0, .towardLow, 300, 13, true⟩

/-- An energised channel of exhibit 5 at rest. -/
def rest5 (a : AxisRec) : Channel :=
  { Channel.fresh with owner := some 5, slot := a.slot, axis := some a, energised := true }

/-- Exhibit 5 in a state, with or without its two axes. -/
def ex5 (st : ExState) (axes : List AxisRec := [axA, axB]) : Exhibit :=
  { Exhibit.absent with state := st, access := 5, axes := axes, call := ⟨3, 2, true⟩, units := 15 }

/-- A gallery with one exhibit, number 5, and its two channels. -/
def hall (x : Exhibit) (a b : Channel) : State :=
  { State.reset with
      tick := 5000, exhibits := [(5, x)], channels := [(6, a), (7, b)],
      groups := [(1, ⟨160, 15, [], none⟩)] }

/-- Exhibit 5 with both axes at rest. -/
def quiet (st : ExState) : State := hall (ex5 st) (rest5 axA) (rest5 axB)

/-- A waypoint of both axes with a dwell of one second and cue line 2. -/
def wp : Waypoint := ⟨3, [100, 200, 0, 0], 100, 1000, 10, 2, false⟩

/-- A run of routine 0 on its first waypoint. -/
def run0 (p : RunPhase) : Run := ⟨0, 0, some 1, .order 4, false, false, p, none, none, false, [], 0⟩

/-- Routine 0 installed with two waypoints and named once, and routine 63 installed and not named. -/
def withRoutines (s : State) : State :=
  { s with routines := [(0, ⟨some ⟨2, 1, false, 0, 0⟩, 1, none⟩), (63, ⟨some ⟨1, 1, false, 0, 2⟩, 0, none⟩)],
           pool := [(0, wp), (1, wp), (2, wp)] }

/-- Exhibit 5 RUNNING on routine 0. -/
def runs (p : RunPhase) (a b : Channel) : State :=
  withRoutines (hall { ex5 .running with run := some (run0 p) } a b)

/-- A channel of an axis on the way to 100 steps. -/
def onWay (a : AxisRec) (p : Int) (v : Nat) : Channel :=
  { rest5 a with state := .moving, kind := some .waypoint, phase := some .rampUp, p := p, v := v,
                 target := some 100, vc := 2000, exp := 10 }

/-- A channel with a HOMING move. -/
def homing (a : AxisRec) : Channel :=
  { rest5 a with state := .moving, kind := some .homing, phase := some .rampUp, p := 5000, v := 200,
                 dir := .down, vc := 400, exp := 14 }

/-- The classes of exhibit 5's inputs, from input 40: each class but BUTTON stands for two inputs. -/
def classes5 : List InputClass := [.button, .guardHold, .guardTrip, .mat, .mat, .key, .key, .button]

/-- A gallery, made OPEN, in which exhibit 5 owns inputs 40 to 47, some of them active, with one token in
every bucket and one press-map entry. -/
def arcade (m : MapEntry) (on : List Nat) (s : State) : State :=
  { withRoutines s with
      mode := .open,
      exhibits := [(5, { s.ex 5 with stations := some ⟨40, 8, 4, 10, classes5⟩, pressMap := [m] })],
      inputs := (List.range 8).map (fun k => (40 + k,
        { Input.fresh with owner := some 5, accepted := on.contains (40 + k), bucket := some ⟨1, none⟩ })) }

/-- A press-map entry of input 40 that starts routine 63. -/
def starts (p : BusyPolicy) : MapEntry := ⟨40, .start, 63, p⟩

/-- A press-map entry of input 40 with another action. -/
def acts (a : PressAction) : MapEntry := ⟨40, a, 0, .ignore⟩

/-- A state with group 1's budget changed, 15 units granted and nothing waiting. -/
def tight (budget : Nat) (s : State) : State := { s with groups := [(1, ⟨budget, 15, [], none⟩)] }

/-- Exhibit 5 RUNNING with both axes on the way. -/
def moves5 : State := runs .moving (onWay axA 0 500) (onWay axB 0 100)

/-- A state whose views are written and whose notices are clear. -/
def noticed (s : State) : State := { publish s with notice := 0 }

/-! ### Worked examples of the reference, one step each -/

/-- Axis slot 0's channel after a tick of section 7.14's table: target 5 steps, Vc 1,000, exponent 4. -/
def move714 (p : Int) (v n : Nat) (ph : Phase) : Channel :=
  { rest5 axA with state := .moving, kind := some .waypoint, phase := some ph, p := p, v := v,
                   target := some 5, vc := 1000, counter := n, exp := 4 }

/-- Section 7.14, tick 7: RAMP DOWN latches, v′ 600, p 3,300, counter 7, and one pulse is issued. -/
theorem test_ramp_down_latches :
    (after1 (.motionTick 6) (runs .moving (move714 2700 700 6 .rampUp) (rest5 axB))).ch 6 =
      { move714 3300 600 7 .rampDown with pulses := 1 } := by decide +kernel

/-- Section 7.14, tick 11: the latch keeps the axis decelerating although s < r. -/
theorem test_latch_holds :
    (after1 (.motionTick 6) (runs .moving (move714 4500 300 10 .rampDown) (rest5 axB))).ch 6 =
      { move714 4700 200 11 .rampDown with pulses := 0 } := by decide +kernel

/-- Section 7.15, tick 8 of braking: v′ 300, p 3,200, counter still 5, and one pulse. -/
theorem test_braking_slows :
    (after1 (.brakingTick 6) (runs .moving
      { move714 2900 400 5 .rampUp with state := .braking } (onWay axB 0 100))).ch 6 =
      { move714 3200 300 5 .rampUp with state := .braking, pulses := 1 } := by decide +kernel

/-- Section 7.14, the longer move: the counter reaches 15 with the axis MOVING and the fault is
SEGMENT OVERRUN at 11 steps. -/
theorem test_segment_overrun :
    (after1 (.motionTick 6) (runs .moving
      { move714 10400 1000 14 .cruise with target := some 20 } (rest5 axB))).handed =
      [.overrun 5 ⟨.segmentOverrun, 0, 6, 11, 1000⟩] := by decide +kernel

/-- Section 10.5, second row: the report reaches an empty record: state before RUNNING, FAULTED, the run
units returned and the hold units kept. -/
theorem test_overrun_captured :
    let s := { runs .moving (onWay axA 0 500) (rest5 axB) with
      handed := [.overrun 5 ⟨.segmentOverrun, 1, 7, 8000, 0⟩] }
    let t := after1 (.deadlineOverrun 7)
      { s with exhibits := [(5, { s.ex 5 with units := 70 })], groups := [(1, ⟨160, 70, [], none⟩)] }
    (t.ex 5).state = .faulted ∧ (t.ex 5).units = 15 ∧ (t.group 1).granted = 15 ∧
      (t.ex 5).capture.map (·.before) = some .running := by decide +kernel

/-- Section 2.8, second row: a hold of a moving exhibit brakes it toward HELD. -/
theorem test_hold_brakes :
    let t := after1 (.hold (hd 1 5)) (runs .moving (onWay axA 0 500) (rest5 axB))
    (t.ex 5).state = .braking ∧ (t.ex 5).target = some .held ∧ (t.ex 5).heldAct = some .running ∧
      (t.ch 6).state = .braking := by decide +kernel

/-- Section 2.8, seventh row: SET GALLERY MODE OPEN with the pin low is refused with STATE. -/
theorem test_open_refused_pin_low :
    ((after1 (.setGalleryMode (hd 1 0) 1) { quiet .held with haltPin := false, mode := .halt }).slot
      1).acceptance = .state := by decide +kernel

/-- Section 8.8: exhibit 20 asked for 60 in a group of 120 with 110 granted; a return of 55 grants it, and
exhibit 3's 30 then does not fit. -/
theorem test_rotation :
    let s := { State.reset with
      exhibits := [(3, ex5 .running [{ axA with group := 2 }]),
        (9, { ex5 .running [{ axA with group := 2 }] with units := 70 }),
        (20, ex5 .running [{ axA with group := 2 }])],
      groups := [(2, ⟨120, 110, [⟨3, 30, .waypoint⟩, ⟨20, 60, .waypoint⟩], some 12⟩)] }
    (returnUnits 9 55 s).group 2 = ⟨120, 115, [⟨3, 30, .waypoint⟩], some 20⟩ := by decide +kernel

/-- Zone 3 of section 9.8. -/
def zone3 : Zone := ⟨true, [10, 11], [20], 30, 60, 4, 4, 12, 120⟩

/-- Section 9.8 at tick 0: the HELP call of exhibit 5, with both tier-1 beacons lit. -/
def ringing : State :=
  { hall { ex5 .ready with causes := [⟨.help, .entered 0⟩] } (rest5 axA) (rest5 axB) with
      tick := 0, zones := [(3, zone3)],
      calls := [(0, ⟨1, some ⟨5, .help, 2, 1, 0, 0, some 30000, 0, none⟩⟩)],
      beacons := [(0, ⟨10, true, some 0, some 4, none, true, false, false, false⟩),
        (1, ⟨11, true, some 0, some 4, none, true, false, false, false⟩),
        (2, ⟨20, true, none, none, none, false, false, false, false⟩)] }

/-- Section 9.8: the first BEACON goes to address 10 with pattern 4, call 0, generation 1. -/
theorem test_beacon_frame :
    (after1 .beacon ringing).attTx = [0x55, 1, 4, 10, 4, 0, 1, 0xEC] := by decide +kernel

/-- Section 9.8 at tick 30,000: tier 2 with the next expiry at 90,000, and address 20 lit. -/
theorem test_escalation :
    let t := after1 (.escalationExpiry 0) { ringing with tick := 30000 }
    (t.callEntry 0).call.map (fun c => (c.tier, c.escalation)) = some (2, some 90000) ∧
      (t.beacon 2).pattern = some 4 := by decide +kernel

/-- Section 9.8 at tick 95,000: the acknowledgement shows pattern 12 and holds until 215,000. -/
theorem test_ack :
    let t := after1 (.ack 0 1 7) { ringing with tick := 95000 }
    (t.callEntry 0).call.map (·.ack) = some (some ⟨95000, .frame, 7, some 215000⟩) ∧
      (t.beacon 0).pattern = some 12 := by decide +kernel

/-- Section 9.8 at tick 216,300: a late ACK of an old generation is stale. -/
theorem test_stale_ack : (after1 (.ack 0 0 7) ringing).staleAcks = 1 := by decide +kernel

/-- Section 5.9 at tick 1,250: the linger expiry hands page 0 over with 3 records. -/
theorem test_linger :
    let t := after1 .lingerExpiry { State.reset with
      tick := 1250, curPage := some 0, linger := some 1250, pages := [(0, ⟨.filling, 3, 0, 0, []⟩)] }
    t.page 0 = ⟨.ready, 3, 0, 1250, []⟩ ∧ t.curPage = none ∧ t.notice = 2 := by decide +kernel

/-- Section 4.10 at tick 500: one token is added and the next expiry is 1,000. -/
theorem test_refill :
    ((after1 (.refillExpiry 40) { State.reset with
      tick := 500, exhibits := [(5, { ex5 .running with stations := some ⟨40, 1, 4, 10, [.button]⟩ })],
      inputs := [(40, { Input.fresh with owner := some 5, bucket := some ⟨0, some 500⟩ })] }).inp
        40).bucket = some ⟨1, some 1000⟩ := by decide +kernel

/-- Section 3.9: the third miss in a row makes an ANSWERING node SILENT with both counts 0. -/
theorem test_third_miss :
    (after1 .replyTimeout { State.reset with
      linkMask := 0x20, window := some ⟨6, 400, []⟩, nodes := [(6, ⟨.answering, 2, 2, 0, 0⟩)] }).node 6 =
      ⟨.silent, 3, 0, 0, 0⟩ := by decide +kernel

/-- R50: a POLL of node 6 with every lamp off is SYNC 0xC3, the address, the lamp byte, and a CHECK that makes
the last three bytes sum to 0. -/
theorem test_poll :
    (after1 .poll { State.reset with linkMask := 0x20 }).linkTx = [0xC3, 6, 0, 0xFA] := by
  decide +kernel

/-- R64, R85: a reply with two presses places two records, each an event that rewrites the header. -/
theorem test_two_records_two_rewrites :
    let s := noticed { State.reset with
      linkMask := 0x20, depth := 1, window := some ⟨6, 400, []⟩, nodes := [(6, ⟨.answering, 0, 0, 0, 0⟩)] }
    (after1 (.reply [⟨0x3C, true⟩, ⟨6, true⟩, ⟨3, true⟩, ⟨0, true⟩, ⟨0xF7, true⟩]) s).views.header.edit =
      s.views.header.edit + 4 := by decide +kernel

/-- R160, R168: two bad frames in the bytes of one command are two changes of the bad-frame count, each of
which rewrites the header. -/
theorem test_two_bad_frames_two_rewrites :
    let s := noticed State.reset
    let bad : List RxByte := [⟨0x55, true⟩, ⟨0x81, false⟩]
    let t := after1 (.badFrame (bad ++ bad)) s
    t.badFrames = 2 ∧ t.views.header.edit = s.views.header.edit + 4 ∧ t.notice = noticeCalls := by
  decide +kernel

/-- R19: SET ACCESS sets EXHIBITS where the mask stays as it was. -/
theorem test_same_access_notice :
    (after1 (.setAccess (hd 7 5) 5) (noticed (quiet .ready))).notice.getLsbD 3 = true := by decide +kernel

/-- R190 step 4: a due tick that the new tick puts behind it is performed, beside an entry not yet due. -/
theorem test_set_clock_wraps_a_due_tick :
    let s := { quiet .ready with
      tick := 0, dueList := [⟨1, 100, hostFieldsOf (hd 1 5 1 100) (.setLamps 5)⟩,
        ⟨2, 0x7FFFFFFF, hostFieldsOf (hd 2 5 1 0x7FFFFFFF) (.setLamps 5)⟩] }
    let t := after1 (.setClock (hd 7 0) 0xFFFFFF00) s
    (t.slot 2).state = .done ∧ t.dueList.map (·.slot) = [1] := by decide +kernel

/-- Section 6.7: with routine 12 at places 0-4 and routine 3 at 5-14, first fit finds 15, and 1,009 places
are free. -/
theorem test_first_fit :
    let s := { State.reset with
      routines := [(3, ⟨some ⟨10, 1, false, 0, 5⟩, 0, none⟩), (12, ⟨some ⟨5, 1, false, 0, 0⟩, 2, none⟩)] }
    firstFit 6 s = some 15 ∧ freePlaces s = 1009 ∧ largestFree s = 1009 := by decide +kernel

/-- Section 11.6: SET CONTROL completes DONE with the previous mask, and DENIED is the outcome for a
source outside the mask (R186). -/
theorem test_set_control :
    ((after1 (.setControl (hd 7 0) 2) State.reset).slot 7).result = 1 ∧
      ((after1 (.setControl (hd 8 0) 2) State.reset).slot 8).acceptance = .denied := by decide +kernel

/-! ### Witnesses: for each statement with hypotheses, a state and operands that meet those of each clause -/

theorem witness_StepRunsFront :
    ({ State.reset with pending := [.scanOrders, .take] }).pending = .scanOrders :: [.take] := rfl

theorem witness_IdleStepCountsTick : State.reset.pending = [] := rfl

/-- A state that a step changes in what the invariants speak of. -/
def stirred : State :=
  { ringing with
      pending := [.hostWrite 0x4000 (.byte 7)], mem := [(0x4001, 9)], control := 3,
      inputs := [(40, { Input.fresh with presses := 7, acted := 5, suppressed := 2 })],
      dueList := [⟨4, 9000, hostFieldsOf (hd 4 5 1 9000) .stop⟩] }

theorem witness_StepKeepsMemoryCanonical :
    MemoryCanonical stirred ∧ ((after1 (.hostWrite 0x4000 (.byte 7)) stirred).mem =
      [(0x4000, 7), (0x4001, 9)]) := by decide +kernel

theorem witness_StepAnswersNext :
    (∃ t, step stirred = .next t) ∧ (∃ t, step (publish stirred) = .next t) := ⟨⟨_, rfl⟩, ⟨_, rfl⟩⟩

theorem witness_StepKeepsTallies : TalliesAgree stirred := by
  intro i
  by_cases h : 40 = i
  · subst h; decide +kernel
  · simp [stirred, State.inp, lookup, h, Input.fresh]

theorem witness_StepKeepsOrderUnitSound : OrderUnitSound stirred := by decide +kernel

theorem witness_StepKeepsViewsCurrent : ViewsCurrent (publish stirred) := by decide +kernel

theorem witness_RegisterCommandsAct : ViewsCurrent (settle (publish stirred)) := by decide +kernel

/-- Offsets 0 and 15 are not named; 3 sets both bits of CONTROL, 1 and 2 one each, and 252 none. -/
theorem witness_RegisterWriteActsByOffset :
    ((15 : Fin 16).val ≠ 2 ∧ (15 : Fin 16).val ≠ 8 ∧ (0 : Fin 16).val ≠ 2) ∧
    ((2 : Fin 16).val = 2 ∧ (4 : Fin 16).val = 4 ∧ (6 : Fin 16).val = 6 ∧ (8 : Fin 16).val = 8) ∧
    ((252 : Byte).getLsbD 0 = false ∧ (252 : Byte).getLsbD 1 = false) ∧
    ((1 : Byte).getLsbD 0 = true ∧ (1 : Byte).getLsbD 1 = false) ∧
    ((2 : Byte).getLsbD 0 = false ∧ (2 : Byte).getLsbD 1 = true) ∧
    ((3 : Byte).getLsbD 0 = true ∧ (3 : Byte).getLsbD 1 = true) := by decide

theorem witness_HaltEventsHoldTheGallery :
    ((settle (quiet .ready)).mode ≠ .halt ∧ (settle (quiet .ready)).haltPin = true ∧
      ((settle (quiet .ready)).ex 5).installed = true ∧
      ((settle (quiet .ready)).ex 5).retire = none) ∧
    (settle { quiet .ready with mode := .halt, haltPin := false }).mode = .halt ∧
    (settle { quiet .ready with mode := .halt, haltPin := false }).haltPin = false := by decide +kernel

/-- The first and the last byte of the two areas, and of the areas that discard. -/
theorem witness_HostWriteStoresItsBytes :
    (0x4000 ≤ (0x4000 : Half).toNat ∧ (0x4000 : Half).toNat < 0xC000) ∧
    (0x4000 ≤ (0xBFFF : Half).toNat ∧ (0xBFFF : Half).toNat < 0xC000) ∧
    (0x4000 ≤ (0xBFFE : Half).toNat ∧ (0xBFFE : Half).toNat + 1 < 0xC000) ∧
    ((0x1FF : Half).toNat < 0x200) ∧ (0xA00 ≤ (0x2FFF : Half).toNat ∧ (0x2FFF : Half).toNat < 0x3000) ∧
    (0xC000 ≤ (0xFFEF : Half).toNat ∧ (0xFFEF : Half).toNat < 0xFFF0) := by decide

/-- A gallery whose slot 31 is in a state. -/
def slot31 (st : SlotState) : State :=
  { State.reset with slots := [(31, { Slot.zero with state := st })] }

theorem witness_HostWriteReachesHostFields :
    ((63 : Fin 64).val ≠ 2 ∧ 26 ≤ (63 : Fin 64).val ∧ 26 ≤ (26 : Fin 64).val ∧ (25 : Fin 64).val < 26 ∧
      12 ≤ (12 : Fin 64).val ∧ (1 : Fin 64).val < 2) ∧
    (6 ≤ (6 : Fin 64).val ∧ (7 : Fin 64).val ≤ 7) ∧ (8 ≤ (8 : Fin 64).val ∧ (11 : Fin 64).val ≤ 11) ∧
    ((settle (slot31 .taken)).slot (31 : Fin 32).val).state = .taken ∧
    ((settle (slot31 .done)).slot (31 : Fin 32).val).state ≠ .taken := by decide +kernel

theorem witness_JournalPagesChangeHands :
    (settle { State.reset with curPage := some 7, linger := some 0 }).curPage = some 7 ∧
    dueNow (settle { State.reset with linger := some 0 }).tick
      (settle { State.reset with linger := some 0 }).linger = true ∧
    dueNow (settle { State.reset with linger := some 1 }).tick
      (settle { State.reset with linger := some 1 }).linger = false := by decide +kernel

/-- Page 7 with 30 records; page 0 is FREE, or every page is not. -/
def page30 (others : List (Nat × Page)) : State :=
  { State.reset with
      curPage := some 7, lastPage := some 7, pages := others ++ [(7, ⟨.filling, 30, 0, 0, []⟩)] }

theorem witness_ThirtyFirstRecordHandsOver :
    (page30 []).curPage = some 7 ∧ ((page30 []).page 7).count = 30 ∧
    freePage (placeRecord .zero (page30 [])) = some 0 ∧
    freePage (placeRecord .zero (page30
      ((List.range 7).map (fun k => (k, { Page.fresh with state := .ready }))))) = none := by
  decide +kernel

theorem witness_ScanRequestStartsPass :
    ((settle { State.reset with scanKept := true }).scanKept = true ∧
      (settle { State.reset with scanKept := true }).pass = none) ∧
    (settle State.reset).scanKept = false ∧
    (settle { slot31 .posted with pass := some [30, 31] }).pass = some [30, 31] ∧
    (∃ k ∈ [30, 31], ((settle { slot31 .posted with pass := some [30, 31] }).slot k).state = .posted) := by
  decide +kernel

theorem witness_TakeTakesNextPosted :
    ((settle { slot31 .posted with pass := some ([30] ++ 31 :: [0]) }).pass = some ([30] ++ 31 :: [0]) ∧
      (∀ j ∈ [30], ((settle { slot31 .posted with pass := some ([30] ++ 31 :: [0]) }).slot j).state ≠
        .posted) ∧
      ((settle { slot31 .posted with pass := some ([30] ++ 31 :: [0]) }).slot 31).state = .posted ∧
      readOrder (Slot.zero).host.kind (Slot.zero).host.params = none) ∧
    ((settle { State.reset with pass := some [30, 31] }).pass = some [30, 31] ∧
      ∀ j ∈ [30, 31], ((settle { State.reset with pass := some [30, 31] }).slot j).state ≠ .posted) ∧
    (settle State.reset).pass = none := by decide +kernel

/-- Slot 7 is source 0 and slot 16 source 2, which exhibit 5's mask holds; slots 8 and 15 are source 1,
which neither mask holds. -/
theorem witness_ChecksRefuseInOrder :
    ((settle (slot31 .taken)).slot (hd 31 5).slot.val).state = .taken ∧
    SlotOpen (settle (quiet .ready)) (hd 7 5) ∧ scopeOf (.setLamps 1) = .exhibit ∧
    31 < OrderHead.ex (hd 7 32) ∧
    ((settle (quiet .ready)).ex (OrderHead.ex (hd 7 31))).installed = false ∧
    ((settle (hall { ex5 .ready with retire := some 3 } (rest5 axA) (rest5 axB))).ex
      (OrderHead.ex (hd 7 5))).retire.isSome = true ∧
    NamesExhibit (settle (quiet .ready)) (hd 8 5) ∧
    ((settle (quiet .ready)).ex (OrderHead.ex (hd 8 5))).access.getLsbD
      (sourceOf (hd 8 5).slot.val) = false ∧
    MayOrderExhibit (settle (quiet .ready)) (hd 16 5 1 0) ∧ paramsOk (.setLamps 1) = false ∧
    dueAllowed .hold = false ∧ ¬ Untimed (hd 16 5 1 0) ∧ paramsOk .stop = true ∧
    dueAllowed .stop = true ∧ scopeOf (.setControl 0) = .gallery ∧
    (settle (quiet .ready)).control.getLsbD (sourceOf (hd 8 0).slot.val) = false ∧
    MayOrderGallery (settle (quiet .ready)) (hd 7 0) ∧ paramsOk (.setControl 0) = false := by
  decide +kernel

/-- A due list of 16 orders. -/
def fullList : State :=
  { quiet .ready with dueList := List.replicate 16 ⟨1, 9000, hostFieldsOf (hd 1 5 1 9000) .stop⟩ }

theorem witness_ChecksRefuseInOrder_full :
    MayOrderExhibit (settle fullList) (hd 16 5 1 9000) ∧ ¬ Untimed (hd 16 5 1 9000) ∧
    16 ≤ (settle fullList).dueList.length ∧ OrderUnitSound (settle fullList) := by decide +kernel

theorem witness_ChecksRefuseInOrder_kinds :
    (∀ o, OrderBody.setControl 0 ≠ .bringUp o) ∧ (∀ m, OrderBody.setControl 0 ≠ .setAccess m) ∧
    (∀ r o, OrderBody.setControl 0 ≠ .commit r o) := ⟨nofun, nofun, nofun⟩

/-- A denial capture that is filled. -/
def denial1 : Denial := ⟨1, 0, 7, 5, 0, 0, 255⟩

theorem witness_DenialCaptureKeepsTheFirst :
    (SlotOpen (settle (quiet .ready)) (hd 15 5) ∧ NamesExhibit (settle (quiet .ready)) (hd 15 5) ∧
      ((settle (quiet .ready)).ex (OrderHead.ex (hd 15 5))).access.getLsbD
        (sourceOf (hd 15 5).slot.val) = false ∧ (settle (quiet .ready)).denial = none) ∧
    (settle (quiet .ready)).control.getLsbD (sourceOf (hd 15 0).slot.val) = false ∧
    (settle { quiet .ready with denial := some denial1 }).denial = some denial1 := by decide +kernel

/-- A due list that holds one SET LAMPS of slot 1. -/
def listed (due : Tick) : State :=
  { quiet .ready with dueList := [⟨1, due, hostFieldsOf (hd 1 5 1 due) (.setLamps 5)⟩] }

theorem witness_DueListHoldsAndPerforms :
    (MayOrderExhibit (settle (listed 9000)) (hd 2 5 1 5001) ∧ scopeOf (.setLamps 5) = .exhibit ∧
      dueAllowed (.setLamps 5) = true ∧ paramsOk (.setLamps 5) = true ∧ ¬ Untimed (hd 2 5 1 5001) ∧
      (settle (listed 9000)).dueList.length < 16 ∧
      isDue (settle (listed 9000)).tick (hd 2 5 1 5001).due = false) ∧
    ((settle (listed 5001)).dueList = [⟨1, 5001, hostFieldsOf (hd 1 5 1 5001) (.setLamps 5)⟩] ∧
      isDue (settle (listed 5001)).tick 5001 = false) ∧
    ((settle (listed 5000)).dueList = [⟨1, 5000, hostFieldsOf (hd 1 5 1 5000) (.setLamps 5)⟩] ∧
      isDue (settle (listed 5000)).tick 5000 = true ∧
      readOrder (hostFieldsOf (hd 1 5 1 5000) (.setLamps 5)).kind
        (hostFieldsOf (hd 1 5 1 5000) (.setLamps 5)).params = some (.setLamps 5) ∧
      lampFrom (5 : Byte).toNat = some (some .off) ∧
      (hostFieldsOf (hd 1 5 1 5000) (.setLamps 5)).exhibit.toNat ≤ 31 ∧
      ((settle (listed 5000)).ex 5).installed = true ∧ ((settle (listed 5000)).ex 5).retire = none ∧
      ((settle (listed 5000)).ex 5).access.getLsbD (sourceOf 1) = true) ∧
    (settle State.reset).dueList = [] := by decide +kernel

/-- At tick 5,000, the due tick exactly 2^31 ahead: not due, before an entry that is not due either, and
first in the list before one that is due. -/
theorem witness_DueListHoldsAndPerforms_boundary :
    let far : Tick := 5000 + 0x80000000
    let entry := fun (k : Nat) (x : Tick) => DueEntry.mk k x (hostFieldsOf (hd 1 5 1 x) (.setLamps 5))
    (MayOrderExhibit (settle (listed 9000)) (hd 2 5 1 far) ∧ ¬ Untimed (hd 2 5 1 far) ∧
      isDue (settle (listed 9000)).tick far = false ∧
      insertDue 5000 (entry 2 far) (settle (listed 9000)).dueList = [entry 2 far, entry 1 9000]) ∧
    ((settle { listed 9000 with dueList := [entry 1 far, entry 2 4999] }).dueList =
        [entry 1 far, entry 2 4999] ∧
      isDue (settle { listed 9000 with dueList := [entry 1 far, entry 2 4999] }).tick far = false ∧
      isDue (settle { listed 9000 with dueList := [entry 1 far, entry 2 4999] }).tick 4999 = true) := by
  decide +kernel

theorem witness_SetLampsSetsTheOverride :
    MayOrderExhibit (settle (quiet .ready)) (hd 23 5) ∧ Untimed (hd 23 5) ∧
    lampFrom (0 : Byte).toNat = some none ∧ lampFrom (5 : Byte).toNat = some (some .off) := by
  decide +kernel

theorem witness_MasksAreReplaced :
    MayOrderGallery (settle (quiet .ready)) (hd 7 5) ∧ NamesExhibit (settle (quiet .ready)) (hd 7 5) ∧
    Untimed (hd 7 5) ∧ (15 : Byte).toNat < 16 ∧ 1 ≤ (1 : Byte).toNat ∧ 16 ≤ (16 : Byte).toNat := by
  decide +kernel

theorem witness_GalleryModeIsSet :
    (MayOrderGallery (settle (quiet .ready)) (hd 7 0) ∧ Untimed (hd 7 0) ∧ (2 : Byte).toNat ≤ 2 ∧
      (1 : Byte).toNat ≠ 2 ∧ (settle (quiet .ready)).haltPin = true ∧
      (settle (quiet .ready)).mode ≠ .halt) ∧
    (MayOrderGallery (settle { quiet .held with haltPin := false, mode := .halt }) (hd 7 0) ∧
      (settle { quiet .held with haltPin := false, mode := .halt }).haltPin = false) ∧
    (settle { quiet .held with mode := .halt }).mode = .halt ∧
    (settle { quiet .held with mode := .halt }).haltPin = true := by decide +kernel

/-- Exhibit 5 READY with hold reasons. -/
def heldFor (h : HoldReasons) : State := hall { ex5 .ready with hold := h } (rest5 axA) (rest5 axB)

theorem witness_HoldAndReleaseChangeTheReasons :
    MayOrderExhibit (settle (quiet .running)) (hd 7 5) ∧ Untimed (hd 7 5) ∧
    ((settle (quiet .running)).ex (OrderHead.ex (hd 7 5))).hold.order = false ∧
    ((settle (heldFor ⟨true, true, false⟩)).ex (OrderHead.ex (hd 7 5))).hold.order = true ∧
    ((settle (heldFor ⟨true, true, false⟩)).ex (OrderHead.ex (hd 7 5))).hold.guard = true := by
  decide +kernel

/-- A guard of either class of an exhibit at rest, and of a moving one. -/
theorem witness_HoldAndReleaseChangeTheReasons_guards :
    (((arcade (acts .note) [] (quiet .ready)).inp 41).owner = some 5 ∧
      (arcade (acts .note) [] (quiet .ready)).classOf 41 = some .guardHold ∧
      (arcade (acts .note) [] (quiet .ready)).classOf 42 = some .guardTrip ∧
      (arcade (acts .note) [] (quiet .ready)).anyMoving 5 = false ∧
      ((arcade (acts .note) [] (quiet .ready)).ex 5).state = .ready ∧
      ((arcade (acts .note) [] (heldFor ⟨true, false, false⟩)).ex 5).hold.guard = true) ∧
    (((arcade (acts .note) [] moves5).ex 5).installed = true ∧
      ((arcade (acts .note) [] moves5).ex 5).retire = none ∧
      ((arcade (acts .note) [] moves5).ex 5).state = .running ∧
      (arcade (acts .note) [] moves5).anyMoving 5 = true ∧
      ((arcade (acts .note) [] moves5).ex 5).hold.guard = false) ∧
    (axA ∈ ((arcade (acts .note) [] moves5).ex 5).axes ∧
      ((arcade (acts .note) [] moves5).ch axA.channel).isMoving = true ∧ axA.slot < 4 ∧
      (∀ b ∈ ((arcade (acts .note) [] moves5).ex 5).axes, axA.slot ≤ b.slot) ∧
      (∀ b ∈ ((arcade (acts .note) [] moves5).ex 5).axes, b.slot = axA.slot → b = axA) ∧
      ((arcade (acts .note) [] moves5).ex 5).capture = none ∧
      ((arcade (acts .note) [] moves5).ex 5).brakingToLock = false) ∧
    ((arcade (acts .note) [41, 42] moves5).modInp 41 (fun y => { y with accepted := false })).guardActive
      5 = true ∧
    ((arcade (acts .note) [42] moves5).modInp 42 (fun y => { y with accepted := false })).guardActive
      5 = false := by decide +kernel

theorem witness_LockOutTakesOutOfService :
    MayOrderExhibit (settle (quiet .ready)) (hd 7 5) ∧ Untimed (hd 7 5) ∧
    ((settle (quiet .lockedOut)).ex (OrderHead.ex (hd 7 5))).state = .lockedOut ∧
    (((settle (quiet .ready)).ex (OrderHead.ex (hd 7 5))).lock = ⟨false, false⟩ ∧
      ((settle (quiet .ready)).ex (OrderHead.ex (hd 7 5))).state ≠ .lockedOut ∧
      ((settle (quiet .ready)).ex (OrderHead.ex (hd 7 5))).brakingToLock = false ∧
      (settle (quiet .ready)).anyMoving (OrderHead.ex (hd 7 5)) = false ∧
      ((settle (quiet .ready)).ex (OrderHead.ex (hd 7 5))).axes ≠ []) ∧
    (MayOrderExhibit (settle (runs .moving (onWay axA 0 500) (rest5 axB))) (hd 7 5) ∧
      (settle (runs .moving (onWay axA 0 500) (rest5 axB))).anyMoving (OrderHead.ex (hd 7 5)) = true ∧
      ((settle (runs .moving (onWay axA 0 500) (rest5 axB))).ex (OrderHead.ex (hd 7 5))).lock =
        ⟨false, false⟩) := by decide +kernel

/-- A full capture record of a kind. -/
def captured (k : FaultKind) : Capture := ⟨⟨k, 1, 7, 8000, 0⟩, 4000, .running, 0, 0⟩

/-- Exhibit 5 LOCKED OUT with reasons and a capture record. -/
def lockedFor (l : LockReasons) (c : Option Capture) : State :=
  hall { ex5 .lockedOut with lock := l, capture := c } (rest5 axA) (rest5 axB)

theorem witness_LockOutTakesOutOfService_keys :
    (((arcade (acts .note) [] (quiet .ready)).inp 45).owner = some 5 ∧
      (arcade (acts .note) [] (quiet .ready)).classOf 45 = some .key ∧
      ((arcade (acts .note) [] (quiet .ready)).ex 5).lock = ⟨false, false⟩ ∧
      (arcade (acts .note) [] (quiet .ready)).anyMoving 5 = false ∧
      (arcade (acts .note) [] moves5).anyMoving 5 = true ∧
      ((arcade (acts .note) [] moves5).ex 5).lock = ⟨false, false⟩) ∧
    ((arcade (acts .note) [45, 46] (lockedFor ⟨true, false⟩ none)).modInp 45
      (fun y => { y with accepted := false })).keyActive 5 = true ∧
    ((arcade (acts .note) [45] (lockedFor ⟨true, true⟩ none)).modInp 45
      (fun y => { y with accepted := false })).keyActive 5 = false ∧
    (((arcade (acts .note) [45] (lockedFor ⟨true, true⟩ none)).ex 5).lock ≠ ⟨true, false⟩) ∧
    (((arcade (acts .note) [45] (hall { ex5 .lockedOut [] with lock := ⟨true, false⟩ } .fresh .fresh)).ex
        5).axes = [] ∧
      ((arcade (acts .note) [45] (hall { ex5 .lockedOut [] with lock := ⟨true, false⟩ } .fresh
        .fresh)).ex 5).lock = ⟨true, false⟩) ∧
    (((arcade (acts .note) [45] (tight 55 (lockedFor ⟨true, false⟩ none))).ex 5).state = .lockedOut ∧
      ((arcade (acts .note) [45] (tight 55 (lockedFor ⟨true, false⟩ none))).ex 5).hold =
        ⟨false, false, false⟩ ∧
      WithinBudget (arcade (acts .note) [45] (tight 55 (lockedFor ⟨true, false⟩ none))) 5
        (homingClaim (arcade (acts .note) [45] (tight 55 (lockedFor ⟨true, false⟩ none))) 5)) := by
  decide +kernel

theorem witness_ReturnToServiceRemovesOrder :
    (MayOrderExhibit (settle (lockedFor ⟨false, true⟩ (some (captured .driverFault)))) (hd 7 5) ∧
      Untimed (hd 7 5) ∧
      ((settle (lockedFor ⟨false, true⟩ (some (captured .driverFault)))).ex 5).lock = ⟨false, true⟩ ∧
      ((settle (lockedFor ⟨false, true⟩ (some (captured .driverFault)))).ex 5).capture.isSome = true) ∧
    ((settle (lockedFor ⟨true, true⟩ (some (captured .driverFault)))).ex 5).lock ≠ ⟨false, true⟩ ∧
    ((settle (lockedFor ⟨false, true⟩ none)).ex 5).capture = none := by decide +kernel

/-- Exhibit 5 LOCKED OUT by ORDER with a hold reason, energised or not. -/
def lockedHeld (energised : Bool) : State :=
  hall { ex5 .lockedOut with lock := ⟨false, true⟩, hold := ⟨false, true, false⟩ }
    { rest5 axA with energised := energised } { rest5 axB with energised := energised }

/-- A locked out exhibit whose one reason is ORDER, with its record empty: without axes, with a claim that
meets the budget exactly or exceeds it by 1, and with a hold reason, energised or not. -/
theorem witness_ReturnToServiceRemovesOrder_leaves :
    (((settle (hall { ex5 .lockedOut [] with lock := ⟨false, true⟩ } .fresh .fresh)).ex 5).axes = [] ∧
      ((settle (hall { ex5 .lockedOut [] with lock := ⟨false, true⟩ } .fresh .fresh)).ex 5).queued =
        none) ∧
    (MayOrderExhibit (settle (tight 55 (lockedFor ⟨false, true⟩ none))) (hd 7 5) ∧
      ((settle (tight 55 (lockedFor ⟨false, true⟩ none))).ex 5).lock = ⟨false, true⟩ ∧
      ((settle (tight 55 (lockedFor ⟨false, true⟩ none))).ex 5).state = .lockedOut ∧
      ((settle (tight 55 (lockedFor ⟨false, true⟩ none))).ex 5).hold = ⟨false, false, false⟩ ∧
      WithinBudget (settle (tight 55 (lockedFor ⟨false, true⟩ none))) 5
        (homingClaim (settle (tight 55 (lockedFor ⟨false, true⟩ none))) 5)) ∧
    ((settle (tight 54 (lockedFor ⟨false, true⟩ none))).group 1).budget <
      homingClaim (settle (tight 54 (lockedFor ⟨false, true⟩ none))) 5 ∧
    (((settle (lockedHeld true)).ex 5).hold.isEmpty = false ∧
      (settle (lockedHeld true)).energised 5 = true ∧
      (settle (lockedHeld false)).energised 5 = false) := by decide +kernel

/-- The homing claim of both axes, 30 + 25 units, fits exactly a budget of 55. -/
theorem witness_HomeExhibitHomesAgain :
    (MayOrderExhibit (settle (quiet .ready)) (hd 7 5) ∧ Untimed (hd 7 5) ∧
      ((settle (quiet .ready)).ex 5).state = .ready ∧ ((settle (quiet .ready)).ex 5).axes ≠ [] ∧
      ((settle (quiet .ready)).ex 5).hold = ⟨false, false, false⟩ ∧
      (settle (quiet .ready)).energised 5 = true ∧
      homingClaim (settle (tight 55 (quiet .ready))) 5 = 55 ∧
      WithinBudget (settle (tight 55 (quiet .ready))) 5 55) ∧
    ((settle (quiet .running)).ex 5).state ≠ .ready ∧
    ((settle (hall (ex5 .ready []) .fresh .fresh)).ex 5).axes = [] ∧
    (((settle (heldFor ⟨true, false, false⟩)).ex 5).hold.isEmpty = false ∧
      (settle (heldFor ⟨true, false, false⟩)).energised 5 = true) := by decide +kernel

theorem witness_StopExhibitEndsTheRun :
    MayOrderExhibit (settle (quiet .ready)) (hd 7 5) ∧ Untimed (hd 7 5) ∧
    ((settle (quiet .faulted)).ex 5).state = .faulted ∧ ((settle (quiet .ready)).ex 5).state = .ready ∧
    (((settle (runs .moving (onWay axA 0 500) (rest5 axB))).ex 5).state = .running ∧
      (settle (runs .moving (onWay axA 0 500) (rest5 axB))).anyMoving 5 = true) := by decide +kernel

/-- A press on a BUTTON that reaches its action, with an entry of that action in the press map. -/
def pressed (m : MapEntry) (s : State) : Bool :=
  decide (PressPasses (arcade m [] s) 40 5 ⟨1, none⟩ ∧ ((arcade m [] s).ex 5).entryAt 40 = some m)

theorem witness_StopExhibitEndsTheRun_press :
    (pressed (acts .stop) (quiet .ready) = true ∧
      ((arcade (acts .stop) [] (quiet .ready)).ex 5).state ≠ .running) ∧
    (pressed (acts .stop) moves5 = true ∧ ((arcade (acts .stop) [] moves5).ex 5).state = .running ∧
      (arcade (acts .stop) [] moves5).anyMoving 5 = true) := by decide +kernel

/-- Routine 63 is installed; its first claim is 55 units. -/
theorem witness_RunRoutineStartsOrQueues :
    (MayOrderExhibit (settle (withRoutines (quiet .ready))) (hd 7 5) ∧ Untimed (hd 7 5) ∧
      (63 : Byte).toNat ≤ 63 ∧ (settle (withRoutines (quiet .ready))).isInstalled (63 : Byte).toNat = true ∧
      ((settle (withRoutines (quiet .ready))).ex 5).state = .ready ∧
      ((settle (withRoutines (quiet .ready))).ex 5).hold = ⟨false, false, false⟩ ∧
      ((settle (withRoutines (quiet .ready))).ex 5).runUnits
        (runSlots (settle (withRoutines (quiet .ready))) ((settle (withRoutines (quiet .ready))).ex 5)
          (newRun (settle (withRoutines (quiet .ready))) (63 : Byte).toNat (.order 7) false)) = 55 ∧
      ((settle (withRoutines (quiet .ready))).group
        ((settle (withRoutines (quiet .ready))).ex 5).group).budget = 160) ∧
    (settle (withRoutines (quiet .ready))).isInstalled (1 : Byte).toNat = false ∧
    (((settle (runs .moving (onWay axA 0 500) (rest5 axB))).ex 5).state = .running ∧
      ((settle (runs .moving (onWay axA 0 500) (rest5 axB))).ex 5).queued = none ∧
      (settle (runs .moving (onWay axA 0 500) (rest5 axB))).isInstalled (0 : Byte).toNat = true) := by
  decide +kernel

/-- Exhibit 5 RESTING with hold reasons. -/
def rests (h : HoldReasons) : State := hall { ex5 .resting with hold := h } (rest5 axA) (rest5 axB)

/-- The first claim of routine 63 is 55 units, and 70 with the hold units of a wake. -/
theorem witness_RunRoutineStartsOrQueues_press :
    (pressed ⟨40, .start, 1, .ignore⟩ (quiet .ready) = true ∧
      (arcade ⟨40, .start, 1, .ignore⟩ [] (quiet .ready)).isInstalled 1 = false) ∧
    (pressed (starts .ignore) (quiet .faulted) = true ∧
      (arcade (starts .ignore) [] (quiet .faulted)).isInstalled 63 = true ∧
      ((arcade (starts .ignore) [] (quiet .faulted)).ex 5).state = .faulted) ∧
    (pressed (starts .ignore) (tight 55 (quiet .ready)) = true ∧
      WithinBudget (arcade (starts .ignore) [] (tight 55 (quiet .ready))) 5
        (((arcade (starts .ignore) [] (tight 55 (quiet .ready))).ex 5).runUnits
          (runSlots (arcade (starts .ignore) [] (tight 55 (quiet .ready)))
            ((arcade (starts .ignore) [] (tight 55 (quiet .ready))).ex 5)
            (newRun (arcade (starts .ignore) [] (tight 55 (quiet .ready))) 63 .press false)))) ∧
    (pressed (starts .ignore) (rests ⟨false, true, false⟩) = true ∧
      ((arcade (starts .ignore) [] (rests ⟨false, true, false⟩)).ex 5).hold.isEmpty = false) ∧
    (pressed (starts .ignore) (tight 70 (rests ⟨false, false, false⟩)) = true ∧
      ((arcade (starts .ignore) [] (rests ⟨false, false, false⟩)).ex 5).rest.rehome = false ∧
      ((arcade (starts .ignore) [] (rests ⟨false, false, false⟩)).ex 5).wakePending = false ∧
      ((arcade (starts .ignore) [] (rests ⟨false, false, false⟩)).ex 5).queued = none ∧
      WithinBudget (arcade (starts .ignore) [] (tight 70 (rests ⟨false, false, false⟩))) 5 (15 + 55)) ∧
    pressed (starts .ignore) (quiet .homing) = true ∧ pressed (starts .queue) (quiet .held) = true ∧
    pressed (starts .restart) (heldFor ⟨false, true, false⟩) = true ∧
    (pressed (starts .restart) moves5 = true ∧
      ((arcade (starts .restart) [] moves5).ex 5).queued = none ∧
      (arcade (starts .restart) [] moves5).anyMoving 5 = true) := by decide +kernel

theorem witness_StepOrderAdvancesTheRun :
    (MayOrderExhibit (settle (runs .waitingStep (rest5 axA) (rest5 axB))) (hd 7 5) ∧ Untimed (hd 7 5) ∧
      ((settle (runs .waitingStep (rest5 axA) (rest5 axB))).ex 5).waitsStep = true ∧
      ((settle (runs .waitingStep (rest5 axA) (rest5 axB))).ex 5).run = some (run0 .waitingStep) ∧
      ((settle (runs .waitingStep (rest5 axA) (rest5 axB))).routine 0).installed =
        some ⟨2, 1, false, 0, 0⟩ ∧ (run0 .waitingStep).index + 1 < 2 ∧
      ((settle (runs .waitingStep (rest5 axA) (rest5 axB))).ex 5).runUnits
        (runSlots (settle (runs .waitingStep (rest5 axA) (rest5 axB)))
          ((settle (runs .waitingStep (rest5 axA) (rest5 axB))).ex 5)
          { run0 .waitingStep with index := (run0 .waitingStep).index + 1 }) = 55) ∧
    ((settle (quiet .ready)).ex 5).waitsStep = false := by decide +kernel

theorem witness_StepOrderAdvancesTheRun_press :
    let s := tight 55 (runs .waitingStep (rest5 axA) (rest5 axB))
    let v := arcade (acts .step) [] s
    pressed (acts .step) (quiet .ready) = true ∧ pressed (acts .step) s = true ∧
    (v.ex 5).waitsStep = true ∧ (v.ex 5).run = some (run0 .waitingStep) ∧
    (v.routine 0).installed = some ⟨2, 1, false, 0, 0⟩ ∧
    WithinBudget v 5 ((v.ex 5).runUnits (runSlots v (v.ex 5) { run0 .waitingStep with index := 1 })) := by
  decide +kernel

/-- Routine records of one waypoint at staging offset 0 and at the last offset that is a multiple of 16:
count 1, loop 1, mask 3, speed 100, exponent 10; the halfword sum is 0. -/
def staging (o : Nat) : List Host.Cell :=
  [(0x8000 + o, 1), (0x8000 + o + 1, 1), (0x8000 + o + 4, 0xF2), (0x8000 + o + 5, 0x9A),
   (0x8000 + o + 34, 3), (0x8000 + o + 35, 100), (0x8000 + o + 36, 10)]

/-- The staged record, with routines 0 (in use) and 63 (not in use) installed. -/
def staged : State := { withRoutines (quiet .ready) with mem := staging 16 }

/-- Every waypoint place is held. -/
def fullPool : State :=
  { staged with routines := [(0, ⟨some ⟨64, 1, false, 0, 0⟩, 0, none⟩), (1, ⟨some ⟨960, 1, false, 0, 64⟩, 0, none⟩)] }

theorem witness_CommitInstallsOrStages :
    MayOrderGallery (settle staged) (hd 7 0) ∧ Untimed (hd 7 0) ∧ ¬ Untimed (hd 7 0 1 0) ∧
    63 < (64 : Byte).toNat ∧ (8 : Half).toNat % 16 ≠ 0 ∧
    commitFault (settle staged).mem false (1 : Byte).toNat (16 : Half).toNat = none ∧
    firstFit (stageByte (settle staged).mem (16 : Half).toNat) (settle staged) = some 3 ∧
    ((settle staged).routine (1 : Byte).toNat).installed = none ∧
    (((settle staged).routine (0 : Byte).toNat).inUse ≠ 0 ∧
      ((settle staged).routine (0 : Byte).toNat).installed = some ⟨2, 1, false, 0, 0⟩ ∧
      ((settle staged).routine (0 : Byte).toNat).staged = none) ∧
    firstFit (stageByte (settle fullPool).mem (16 : Half).toNat) (settle fullPool) = none ∧
    (settle staged).routine (63 : Byte).toNat = ⟨some ⟨1, 1, false, 0, 2⟩, 0, none⟩ := by decide +kernel

theorem witness_SetBudgetSetsTheBudget :
    MayOrderGallery (settle (quiet .ready)) (hd 7 0) ∧ Untimed (hd 7 0) ∧ (3 : Byte).toNat ≤ 3 ∧
    (1023 : Half).toNat ≤ 1023 ∧ ((settle (quiet .ready)).group (1 : Byte).toNat).wait = [] := by
  decide +kernel

/-- Section 8.8's group 2 with 60 units free, or 59: exhibit 20 comes first after exhibit 12. -/
theorem witness_SetBudgetSetsTheBudget_arbiter :
    let g : Nat → Group := fun n => ⟨120, n, [⟨3, 30, .waypoint⟩, ⟨20, 60, .waypoint⟩], some 12⟩
    let s : State := { State.reset with exhibits := [(20, ex5 .running [{ axA with group := 2 }])],
                                        groups := [(2, g 60)] }
    (WaitOrdered (g 60) ∧ FirstInRotation (g 60) ⟨20, 60, .waypoint⟩ ∧ 60 + 60 ≤ (g 60).budget ∧
      (g 61).budget < (g 61).granted + 60 ∧ Group.fresh.wait = []) ∧
    ((s.ex 20).group = 2 ∧ s.request 20 ≠ none ∧ (s.group 2).budget < 121 ∧ 120 ≤ (s.group 2).budget ∧
      s.request 31 = none) := by decide +kernel

/-- A zone of one tier-1 address. -/
def zoneParams (a : Byte) : ZoneParams :=
  ⟨15, 1, 0, ⟨a, 0, 0, 0⟩, ⟨0, 0, 0, 0⟩, 5, 5, 4, 4, 12, 120⟩

/-- A gallery whose 64 beacon entries are all in use by other zones' addresses. -/
def manyBeacons : State :=
  { State.reset with
      zones := (List.range 8).map (fun z => (z, ⟨true, (List.range 4).map (fun k => 8 * z + k + 1),
        (List.range 4).map (fun k => 8 * z + k + 5), 5, 5, 0, 1, 0, 10⟩)),
      beacons := (List.range 64).map (fun b => (b, { Beacon.free with addr := b + 1, named := true })) }

theorem witness_SetZoneStoresTheZone :
    MayOrderGallery (settle State.reset) (hd 7 0) ∧ Untimed (hd 7 0) ∧
    zoneParamsOk (zoneParams 247) = true ∧ zoneFull (zoneParams 247) (settle State.reset) = false ∧
    zoneFull (zoneParams 247) (settle manyBeacons) = true := by decide +kernel

theorem witness_SetStationLinkReplacesSettings :
    MayOrderGallery (settle State.reset) (hd 7 0) ∧ Untimed (hd 7 0) ∧ 100 ≤ (100 : Half).toNat ∧
    (800 : Half).toNat ≤ 800 ∧ (800 : Half).toNat % 50 = 0 ∧ 1 ≤ (1 : Byte).toNat ∧
    (4 : Byte).toNat ≤ 4 ∧ (0 : Word) = (settle State.reset).linkMask ∧ (settle State.reset).handed = [] := by
  decide +kernel

/-- A call of exhibit 5's ORDERED cause. -/
def ordered (n : Nat) : Call := ⟨5, .ordered, 3, 1, 0, 0, some 30000, n, none⟩

/-- Exhibit 5 READY with one cause, in a call table. -/
def caused (cs : List CauseRec) (calls : List (Nat × CallEntry)) : State :=
  { hall { ex5 .ready with causes := cs } (rest5 axA) (rest5 axB) with calls := calls }

/-- A call table with every entry in use. -/
def fullTable : List (Nat × CallEntry) := (List.range 48).map (fun n => (n, ⟨1, some (ordered 0)⟩))

theorem witness_RaiseCallRaisesOrdered :
    (MayOrderExhibit (settle (quiet .ready)) (hd 7 5) ∧ Untimed (hd 7 5) ∧ 1 ≤ (1 : Byte).toNat ∧
      (4 : Byte).toNat ≤ 4) ∧
    (((settle (quiet .ready)).ex 5).causeRec .ordered = none ∧
      ((settle (quiet .ready)).callEntry 0).call = none) ∧
    ((settle (caused [] (fullTable.take 47))).callEntry 47).call = none ∧
    (∀ j, j < 47 → ((settle (caused [] (fullTable.take 47))).callEntry j).call.isSome = true) ∧
    (∀ j, j < 48 → ((settle (caused [] fullTable)).callEntry j).call.isSome = true) ∧
    ((settle (caused [⟨.ordered, .pending ⟨0, 255, 3, none⟩⟩] fullTable)).ex 5).causeRec .ordered =
      some ⟨.ordered, .pending ⟨0, 255, 3, none⟩⟩ ∧
    (((settle (caused [⟨.ordered, .entered 47⟩] [(47, ⟨1, some (ordered 255)⟩)])).ex 5).causeRec
        .ordered = some ⟨.ordered, .entered 47⟩ ∧
      ((settle (caused [⟨.ordered, .entered 47⟩] [(47, ⟨1, some (ordered 255)⟩)])).callEntry 47).call =
        some (ordered 255)) := by decide +kernel

theorem witness_CallOrdersAcknowledgeAndClear :
    MayOrderExhibit (settle ringing) (hd 7 5) ∧ Untimed (hd 7 5) ∧ (5 : Byte).toNat ≤ 5 ∧
    (causesNamed allCauses (0 : Byte).toNat).filter (unacknowledged (settle ringing) 5) = [.help] ∧
    2 ≤ (2 : Byte).toNat ∧ (4 : Byte).toNat ≤ 4 ∧ (0 : Byte).toNat = 0 := by decide +kernel

/-- Exhibit 5 FAULTED with no axes. -/
def faulted0 : State :=
  hall { ex5 .faulted [] with capture := some (captured .driverFault), laterFaults := 255 } .fresh .fresh

theorem witness_ClearFaultClearsTheRecord :
    (MayOrderExhibit (settle (quiet .ready)) (hd 7 5) ∧ Untimed (hd 7 5) ∧
      ((settle (quiet .ready)).ex 5).capture = none) ∧
    ((settle (lockedFor ⟨true, false⟩ (some (captured .guardTrip)))).ex 5).capture =
      some (captured .guardTrip) ∧
    (((settle (lockedFor ⟨true, false⟩ (some (captured .limitHit)))).ex 5).capture =
        some (captured .limitHit) ∧
      ((settle (lockedFor ⟨true, false⟩ (some (captured .limitHit)))).ex 5).call.remoteClear = true ∧
      (captured .limitHit).report.kind ≠ .guardTrip ∧
      ((settle (lockedFor ⟨true, false⟩ (some (captured .limitHit)))).ex 5).state = .lockedOut) ∧
    (((settle faulted0).ex 5).state = .faulted ∧ ((settle faulted0).ex 5).axes = [] ∧
      ((settle faulted0).ex 5).queued = none ∧ MayOrderExhibit (settle faulted0) (hd 7 5)) := by
  decide +kernel

/-- Exhibit 5 FAULTED with its axes and with hold reasons. -/
def faulted5 (h : HoldReasons) (energised : Bool) : State :=
  hall { ex5 .faulted with capture := some (captured .driverFault), hold := h }
    { rest5 axA with energised := energised } { rest5 axB with energised := energised }

/-- De-energised, the homing claim is the 70 units of both run loads. -/
theorem witness_ClearFaultClearsTheRecord_axes :
    (MayOrderExhibit (settle (tight 70 (faulted5 ⟨false, false, false⟩ false))) (hd 7 5) ∧
      ((settle (tight 70 (faulted5 ⟨false, false, false⟩ false))).ex 5).state = .faulted ∧
      ((settle (tight 70 (faulted5 ⟨false, false, false⟩ false))).ex 5).axes ≠ [] ∧
      WithinBudget (settle (tight 70 (faulted5 ⟨false, false, false⟩ false))) 5
        (homingClaim (settle (tight 70 (faulted5 ⟨false, false, false⟩ false))) 5)) ∧
    ((settle (tight 69 (faulted5 ⟨false, false, false⟩ false))).group 1).budget <
      homingClaim (settle (tight 69 (faulted5 ⟨false, false, false⟩ false))) 5 ∧
    (((settle (faulted5 ⟨false, true, false⟩ true)).ex 5).hold.isEmpty = false ∧
      (settle (faulted5 ⟨false, true, false⟩ true)).energised 5 = true ∧
      (settle (faulted5 ⟨false, true, false⟩ false)).energised 5 = false) := by decide +kernel

/-- A descriptor for exhibit 31 at offset 0 with a label byte, some head flags, and a CALL part of zone 15
at offset 16; with an AXIS part on channel 23 after it. -/
def desc31 (flags : Byte) (next : Byte) : List Host.Cell :=
  [(0x4000, 65), (0x400C, 31), (0x400D, flags), (0x400E, 16), (0x4010, 3), (0x4011, 2)] ++
  (if next = 0 then [] else [(0x4012, next)]) ++
  [(0x4018, 15), (0x4019, 4), (0x401A, 1),
   (0x4020, 2), (0x4021, 5), (0x4029, 23), (0x402A, 1), (0x402B, 40), (0x402C, 10), (0x402E, 200),
   (0x4031, 2), (0x4032, 100), (0x4039, 16), (0x4042, 200), (0x4044, 14)]

/-- The descriptor in a gallery. -/
def built (flags next : Byte) : State := { State.reset with mem := desc31 flags next }

theorem witness_BringUpInstallsTheExhibit :
    (MayOrderGallery (settle (built 5 0)) (hd 7 31) ∧ Untimed (hd 7 31) ∧ OrderHead.ex (hd 7 31) ≤ 31 ∧
      (settle (built 5 0)).ex (OrderHead.ex (hd 7 31)) = .absent) ∧
    walkDescriptor (settle (built 5 0)).mem (1 : Half).toNat 31 = .bad ⟨1, 1⟩ ∧
    (∃ d w, walkDescriptor (settle (built 5 0)).mem (0 : Half).toNat 31 = .ok (d, w) ∧ w.axes = [] ∧
      d.locked = false ∧ ownershipConflict (settle (built 5 0)) w = none) ∧
    (∃ d w, walkDescriptor (settle (built 133 0)).mem (0 : Half).toNat 31 = .ok (d, w) ∧ w.axes = [] ∧
      d.locked = true ∧ ownershipConflict (settle (built 133 0)) w = none) := by
  refine ⟨by decide +kernel, by decide +kernel, ⟨⟨65 :: List.replicate 11 0, 5, 16, false⟩,
    ⟨1, none, [], some ⟨15, 4, true⟩, none, none⟩, by decide +kernel⟩,
    ⟨⟨65 :: List.replicate 11 0, 5, 16, true⟩, ⟨1, none, [], some ⟨15, 4, true⟩, none, none⟩,
      by decide +kernel⟩⟩

/-- The AXIS part's channel is free, or owned by exhibit 5. -/
theorem witness_BringUpInstallsTheExhibit_axis :
    ∃ d w r, walkDescriptor (settle (built 5 32)).mem (0 : Half).toNat 31 = .ok (d, w) ∧ w.axes.length = 1 ∧
      ownershipConflict (settle (built 5 32)) w = none ∧
      ownershipConflict (settle { built 5 32 with
        channels := [(23, { Channel.fresh with owner := some 5 })] }) w = some r := by
  refine ⟨⟨65 :: List.replicate 11 0, 5, 16, false⟩, ⟨2, none,
    [(32, ⟨0, 23, 1, 40, 10, 200, 512, 100, 0, 4096, 0, .towardLow, 200, 14, false⟩)],
    some ⟨15, 4, true⟩, none, none⟩, 0x05020017, by decide +kernel⟩

theorem witness_RetireExhibitTakesItOut :
    MayOrderExhibit (settle (quiet .ready)) (hd 7 5) ∧ Untimed (hd 7 5) ∧
    (settle (quiet .ready)).anyMoving 5 = false ∧
    (MayOrderExhibit (settle (runs .moving (onWay axA 0 500) (rest5 axB))) (hd 7 5) ∧
      (settle (runs .moving (onWay axA 0 500) (rest5 axB))).anyMoving 5 = true) := by decide +kernel

theorem witness_SetClockMovesExpiries :
    (MayOrderGallery (settle ringing) (hd 7 0) ∧ Untimed (hd 7 0) ∧ (settle ringing).dueList = [] ∧
      (settle ringing).handed = []) ∧
    (MayOrderGallery (settle (listed 9000)) (hd 7 0) ∧ (settle (listed 9000)).handed = [] ∧
      ∀ d ∈ (settle (listed 9000)).dueList, isDue 8999 d.due = false) := by decide +kernel

/-- Slot 31 names itself outside the control mask, by its own slot group; slot 1's order is listed. -/
theorem witness_CancelTakesTheOrderOut :
    (MayOrderGallery (settle (listed 9000)) (hd 7 0) ∧ 31 < (32 : Byte).toNat ∧ ¬ Untimed (hd 7 0 1 0)) ∧
    (SlotOpen (settle (listed 9000)) (hd 31 0) ∧ (31 : Byte).toNat / 8 = sourceOf (hd 31 0).slot.val ∧
      (31 : Byte).toNat ≤ 31 ∧ Untimed (hd 31 0) ∧
      ∀ d ∈ (settle (listed 9000)).dueList, d.slot ≠ (31 : Byte).toNat) ∧
    (SlotOpen (settle (listed 9000)) (hd 7 0) ∧
      ∃ d ∈ (settle (listed 9000)).dueList, d.slot = (1 : Byte).toNat) := by decide +kernel

theorem witness_PollGoesRound :
    ((settle { State.reset with linkMask := 0x80000000, pollPos := 32 }).window = none ∧
      (settle { State.reset with linkMask := 0x80000000, pollPos := 32 }).linkMask ≠ 0) ∧
    (settle State.reset).linkMask = 0 ∧
    (settle { State.reset with window := some ⟨32, 400, []⟩ }).window.isSome = true := by decide +kernel

/-- Node 32 with a record, and a reply of its raw level 1: 0x3C, 32, 1, 0 and the CHECK. -/
def asked (st : NodeState) (goods : Nat) (mask : Word) : State :=
  { State.reset with
      linkMask := mask, window := some ⟨32, 400, []⟩, nodes := [(32, ⟨st, 0, 0, goods, 0⟩)] }

/-- The five bytes of that reply. -/
def reply32 : List RxByte := [⟨0x3C, true⟩, ⟨32, true⟩, ⟨1, true⟩, ⟨0, true⟩, ⟨0xDF, true⟩]

theorem witness_ReplyIsApplied :
    (settle State.reset).window = none ∧
    ((settle (asked .unknown 0 0x80000000)).window = some ⟨32, 400, []⟩ ∧
      goodReply 32 (([] ++ reply32.take 4).take 5) = none ∧
      goodReply 32 (([] ++ reply32).take 5) = some (1, 0)) ∧
    present (settle (asked .unknown 0 0)).linkMask 32 = false ∧
    present (settle (asked .unknown 0 0x80000000)).linkMask 32 = true ∧
    ((settle (asked .silent 1 0x80000000)).node 32).state = .silent ∧
    ((settle (asked .silent 0 0x80000000)).node 32).goodRun = 0 ∧
    ((settle (asked .answering 0 0x80000000)).node 32).state = .answering := by decide +kernel

theorem witness_TimeoutCountsAMiss :
    (settle State.reset).window = none ∧
    ((settle (asked .answering 0 0)).window = some ⟨32, 400, []⟩ ∧
      present (settle (asked .answering 0 0)).linkMask 32 = false) ∧
    (present (settle (asked .silent 1 0x80000000)).linkMask 32 = true ∧
      ((settle (asked .silent 1 0x80000000)).node 32).state ≠ .answering) ∧
    (((settle (asked .answering 0 0x80000000)).node 32).missRun < 2) ∧
    2 ≤ ((settle { asked .answering 0 0x80000000 with
      nodes := [(32, ⟨.answering, 2, 2, 0, 0⟩)] }).node 32).missRun := by decide +kernel

/-- Inputs of nodes 32 (ANSWERING) and 6 (not): input 255, a MAT and a KEY. -/
theorem witness_TimeoutCountsAMiss_levels :
    ((asked .answering 0 0x80000000).node (255 / 8 + 1)).state = .answering ∧
    ((arcade (acts .note) [] (quiet .ready)).node (44 / 8 + 1)).state ≠ .answering ∧
    (arcade (acts .note) [] (quiet .ready)).classOf 44 = some .mat ∧
    (arcade (acts .note) [] (quiet .ready)).classOf 45 = some .key := by decide +kernel

/-- Input 255 of exhibit 5 with a bucket, and cue line 8 active until tick 5,000. -/
def ticking (x : Tick) : State :=
  { quiet .ready with
      inputs := [(255, { Input.fresh with owner := some 5, bucket := some ⟨0, some x⟩ })],
      cues := [(8, some x)] }

theorem witness_RefillAndCueExpire :
    (((settle (ticking 5000)).inp (255 : Fin 256).val).owner = some 5 ∧
      ((settle (ticking 5000)).inp (255 : Fin 256).val).bucket = some ⟨0, some 5000⟩ ∧
      isDue (settle (ticking 5000)).tick 5000 = true ∧ isDue (settle (ticking 5001)).tick 5001 = false) ∧
    dueNow (settle (ticking 5000)).tick ((settle (ticking 5000)).cue ((7 : Fin 8).val + 1)) = true ∧
    dueNow (settle (ticking 5001)).tick ((settle (ticking 5001)).cue ((7 : Fin 8).val + 1)) = false := by
  decide +kernel

theorem witness_RefillAndCueExpire_presses :
    (State.reset.inp 40).owner = none ∧
    (((arcade (acts .help) [] (quiet .ready)).inp 40).owner = some 5 ∧
      (arcade (acts .help) [] (quiet .ready)).classOf 40 = some .button ∧
      ((arcade (acts .help) [] (quiet .ready)).ex 5).actionAt 40 = .help ∧
      ((arcade (acts .help) [] (quiet .ready)).ex 5).causeRec .help = none) ∧
    ({ arcade (acts .note) [] (quiet .ready) with mode := .closed }.mode ≠ .open ∧
      ((arcade (acts .note) [] (quiet .ready)).ex 5).actionAt 47 ≠ .help) ∧
    (((arcade (acts .stop) [] (quiet .ready)).modInp 40
      (fun y => { y with bucket := some ⟨0, some 9000⟩ })).inp 40).bucket = some ⟨0, some 9000⟩ ∧
    (PressPasses (arcade (acts .stop) [] (quiet .ready)) 47 5 ⟨1, none⟩ ∧
      ((arcade (acts .stop) [] (quiet .ready)).ex 5).actionAt 47 = .note) := by decide +kernel

theorem witness_RestTimerPutsToRest :
    (((settle (hall { ex5 .ready with restTimer := some 5000 } (rest5 axA) (rest5 axB))).ex
        (5 : Fin 32).val).state = .ready ∧
      dueNow (settle (hall { ex5 .ready with restTimer := some 5000 } (rest5 axA) (rest5 axB))).tick
        ((settle (hall { ex5 .ready with restTimer := some 5000 } (rest5 axA) (rest5 axB))).ex 5).restTimer =
        true ∧
      ((settle (hall { ex5 .ready with restTimer := some 5000 } (rest5 axA) (rest5 axB))).ex 5).axes ≠ [] ∧
      (settle (hall { ex5 .ready with restTimer := some 5000 } (rest5 axA) (rest5 axB))).request 5 = none) ∧
    dueNow (settle (quiet .ready)).tick ((settle (quiet .ready)).ex 5).restTimer = false := by decide +kernel

/-- The wake of a mat asks for the hold units, 15. -/
theorem witness_RestTimerPutsToRest_mats :
    (((arcade (acts .note) [] (quiet .ready)).inp 43).owner = some 5 ∧
      (arcade (acts .note) [] (quiet .ready)).classOf 43 = some .mat ∧
      ((arcade (acts .note) [] (quiet .ready)).ex 5).state = .ready) ∧
    ((arcade (acts .note) [] moves5).ex 5).state = .running ∧
    ((arcade (acts .note) [] (rests ⟨false, false, true⟩)).ex 5).hold.isEmpty = false ∧
    (((arcade (acts .note) [] (tight 15 (rests ⟨false, false, false⟩))).ex 5).state = .resting ∧
      ((arcade (acts .note) [] (tight 15 (rests ⟨false, false, false⟩))).ex 5).axes ≠ [] ∧
      WithinBudget (arcade (acts .note) [] (tight 15 (rests ⟨false, false, false⟩))) 5 15 ∧
      ((arcade (acts .note) [] (tight 14 (rests ⟨false, false, false⟩))).group 1).budget < 15) ∧
    ((arcade (acts .note) [43, 44] (quiet .ready)).modInp 43
      (fun y => { y with accepted := false })).matActive 5 = true ∧
    ((arcade (acts .note) [43] (quiet .ready)).modInp 43
      (fun y => { y with accepted := false })).matActive 5 = false := by decide +kernel

/-- A handed WAYPOINT grant of exhibit 5. -/
def granted : State :=
  { runs .waitingGrant (rest5 axA) (rest5 axB) with handed := [.grant 5 .waypoint] }

theorem witness_GrantStartsTheWaypoint :
    (granted.handed = .grant 5 .waypoint :: [] ∧ (granted.ex 5).state = .running ∧
      (granted.ex 5).run = some (run0 .waitingGrant) ∧ (run0 .waitingGrant).arrived = [] ∧
      ((axesOf granted 5 (runSlots granted (granted.ex 5) (run0 .waitingGrant))).map (·.channel)).Nodup ∧
      (∀ a ∈ axesOf granted 5 (runSlots granted (granted.ex 5) (run0 .waitingGrant)),
        (granted.ch a.channel).limit = false ∧ (granted.ch a.channel).fault = false) ∧
      (∃ a ∈ axesOf granted 5 (runSlots granted (granted.ex 5) (run0 .waitingGrant)),
        (granted.ch a.channel).p ≠
          clampTarget a (runTarget granted (run0 .waitingGrant) a.slot) * 1000)) ∧
    (∀ x ∈ State.reset.handed, Handed.isGrant x = false) := by decide +kernel

/-- A run that a hold stopped at its waypoint, with its resumption's grant handed. -/
def resumes : State :=
  withRoutines { hall { ex5 .running with run := some { run0 .waitingGrant with started := true, arrived := [1] } }
      { onWay axA 0 0 with state := .stopped } (rest5 axB) with handed := [.grant 5 .resume] }

theorem witness_GrantStartsTheWaypoint_resume :
    resumes.handed = [.grant 5 .resume] ∧
    (resumes.ex 5).run = some { run0 .waitingGrant with started := true, arrived := [1] } ∧
    ((axesOf resumes 5 (runSlots resumes (resumes.ex 5) (run0 .waitingGrant))).map (·.channel)).Nodup ∧
    (∀ a ∈ axesOf resumes 5 (runSlots resumes (resumes.ex 5) (run0 .waitingGrant)),
      (resumes.ch a.channel).limit = false ∧ (resumes.ch a.channel).fault = false) ∧
    ((resumes.ch 6).state = .stopped ∧ (resumes.ch 6).kind = some .waypoint ∧
      (resumes.ch 6).target = some 100) := by decide +kernel

/-- A grant handed to exhibit 5 with some channels. -/
def given (p : Purpose) (x : Exhibit) (a b : Channel) : State :=
  withRoutines { hall x a b with handed := [.grant 5 p] }

/-- What the HOMING, RESUME and WAKE grants have in common. -/
def startable (s : State) : Bool :=
  decide ((axesOf s 5 (s.ex 5).axisSlots).Perm (s.ex 5).axes ∧
    ((s.ex 5).axes.map (·.channel)).Nodup ∧
    ∀ a ∈ (s.ex 5).axes, (s.ch a.channel).limit = false ∧ (s.ch a.channel).fault = false)

/-- A HOMING grant with one HOME active. -/
def homingGrant : State := given .homing (ex5 .homing) { rest5 axA with home := true } (rest5 axB)

/-- A RESUME grant in HOMING with one axis set. -/
def homingResume : State :=
  given .resume { ex5 .homing with axesSet := [0] } (rest5 axA) { homing axB with state := .stopped }

/-- A WAKE grant of a de-energised exhibit. -/
def wakeGrant (rehome : Bool) (q : Option Queued) (b : Channel) : State :=
  given .wake { ex5 .resting with wakePending := true, rest := ⟨10, rehome⟩, queued := q }
    { rest5 axA with energised := false } { b with energised := false }

/-- A queued start of routine 0 by a press. -/
def press0 : Queued := ⟨0, .press, false, false⟩

theorem witness_GrantStartsTheWaypoint_others :
    (startable homingGrant = true ∧ (∀ a ∈ (homingGrant.ex 5).axes, (homingGrant.ch a.channel).kind = none) ∧
      (homingGrant.ex 5).axesSet = [] ∧ ∃ a ∈ (homingGrant.ex 5).axes, (homingGrant.ch a.channel).home = false) ∧
    (startable homingResume = true ∧
      (∀ a ∈ (homingResume.ex 5).axes, a.slot ∉ (homingResume.ex 5).axesSet →
        (homingResume.ch a.channel).state = .stopped ∧ (homingResume.ch a.channel).kind = some .homing ∧
          (homingResume.ch a.channel).home = false) ∧
      ∃ a ∈ (homingResume.ex 5).axes, a.slot ∉ (homingResume.ex 5).axesSet) ∧
    (startable (wakeGrant true none (rest5 axB)) = true ∧
      (wakeGrant true none (rest5 axB)).energised 5 = false ∧
      ((wakeGrant true none (rest5 axB)).ex 5).rest.rehome = true ∧
      ∃ a ∈ [axA, axB], ((wakeGrant true none (rest5 axB)).ch a.channel).home = false) ∧
    (startable (wakeGrant false none (rest5 axB)) = true ∧
      ((wakeGrant false none (rest5 axB)).ex 5).rest.rehome = false) ∧
    (startable (wakeGrant false (some press0) (rest5 axB)) = true ∧
      ∃ a ∈ axesOf (wakeGrant false (some press0) (rest5 axB)) 5 [0, 1],
        ((wakeGrant false (some press0) (rest5 axB)).ch a.channel).p ≠ 100 * 1000) := by decide +kernel

/-- R118: at a wake that finds DRV_FAULT on an axis outside the waypoint, the waypoint's move starts, with
its cruise speed, and is trip-stopped by the fault. -/
theorem test_wake_fault_outside_waypoint :
    let s := wakeGrant false (some press0) { rest5 axB with fault := true }
    let t := after1 .grant { s with pool := [(0, { wp with mask := 1 })] }
    (t.ex 5).state = .faulted ∧ (t.ex 5).capture.map (·.report.slot) = some 1 ∧ (t.ch 6).vc = 2000 ∧
      (t.ch 6).state = .idle := by decide +kernel

/-- R110, R129: a resumption refused as over budget ends the run and releases the stopped axis. -/
theorem test_refused_resume_releases :
    let s := { tight 39 (runs .waitingGrant { onWay axA 0 0 with state := .stopped } (rest5 axB)) with
      exhibits := [(5, { ex5 .held with
        heldAct := some .running, hold := ⟨false, true, false⟩, run := some (run0 .waitingGrant) })] }
    let t := after1 (.release (hd 7 5)) s
    (t.ex 5).state = .ready ∧ (t.ex 5).run = none ∧ (t.ch 6).state = .idle ∧ (t.ch 6).kind = none := by
  decide +kernel

/-- Axis slot 1's channel, confirm flag set, one step from its target. -/
def near : State := runs .moving (rest5 axA) (onWay axB 99900 100)

/-- Every waypoint of the test routines dwells. -/
theorem dwells (q : Run) (h : (near.ex 5).run = some q) : (near.waypoint q.routine q.index).dwell ≠ 0 := by
  have e : (near.ex 5).run = some (run0 .moving) := by decide +kernel
  rw [e] at h
  cases h
  decide +kernel

theorem witness_MotionTickAdvances :
    (((settle (runs .moving (move714 2700 700 6 .rampUp) (rest5 axB))).ch 6).owner = some 5 ∧
      ((settle (runs .moving (move714 2700 700 6 .rampUp) (rest5 axB))).ch 6).axis = some axA ∧
      axA.channel = (6 : Fin 24).val ∧
      ((settle (runs .moving (move714 2700 700 6 .rampUp) (rest5 axB))).ch 6).state = .moving ∧
      ((settle (runs .moving (move714 2700 700 6 .rampUp) (rest5 axB))).ex 5).state ≠ .braking ∧
      (5 * 1000 - (2700 : Int)).natAbs ≤ 700 * 700 / (2 * axA.delta) ∧ max (700 - axA.delta) axA.vmin <
        (5 * 1000 - (2700 : Int)).natAbs ∧ 6 + 1 ≠ 2 ^ 4 - 1) ∧
    ((near.ch 7).state = .moving ∧ axB.confirm = true ∧ (near.ch 7).ready = false ∧
      (100 * 1000 - (near.ch 7).p).natAbs ≤ min (max (100 + axB.delta) axB.vmin) 2000 ∧
      (near.ch 7).counter + 1 ≠ 2 ^ (near.ch 7).exp - 1) ∧
    ((near.modCh 7 (fun c => { c with ready := true })).ch 7).ready = true ∧
    ((settle (quiet .ready)).ch 6).state ≠ .moving ∧ ((settle (quiet .ready)).ch 6).state ≠ .confirming := by
  decide +kernel

/-- Exhibit 5 HOMING with both axes moving. -/
def homes : State := hall (ex5 .homing) (homing axA) (homing axB)

theorem witness_HomingTickAdvances :
    (((settle homes).ch (6 : Fin 24).val).owner = some 5 ∧ ((settle homes).ch 6).axis = some axA ∧
      axA.channel = (6 : Fin 24).val ∧ ((settle homes).ch 6).state = .moving ∧
      ((settle homes).ch 6).kind = some .homing ∧ ((settle homes).ex 5).state ≠ .braking ∧
      ((settle homes).ch 6).counter + 1 ≠ 2 ^ ((settle homes).ch 6).exp - 1) ∧
    ((settle (quiet .ready)).ch 6).state ≠ .moving := by decide +kernel

/-- Axis slot 0 BRAKING at a velocity while axis slot 1 still moves. -/
def brakes (v : Nat) : State :=
  runs .moving { move714 2000 v 5 .rampUp with state := .braking } (onWay axB 0 100)

/-- A velocity of 299 is below Vmin and the step together; one of 300 is not. -/
theorem witness_BrakingTickSlows :
    (((settle (brakes 299)).ch 6).owner = some 5 ∧ ((settle (brakes 299)).ch 6).axis = some axA ∧
      axA.channel = (6 : Fin 24).val ∧ ((settle (brakes 299)).ch 6).state = .braking ∧
      ((settle (brakes 299)).ch 6).kind = some .waypoint ∧ ((settle (brakes 299)).ch 6).target = some 5 ∧
      axB ∈ ((settle (brakes 299)).ex 5).axes ∧ axB.channel ≠ (6 : Fin 24).val ∧
      ((settle (brakes 299)).ch axB.channel).isMoving = true ∧
      ((settle (brakes 299)).ch 6).v < axA.vmin + axA.delta) ∧
    (axA.vmin + axA.delta ≤ ((settle (brakes 300)).ch 6).v ∧
      ((settle (brakes 300)).ch 6).v - axA.delta < (5 * 1000 - ((settle (brakes 300)).ch 6).p).natAbs) ∧
    ((settle (quiet .ready)).ch 6).state ≠ .braking := by decide +kernel

/-- Axis slot 0 in its last braking tick while axis slot 1 is at rest. -/
def lastBrake (x : Exhibit) : State :=
  hall x { move714 2000 299 5 .rampUp with state := .braking } (rest5 axB)

/-- Exhibit 5 BRAKING toward READY, HELD and LOCKED OUT, and with retire pending. -/
theorem witness_BrakingTickSlows_last :
    let ends := fun (x : Exhibit) => decide (((settle (lastBrake x)).ch 6).state = .braking ∧
      ((settle (lastBrake x)).ch 6).v < axA.vmin + axA.delta ∧ axA ∈ ((settle (lastBrake x)).ex 5).axes ∧
      ((settle (lastBrake x)).ch 7).isMoving = false ∧ ((settle (lastBrake x)).ex 5).state = .braking ∧
      (settle (lastBrake x)).request 5 = none ∧ (settle (lastBrake x)).ex 5 = x)
    ends { ex5 .braking with target := some .ready } = true ∧
    ends { ex5 .braking with
      target := some .held, heldAct := some .running, hold := ⟨false, true, false⟩ } = true ∧
    ends { ex5 .braking with target := some .lockedOut, lock := ⟨false, true⟩ } = true ∧
    ends { ex5 .braking with target := some .lockedOut, retire := some 3 } = true := by decide +kernel

/-- R173: an axis that arrives into CONFIRMING at its deadline limit while the exhibit brakes toward LOCKED
OUT: the report of the overrun fills the record, and the exhibit goes to LOCKED OUT. -/
theorem test_overrun_toward_lockout :
    let s := hall { ex5 .braking with target := some .lockedOut, lock := ⟨false, true⟩ } (rest5 axA)
      { onWay axB 99900 150 with state := .braking, counter := 14, exp := 4 }
    let t := settle (after1 (.brakingTick 7) s)
    (t.ex 5).state = .lockedOut ∧ (t.ex 5).capture.map (·.before) = some .braking := by decide +kernel

/-- An overrun report of channel 7, with a capture record empty or full. -/
def reported (c : Option Capture) : State :=
  { runs .moving (onWay axA 0 500) (rest5 axB) with
      exhibits := [(5, { ex5 .running with run := some (run0 .moving), capture := c, laterFaults := 255 })],
      handed := [.overrun 5 ⟨.segmentOverrun, 1, 7, 8000, 0⟩] }

theorem witness_OverrunReachesTheCapture :
    ((reported none).handed = .overrun 5 ⟨.segmentOverrun, 1, 7, 8000, 0⟩ :: [] ∧
      ((reported none).ex 5).installed = true ∧ ((reported none).ex 5).retire = none ∧
      ((reported none).ex 5).capture = none ∧ ((reported none).ex 5).brakingToLock = false) ∧
    ((reported (some (captured .limitHit))).ex 5).capture = some (captured .limitHit) ∧
    (∀ x ∈ State.reset.handed, Handed.isOverrunOf (7 : Fin 24).val x = false) := by decide +kernel

/-- A run of routine 0 that dwells until tick 5,000. -/
def dwelling (i : Nat) : State :=
  withRoutines (hall { ex5 .running with
    run := some { run0 .dwelling with index := i, dwell := some 5000 } } (rest5 axA) (rest5 axB))

/-- The same with routine 0 STEPPED. -/
def stepped : State :=
  { dwelling 0 with routines := [(0, ⟨some ⟨2, 1, true, 0, 0⟩, 1, none⟩)] }

theorem witness_DwellExpiryFinishesTheWaypoint :
    (((settle (dwelling 0)).ex 5).state = .running ∧
      ((settle (dwelling 0)).ex 5).run = some { run0 .dwelling with dwell := some 5000 } ∧
      dueNow (settle (dwelling 0)).tick (some 5000) = true ∧
      ((settle (dwelling 0)).routine 0).installed = some ⟨2, 1, false, 0, 0⟩ ∧
      waitsForStep (settle (dwelling 0)) (run0 .dwelling) = false ∧
      ((settle (dwelling 0)).ex 5).runUnits (runSlots (settle (dwelling 0)) ((settle (dwelling 0)).ex 5)
        { run0 .dwelling with index := 1 }) = 55) ∧
    waitsForStep (settle stepped) (run0 .dwelling) = true ∧
    (((settle (dwelling 1)).ex 5).run = some { run0 .dwelling with index := 1, dwell := some 5000 } ∧
      (run0 .dwelling).loopLeft = some 1 ∧ ((settle (dwelling 1)).ex 5).queued = none) ∧
    ((settle (quiet .ready)).ex (5 : Fin 32).val).state ≠ .running := by decide +kernel

theorem witness_ChannelLevelsAreTaken :
    ((settle State.reset).ch (23 : Fin 24).val).owner = none ∧
    (((settle homes).ch 6).owner = some 5 ∧ ((settle homes).ch 6).axis = some axA ∧
      ((settle homes).ch 6).home = false ∧ ((settle homes).ch 6).kind = some .homing ∧
      ((settle homes).ch 6).state = .moving ∧ ((settle homes).ex 5).state = .homing ∧
      axB ∈ ((settle homes).ex 5).axes ∧ axB.slot ≠ axA.slot ∧ axB.slot ∉ ((settle homes).ex 5).axesSet) ∧
    ((settle (quiet .ready)).ch 7).state ≠ .confirming := by decide +kernel

/-- Axis slot 1 waits for its driver. -/
def confirms : State := runs .moving (rest5 axA) { onWay axB 100000 0 with state := .confirming }

theorem witness_ChannelLevelsAreTaken_confirming :
    ((settle confirms).ch (7 : Fin 24).val).owner = some 5 ∧ ((settle confirms).ch 7).axis = some axB ∧
    ((settle confirms).ch 7).state = .confirming ∧
    ∀ q, ((settle confirms).ex 5).run = some q →
      ((settle confirms).waypoint q.routine q.index).dwell ≠ 0 := by
  refine ⟨by decide +kernel, by decide +kernel, by decide +kernel, fun q h => ?_⟩
  have e : ((settle confirms).ex 5).run = some (run0 .moving) := by decide +kernel
  rw [e] at h
  cases h
  decide +kernel

/-- Axis slot 0 is the last one to be set. -/
def lastHome : State := hall { ex5 .homing with axesSet := [1] } (homing axA) (rest5 axB)

/-- Axis slot 1 is the last one of its waypoint. -/
def lastArrival : State :=
  { confirms with exhibits := [(5, { ex5 .running with run := some { run0 .moving with arrived := [0] } })] }

theorem witness_ChannelLevelsAreTaken_last :
    (((settle lastHome).ch (6 : Fin 24).val).home = false ∧ ((settle lastHome).ex 5).state = .homing ∧
      (∀ a' ∈ ((settle lastHome).ex 5).axes, a'.slot ≠ axA.slot →
        a'.slot ∈ ((settle lastHome).ex 5).axesSet) ∧
      ((settle lastHome).ex 5).queued = none ∧ (settle lastHome).request 5 = none) ∧
    (((settle lastArrival).ex 5).state = .running ∧ ((settle lastArrival).ch 7).state = .confirming ∧
      (settle lastArrival).request 5 = none ∧
      (∀ k ∈ runSlots (settle lastArrival) ((settle lastArrival).ex 5) (run0 .moving),
        k ≠ axB.slot → k ∈ [0]) ∧
      ((settle lastArrival).waypoint 0 0).dwell ≠ 0) := by decide +kernel

theorem witness_ChannelFaultsStopTheExhibit :
    ((settle State.reset).ch (23 : Fin 24).val).owner = none ∧
    ((settle near).ch 7).energised = true ∧
    (((settle near).ch (7 : Fin 24).val).owner = some 5 ∧ ((settle near).ch 7).axis = some axB ∧
      axB.channel = (7 : Fin 24).val ∧ ((settle near).ex 5).installed = true ∧
      ((settle near).ex 5).retire = none ∧ ((settle near).ex 5).capture = none ∧
      ((settle near).ex 5).brakingToLock = false ∧ ((settle near).ch 7).limit = false ∧
      ((settle near).ch 7).isMoving = true ∧ ((settle near).ch 7).fault = false) := by decide +kernel

/-- Section 9.8's call 0 in the last entry, acknowledged with a hold expiry or not. -/
def lastCall (a : Option AckMark) : State :=
  { caused [⟨.help, .entered 47⟩] [(47, ⟨1, some ⟨5, .help, 2, 1, 0, 0, some 5000, 0, a⟩⟩)] with
      zones := [(3, zone3)] }

theorem witness_CallsEscalateAndExpire :
    (((settle (lastCall none)).callEntry (47 : Fin 48).val).call =
        some ⟨5, .help, 2, 1, 0, 0, some 5000, 0, none⟩ ∧
      dueNow (settle (lastCall none)).tick (some 5000) = true) ∧
    dueNow (settle (lastCall none)).tick (some 5001) = false ∧
    (((settle (lastCall (some ⟨0, .frame, 7, some 5000⟩))).callEntry 47).call.bind (·.ack)).isSome = true ∧
    dueNow (settle (lastCall (some ⟨0, .frame, 7, some 5000⟩))).tick
      (helpHoldExpiry (settle (lastCall (some ⟨0, .frame, 7, some 5000⟩))) (5 : Fin 32).val) = true ∧
    dueNow (settle (lastCall none)).tick (helpHoldExpiry (settle (lastCall none)) (31 : Fin 32).val) =
      false := by decide +kernel

/-- A beacon entry that owes a DARK. -/
def darkened : State :=
  { State.reset with beacons := [(0, ⟨247, true, none, none, none, false, true, false, false⟩)] }

theorem witness_BeaconsAreServedInTurn :
    ((0 : Nat) = ((settle ringing).lastServed + 1 + 0) % 64 ∧
      Beacon.owes ((settle ringing).beacon 0) = true ∧
      (∀ j, j < 64 → ((settle ringing).beacon j).resetDark = false) ∧
      ((settle ringing).beacon 0).pattern = some 4 ∧ ((settle ringing).beacon 0).beaconOwed = true ∧
      ((settle ringing).beacon 0).shows = some 0) ∧
    (Beacon.owes ((settle darkened).beacon 0) = true ∧
      (∀ j, j < 64 → ((settle darkened).beacon j).resetDark = false) ∧
      ((settle darkened).beacon 0).named = true ∧ ((settle darkened).beacon 0).pattern = none ∧
      ((settle darkened).beacon 0).darkOwed = true) ∧
    (∀ j, j < 64 → Beacon.owes ((settle State.reset).beacon j) = false ∧
      ((settle State.reset).beacon j).resetDark = false) ∧
    (dueNow (settle { ringing with beacons :=
        [(63, ⟨10, true, some 0, some 4, some 0, false, false, false, false⟩)] }).tick
      ((settle { ringing with beacons :=
        [(63, ⟨10, true, some 0, some 4, some 0, false, false, false, false⟩)] }).beacon
          (63 : Fin 64).val).refresh = true) := by decide +kernel

/-- Only call 0 is in use, and it lights addresses 10 and 11. -/
theorem witness_BeaconsAreServedInTurn_choice :
    (ringing.beacon 0).named = true ∧ (ringing.beacon 0).addr = 10 ∧ (ringing.beacon 2).addr = 20 ∧
    (keys ringing.calls).Nodup ∧
    CallLights ringing 10 0 ⟨5, .help, 2, 1, 0, 0, some 30000, 0, none⟩ ∧
    (∀ m d, CallLights ringing 10 m d → m ≠ 0 →
      CallPreferred ringing.tick 0 ⟨5, .help, 2, 1, 0, 0, some 30000, 0, none⟩ m d) ∧
    (∀ n c, ¬ CallLights ringing 20 n c) := by
  refine ⟨by decide +kernel, by decide +kernel, by decide +kernel, by decide +kernel,
    ⟨by decide +kernel, by decide +kernel⟩, ?_, ?_⟩
  · rintro m d ⟨h, _⟩ hm
    simp [ringing, State.callEntry, lookup, Ne.symm hm, CallEntry.fresh] at h
  · rintro n c ⟨h, k⟩
    by_cases e : 0 = n
    · subst e
      have : (ringing.callEntry 0).call = some ⟨5, .help, 2, 1, 0, 0, some 30000, 0, none⟩ := by
        decide +kernel
      rw [this] at h
      cases h
      exact absurd k (by decide +kernel)
    · simp [ringing, State.callEntry, lookup, e, CallEntry.fresh] at h

/-- R169, R167, R168: an entry kept for a DARK owed since a PART RESET reads FREE; a SET ZONE that names its
address shows it, and a later SET ZONE that names another keeps it until its DARK has gone. -/
theorem test_kept_entry_shows_its_address :
    let s := { State.reset with beacons := [(0, resetBeacon ⟨247, true, some 0, some 4, none, false, false, false, false⟩)] }
    let t := after1 (.setZone (hd 7 0) (zoneParams 247)) s
    (beaconBody s 0).addr = 0 ∧ (beaconBody t 0).addr = 247 ∧
      (beaconBody (after1 (.setZone (hd 7 0) (zoneParams 9)) t) 0).addr = 247 := by decide +kernel

theorem witness_AttendantFramesAreJudged :
    (settle (lastCall none)).rx = none ∧
    ((47 : Byte).toNat < 48 ∧ ((settle (lastCall none)).callEntry (47 : Byte).toNat).call =
        some ⟨5, .help, 2, 1, 0, 0, some 5000, 0, none⟩ ∧
      ((settle (lastCall none)).callEntry (47 : Byte).toNat).gen = (1 : Byte).toNat) ∧
    48 ≤ (48 : Byte).toNat ∧ ((settle (lastCall none)).callEntry 47).gen ≠ (2 : Byte).toNat ∧
    (∀ b ∈ [(⟨0x55, false⟩ : RxByte), ⟨0x54, true⟩], b.val ≠ 0x55 ∨ b.stopOk = false) ∧
    (settle { State.reset with rx := some [0x81] }).rx = some [0x81] ∧ 8 < (9 : Byte).toNat ∧
    ((settle { State.reset with rx := some [0x81, 3, 0, 0, 0] }).rx = some [0x81, 3, 0, 0, 0] ∧
      (0x81 : Byte) + 3 + 0 + 0 + 0 + 0x7D ≠ 0) := by decide +kernel

end Sys2Proof.Tests
end

section
/-! PROOFS. Writing the part-written views twice writes them once: every record reads as its block's
record gives it after `publish`, and so after every command (R182, R137). -/

namespace Sys2Proof.Machine

/-! ### One record -/

/-- A record that has been written reads as written. -/
@[simp] theorem View.put_body {α : Type} [DecidableEq α] (v : View α) (b : α) : (v.put b).body = b := by
  unfold View.put
  split
  · assumption
  · rfl

/-- A record whose contents do not change keeps its edit count. -/
theorem View.put_of_body_eq {α : Type} [DecidableEq α] {v : View α} {b : α} (h : v.body = b) :
    v.put b = v := if_pos h

/-! ### A table of records -/

/-- Rewriting one more record of a table. -/
theorem putAll_cons {α : Type} [DecidableEq α] (d : View α) (f : Nat → α → α) (k : Nat) (ks : List Nat)
    (t : Tab (View α)) :
    putAll d f (k :: ks) t = putAll d f ks (putAll d f [k] t) := rfl

/-- What a table's records hold after one of them is rewritten. -/
theorem putAll_single_body {α : Type} [DecidableEq α] (d : View α) (f : Nat → α → α) (k j : Nat)
    (t : Tab (View α)) :
    (lookup d (putAll d f [k] t) j).body =
      if j = k then f j (lookup d t j).body else (lookup d t j).body := by
  simp only [putAll, List.foldl_cons, List.foldl_nil]
  by_cases hj : j = k
  · subst hj
    split
    · simpa using ‹_›
    · simp
  · split <;> simp [hj]

/-- What a table's records hold after the listed ones are rewritten, where rewriting a record twice is
rewriting it once. -/
theorem putAll_body {α : Type} [DecidableEq α] (d : View α) (f : Nat → α → α)
    (hf : ∀ k b, f k (f k b) = f k b) (ks : List Nat) (t : Tab (View α)) (j : Nat) :
    (lookup d (putAll d f ks t) j).body =
      if j ∈ ks then f j (lookup d t j).body else (lookup d t j).body := by
  induction ks generalizing t with
  | nil => simp [putAll]
  | cons k ks ih =>
    rw [putAll_cons, ih, putAll_single_body]
    by_cases hk : j = k <;> by_cases hm : j ∈ ks <;> simp [hk, hm, hf]

/-- A table whose listed records are current is not changed by rewriting them. -/
theorem putAll_of_current {α : Type} [DecidableEq α] (d : View α) (f : Nat → α → α) (ks : List Nat)
    (t : Tab (View α)) (h : ∀ k ∈ ks, (lookup d t k).body = f k (lookup d t k).body) :
    putAll d f ks t = t := by
  induction ks with
  | nil => rfl
  | cons k ks ih =>
    have hk : putAll d f [k] t = t := if_pos (h k List.mem_cons_self)
    rw [putAll_cons, hk]
    exact ih fun j hj => h j (List.mem_cons_of_mem _ hj)

/-- Rewriting a table's records twice is rewriting them once. -/
theorem putAll_putAll {α : Type} [DecidableEq α] (d : View α) (f : Nat → α → α)
    (hf : ∀ k b, f k (f k b) = f k b) (ks : List Nat) (t : Tab (View α)) :
    putAll d f ks (putAll d f ks t) = putAll d f ks t := by
  refine putAll_of_current d f ks _ fun k hk => ?_
  rw [putAll_body d f hf, if_pos hk, hf]

/-! ### The exhibit view, whose axis records have a history (R137) -/

@[simp] theorem axisBytes_length (c : Channel) (m : Bool) : (axisBytes c m).length = 13 := by
  simp [axisBytes]

@[simp] theorem axisView_length (s : State) (x : Exhibit) (fresh : Bool) (old : List Byte) (k : Nat) :
    (axisView s x fresh old k).length = 13 := by
  unfold axisView
  split
  · simp
  · dsimp only; split <;> simp

@[simp] theorem entryBytes_length (s : State) (e : Nat) (x : Exhibit) :
    (entryBytes s e x).length = 30 := by
  simp [entryBytes]

@[simp] theorem runBytes_length (s : State) (e : Nat) (x : Exhibit) : (runBytes s e x).length = 26 := by
  simp [runBytes, tickBytes]

@[simp] theorem captureBytes_length (x : Exhibit) : (captureBytes x).length = 18 := by
  unfold captureBytes
  split <;> simp

/-- The bytes of an exhibit view before its axis records. -/
def viewFront (s : State) (e : Nat) : List Byte :=
  entryBytes s e (s.ex e) ++ runBytes s e (s.ex e) ++ captureBytes (s.ex e)

theorem viewFront_length (s : State) (e : Nat) : (viewFront s e).length = 74 := by
  simp [viewFront]

/-- The first byte is the state code. -/
theorem viewFront_head (s : State) (e : Nat) (r : List Byte) :
    (viewFront s e ++ r).getD 0 0 = BitVec.ofNat 8 (s.ex e).state.code := by
  simp [viewFront, entryBytes, bytesOf]

/-- An ABSENT entry's view is clear, whatever stood there (R1). -/
theorem exhibitBytes_absent (s : State) (e : Nat) (old : List Byte) (h : (s.ex e).state = .absent) :
    exhibitBytes s e old = bytesOf 126 0 := by
  simp [exhibitBytes, h]

/-- An installed entry's view is its own bytes with four axis records. -/
theorem exhibitBytes_installed (s : State) (e : Nat) (old : List Byte)
    (h : (s.ex e).state ≠ .absent) :
    exhibitBytes s e old =
      viewFront s e ++ (List.range 4).flatMap (axisView s (s.ex e) (old.getD 0 0 == 0) old) := by
  unfold exhibitBytes
  dsimp only
  split
  · exact absurd ‹_› h
  · rfl

/-- The axis record of a slot in a view just written. -/
theorem axis_record_of_view (l : List Byte) (f : Nat → List Byte) (hl : l.length = 74)
    (hf : ∀ k, (f k).length = 13) (k : Nat) (hk : k < 4) :
    fitBytes 13 ((l ++ (List.range 4).flatMap f).drop (74 + 13 * k)) = f k := by
  have hd : (l ++ (List.range 4).flatMap f).drop (74 + 13 * k) =
      f k ++ ((List.range' (k + 1) (3 - k)).flatMap f) := by
    rw [← hl, List.drop_append, List.drop_of_length_le (by omega)]
    obtain rfl | rfl | rfl | rfl : k = 0 ∨ k = 1 ∨ k = 2 ∨ k = 3 := by omega
    all_goals simp [List.range_succ, List.drop_append, hf, List.range', List.drop_of_length_le]
  rw [hd, ← hf k, fitBytes_append]

/-- An axis record that has been written stands when its view is written again. -/
theorem axisView_again (s : State) (x : Exhibit) (fresh : Bool) (old new : List Byte) (k : Nat)
    (h : fitBytes 13 (new.drop (74 + 13 * k)) = axisView s x fresh old k) :
    axisView s x false new k = axisView s x fresh old k := by
  unfold axisView at h ⊢
  cases hx : x.axisAt k with
  | none => rfl
  | some a =>
    simp only [hx] at h ⊢
    rw [h]
    split <;> simp_all

/-- The code of an installed exhibit's state is not 0 (R20). -/
theorem ExState.code_byte_ne_zero (st : ExState) (h : st ≠ .absent) : BitVec.ofNat 8 st.code ≠ 0 := by
  cases st <;> first | exact absurd rfl h | decide

/-- Writing an exhibit view twice is writing it once. -/
theorem exhibitBytes_again (s : State) (e : Nat) (old : List Byte) :
    exhibitBytes s e (exhibitBytes s e old) = exhibitBytes s e old := by
  by_cases h : (s.ex e).state = .absent
  · rw [exhibitBytes_absent s e _ h, exhibitBytes_absent s e _ h]
  · have hfresh : ((exhibitBytes s e old).getD 0 0 == 0) = false := by
      rw [exhibitBytes_installed s e old h, viewFront_head]
      simpa using ExState.code_byte_ne_zero _ h
    rw [exhibitBytes_installed s e (exhibitBytes s e old) h, hfresh]
    conv_rhs => rw [exhibitBytes_installed s e old h]
    congr 1
    refine List.flatMap_congr fun k hk => axisView_again s _ _ old _ k ?_
    rw [exhibitBytes_installed s e old h]
    exact axis_record_of_view _ _ (viewFront_length s e) (by simp) k (List.mem_range.1 hk)

/-! ### All the views -/

/-- The views that a state's blocks give when they are written over given views. -/
def writeViews (s : State) (v : Views) : Views where
  header := v.header.put (headerBody s)
  exhibits := putAll ⟨0, bytesOf 126 0⟩ (fun e old => exhibitBytes s e old) (keys s.exhibits) v.exhibits
  calls := putAll ⟨0, bytesOf 30 0⟩ (fun n _ => callBytes s n) (keys s.calls) v.calls
  groups := putAll ⟨0, .fresh⟩ (fun g _ => groupBody s g) (keys s.groups) v.groups
  beacons := putAll ⟨0, ⟨0, 0⟩⟩ (fun b _ => beaconBody s b) (keys s.beacons) v.beacons
  tallies := putAll ⟨0, .fresh⟩ (fun i _ => tallyBody s i) (keys s.inputs) v.tallies

theorem newViews_eq (s : State) : newViews s = writeViews s s.views := rfl

/-- What the blocks give does not depend on the views or the notices. -/
theorem writeViews_publish (s : State) : writeViews (publish s) = writeViews s := rfl

/-- Writing the views twice is writing them once. -/
theorem writeViews_again (s : State) (v : Views) : writeViews s (writeViews s v) = writeViews s v := by
  unfold writeViews
  congr 1
  · exact View.put_of_body_eq (View.put_body _ _)
  · exact putAll_putAll _ (exhibitBytes s) (exhibitBytes_again s) _ _
  · exact putAll_putAll _ (fun n _ => callBytes s n) (fun _ _ => rfl) _ _
  · exact putAll_putAll _ (fun g _ => groupBody s g) (fun _ _ => rfl) _ _
  · exact putAll_putAll _ (fun b _ => beaconBody s b) (fun _ _ => rfl) _ _
  · exact putAll_putAll _ (fun i _ => tallyBody s i) (fun _ _ => rfl) _ _

/-- After `publish` every view is current. -/
theorem publish_viewsCurrent (s : State) : ViewsCurrent (publish s) := by
  rw [ViewsCurrent, newViews_eq, writeViews_publish]
  exact writeViews_again s s.views

/-- A passing millisecond leaves current views current. -/
theorem ViewsCurrent.tick {s : State} (h : ViewsCurrent s) (t : Tick) :
    ViewsCurrent { s with tick := t } := h

end Sys2Proof.Machine
end

section
/-! PROOFS. What a command comes to: its effect on the state that it finds, with the views written. -/

namespace Sys2Proof.Machine

/-! ### The effect of a command -/

/-- The effect of each command that is no order. -/
def portEffect : Instr → State → State
  | .powerOn => powerOn
  | .partReset => partReset
  | .controlHalt => enterHalt
  | .scanOrders => requestOrdersScan
  | .noticeClear bits => clearNotices bits
  | .noticeEnableWrite bits => writeEnable bits
  | .registerWrite o v => writeRegister o.val v
  | .hostWrite o d => hostWriteOf o.toNat d
  | .slotPost k => hostPost k.val
  | .slotEmpty k => hostEmpty k.val
  | .pageFree k => giveBack k.val
  | .scanPeriod => requestScan
  | .scanPass => startPass
  | .take => takeNext
  | .dueExpiry => dueEvent
  | .galleryHaltLow => haltPinLow
  | .galleryHaltHigh => haltPinHigh
  | .poll => sendPoll
  | .reply bs => receiveReply bs
  | .replyTimeout => windowCloses
  | .refillExpiry i => refillDue i.val
  | .lingerExpiry => lingerDue
  | .restTimerExpiry e => restExpired e.val
  | .grant => deliverFirst Handed.isGrant
  | .cuePulseEnd l => cueEnd (l.val + 1)
  | .motionTick c => motionTickOf c.val
  | .homingTick c => homingTickOf c.val
  | .brakingTick c => brakingTickOf c.val
  | .deadlineOverrun c => deliverFirst (Handed.isOverrunOf c.val)
  | .dwellExpiry e => dwellExpired e.val
  | .homeActive c => homeOn c.val
  | .limitActive c => limitOn c.val
  | .drvReadyActive c => readyOn c.val
  | .drvFaultActive c => faultOn c.val
  | .channelInputChange c i l => sampleChange c.val i l
  | .escalationExpiry n => escalate n.val
  | .holdExpiry e => helpHoldDue e.val
  | .refreshExpiry b => refreshDue b.val
  | .beacon => sendBeacon
  | .dark => sendDark
  | .ack c g t => receiveBytes (ackFrame c g t)
  | .badFrame bs => receiveBytes bs
  | .interbyteGap => gapPasses
  | _ => id

/-- The effect of a command: an order is posted in its slot and taken. -/
def effect (c : Instr) : State → State :=
  match c.order with
  | some (h, b) => postAndTake h b
  | none => portEffect c

theorem effect_of_order {c : Instr} {h : OrderHead} {b : OrderBody} (hc : c.order = some (h, b)) :
    effect c = postAndTake h b := by
  simp [effect, hc]

theorem effect_of_no_order {c : Instr} (hc : c.order = none) : effect c = portEffect c := by
  simp [effect, hc]

/-- The state that a command finds: everything handed over has been acted on, but for the two commands that
act on one thing handed (log entry 6). -/
def found (c : Instr) (s : State) : State :=
  match c with
  | .grant => s
  | .deadlineOverrun _ => s
  | _ => settle s

/-- Every command makes its effect on the state it finds and writes the views. -/
theorem exec_eq (c : Instr) (s : State) : exec c s = .next (publish (effect c (found c s))) := by
  cases c <;> rfl

/-- A step answers with the millisecond counted, or with a command's effect and the views. -/
theorem step_cases {s t : State} (h : step s = .next t) :
    (s.pending = [] ∧ t = { s with tick := s.tick + 1 }) ∨
      ∃ c r, s.pending = c :: r ∧ t = publish (effect c (found c { s with pending := r })) := by
  cases hp : s.pending with
  | nil =>
    rw [step, hp] at h
    exact .inl ⟨rfl, (Host.Outcome.next.inj h).symm⟩
  | cons c r =>
    rw [step_cons c r s hp, exec_eq] at h
    exact .inr ⟨c, r, rfl, (Host.Outcome.next.inj h).symm⟩

@[simp] theorem found_outer (c : Instr) (s : State) : (found c s).outer = s.outer := by
  unfold found
  split <;> simp

/-- Settles O7: an idle millisecond changes nothing that a view shows, and every command ends by writing the
views, after which each is current. -/
theorem stepKeepsViewsCurrent : Obligations.StepKeepsViewsCurrent := by
  intro s t h hstep
  obtain ⟨_, rfl⟩ | ⟨_, _, _, rfl⟩ := step_cases hstep
  · exact h.tick _
  · exact publish_viewsCurrent _

end Sys2Proof.Machine
end

section
/-! PROOFS. What the input unit, the journal, the station link, the transmitter and the walker leave alone:
the fields of the exchange port and the order unit (chapter 11). -/

namespace Sys2Proof.Machine

/-! ### The port's fields -/

/-- The fields that belong to the exchange port and the order unit, and the gallery mode and pin. -/
structure PortFields where
  pending : List Instr
  tick : Tick
  mem : List Host.Cell
  lastTaken : Nat
  pass : Option (List Nat)
  scanBit : Bool
  scanKept : Bool
  dueList : List DueEntry
  control : BitVec 4
  denial : Option Denial
  enable : BitVec 6
  mode : GalleryMode
  haltPin : Bool

/-- The port's fields among the outer ones, so that an operation that keeps these keeps those. -/
def Outer.port (o : Outer) : PortFields :=
  ⟨o.pending, o.tick, o.mem, o.lastTaken, o.pass, o.scanBit, o.scanKept, o.dueList, o.control, o.denial,
   o.enable, o.mode, o.haltPin⟩

/-- The exchange memory's stored bytes are one of the port's fields. -/
theorem port_mem {s t : State} (h : t.outer.port = s.outer.port) : t.mem = s.mem :=
  congrArg PortFields.mem h

/-- The slot taken last is one of the port's fields. -/
theorem port_lastTaken {s t : State} (h : t.outer.port = s.outer.port) : t.lastTaken = s.lastTaken :=
  congrArg PortFields.lastTaken h

/-- A fold of operations that keep the port's fields keeps them. -/
theorem port_foldl {α : Type} (f : State → α → State)
    (h : ∀ s a, (f s a).outer.port = s.outer.port) (l : List α) (s : State) :
    (l.foldl f s).outer.port = s.outer.port := by
  induction l generalizing s with
  | nil => rfl
  | cons a l ih => rw [List.foldl_cons, ih, h]

/-- Events that keep the port's fields keep them together. -/
theorem eachEvent_port (f : Nat → State → State) (hf : ∀ k s, (f k s).outer.port = s.outer.port)
    (ks : List Nat) (s : State) : (eachEvent f ks s).outer.port = s.outer.port :=
  port_foldl _ (fun s k => by rw [closeEvent_outer, hf]) _ _

@[simp] theorem State.modInp_port (s : State) (k : Nat) (f : Input → Input) :
    (s.modInp k f).outer.port = s.outer.port := rfl
@[simp] theorem State.modNode_port (s : State) (k : Nat) (f : Node → Node) :
    (s.modNode k f).outer.port = s.outer.port := rfl
@[simp] theorem State.modPage_port (s : State) (k : Nat) (f : Page → Page) :
    (s.modPage k f).outer.port = s.outer.port := rfl

/-! ### The journal (chapter 5) -/

@[simp] theorem handOver_port (k : Nat) (s : State) :
    (handOver k s).outer.port = s.outer.port := rfl

@[simp] theorem writeRecord_port (k : Nat) (r : PressRec) (s : State) :
    (writeRecord k r s).outer.port = s.outer.port := by
  unfold writeRecord
  dsimp only
  split <;> simp

@[simp] theorem placeRecord_port (r : PressRec) (s : State) :
    (placeRecord r s).outer.port = s.outer.port := by
  unfold placeRecord
  dsimp only
  split
  · exact writeRecord_port ..
  · split
    · exact writeRecord_port ..
    · rfl

@[simp] theorem lingerDue_port (s : State) : (lingerDue s).outer.port = s.outer.port := by
  unfold lingerDue
  split
  · split <;> simp
  · rfl

@[simp] theorem giveBack_port (k : Nat) (s : State) : (giveBack k s).outer.port = s.outer.port := by
  unfold giveBack
  split <;> simp

/-! ### The input unit (chapter 4) -/

@[simp] theorem spendToken_port (e i : Nat) (s : State) :
    (spendToken e i s).outer.port = s.outer.port := rfl

@[simp] theorem stampEvent_port (i : Nat) (s : State) :
    (stampEvent i s).outer.port = s.outer.port := rfl

@[simp] theorem refillDue_port (i : Nat) (s : State) : (refillDue i s).outer.port = s.outer.port := by
  unfold refillDue
  split
  · split
    · split <;> simp
    · rfl
  · rfl

@[simp] theorem busyStart_outer (e r : Nat) (p : BusyPolicy) (s : State) :
    (busyStart e r p s).1.outer = s.outer := by
  cases p with
  | ignore => rfl
  | queue => simp [busyStart]
  | restart => dsimp only [busyStart]; split <;> simp

@[simp] theorem startPress_outer (e r : Nat) (p : BusyPolicy) (s : State) :
    (startPress e r p s).1.outer = s.outer := by
  unfold startPress
  split
  · rfl
  · cases (s.ex e).state <;> dsimp only <;> (try split) <;> simp

@[simp] theorem stepPress_outer (e : Nat) (s : State) : (stepPress e s).1.outer = s.outer := by
  unfold stepPress
  split <;> simp

@[simp] theorem stopPress_outer (e : Nat) (s : State) : (stopPress e s).1.outer = s.outer := by
  unfold stopPress
  split <;> simp

@[simp] theorem applyAction_outer (e i : Nat) (s : State) : (applyAction e i s).1.outer = s.outer := by
  unfold applyAction
  split
  · rfl
  · split <;> simp

@[simp] theorem buttonPress_port (e i : Nat) (s : State) :
    (buttonPress e i s).1.outer.port = s.outer.port := by
  unfold buttonPress
  split
  · simp
  · split
    · rfl
    · split <;> simp

@[simp] theorem finishPress_port (i : Nat) (o : PressOutcome) (r : PressRec) (s : State) :
    (finishPress i o r s).outer.port = s.outer.port := by
  unfold finishPress
  dsimp only
  split <;> simp

@[simp] theorem press_port (i : Nat) (s : State) : (press i s).outer.port = s.outer.port := by
  unfold press
  dsimp only
  split <;> simp

@[simp] theorem matOn_outer (e : Nat) (s : State) : (matOn e s).outer = s.outer := by
  unfold matOn
  split <;> simp

@[simp] theorem matOff_outer (e : Nat) (s : State) : (matOff e s).outer = s.outer := by
  unfold matOff
  split <;> simp

@[simp] theorem guardOn_outer (e : Nat) (s : State) : (guardOn e s).outer = s.outer := addHold_outer ..

@[simp] theorem guardOff_outer (e : Nat) (s : State) : (guardOff e s).outer = s.outer := by
  unfold guardOff
  split <;> simp

@[simp] theorem tripOn_outer (e : Nat) (s : State) : (tripOn e s).outer = s.outer := by
  unfold tripOn
  split <;> simp

@[simp] theorem keyOn_outer (e : Nat) (s : State) : (keyOn e s).outer = s.outer := by
  simp [keyOn]

@[simp] theorem keyOff_outer (e : Nat) (s : State) : (keyOff e s).outer = s.outer := by
  unfold keyOff
  split <;> simp

@[simp] theorem classEvent_port (e i : Nat) (c : InputClass) (lvl : Bool) (s : State) :
    (classEvent e i c lvl s).outer.port = s.outer.port := by
  unfold classEvent
  split <;> simp

/-- An event of a station input keeps the port's fields. -/
@[simp] theorem inputEvent_port (i : Nat) (lvl : Bool) (s : State) :
    (inputEvent i lvl s).outer.port = s.outer.port := by
  unfold inputEvent
  dsimp only
  split
  · simp
  · split <;> simp

/-! ### The station link (chapter 3) -/

@[simp] theorem handLevels_port (f : State → Nat → Bool) (is : List Nat) (s : State) :
    (handLevels f is s).outer.port = s.outer.port :=
  port_foldl _ (fun u i => by split <;> simp) _ _

@[simp] theorem raiseSilent_outer (e : Nat) (s : State) : (raiseSilent e s).outer = s.outer := by
  unfold raiseSilent
  split <;> simp

@[simp] theorem silentCauses_outer (n : Nat) (s : State) : (silentCauses n s).outer = s.outer :=
  outer_foldl _ (fun _ _ => raiseSilent_outer ..) _ _

@[simp] theorem reviewCauses_outer (n : Nat) (s : State) : (reviewCauses n s).outer = s.outer :=
  clearCausesOf_outer ..

@[simp] theorem clearAgree_port (n : Nat) (s : State) : (clearAgree n s).outer.port = s.outer.port :=
  port_foldl _ (fun _ _ => State.modInp_port ..) _ _

@[simp] theorem nodeLeaves_port (n : Nat) (st : NodeState) (s : State) :
    (nodeLeaves n st s).outer.port = s.outer.port := by
  simp [nodeLeaves]

@[simp] theorem nodeSilent_port (n : Nat) (s : State) :
    (nodeSilent n s).outer.port = s.outer.port := by
  simp [nodeSilent]

@[simp] theorem nodeAnswers_port (n : Nat) (b : Byte) (s : State) :
    (nodeAnswers n b s).outer.port = s.outer.port := by
  have hlevels : ∀ u : State, ((inputsOf n).foldl (fun u i =>
      u.modInp i (fun x => { x with debounced := rawLevel b i, agree := 0 })) u).outer.port =
        u.outer.port := port_foldl _ (fun _ _ => State.modInp_port ..) _
  unfold nodeAnswers
  dsimp only
  split <;> simp [hlevels]

@[simp] theorem debounceNode_port (n : Nat) (b : Byte) (s : State) :
    (debounceNode n b s).outer.port = s.outer.port :=
  (handLevels_port ..).trans (port_foldl _ (fun _ _ => State.modInp_port ..) _ _)

@[simp] theorem applyGood_port (n : Nat) (b st : Byte) (s : State) :
    (applyGood n b st s).outer.port = s.outer.port := by
  have hstatus : ∀ u : State, (if (s.node n).status = st then u else setNotice noticeLink u).outer.port =
      u.outer.port := fun u => by split <;> rfl
  unfold applyGood
  dsimp only
  split
  · simp [hstatus]
  · simp [hstatus]
  · split <;> simp [hstatus]

@[simp] theorem applyMiss_port (n : Nat) (s : State) : (applyMiss n s).outer.port = s.outer.port := by
  unfold applyMiss
  dsimp only
  split
  · split <;> simp
  · rfl
  · rfl

@[simp] theorem receiveReply_port (bs : List RxByte) (s : State) :
    (receiveReply bs s).outer.port = s.outer.port := by
  unfold receiveReply
  split
  · rfl
  · dsimp only
    split
    · split
      · exact applyGood_port ..
      · rfl
    · rfl

@[simp] theorem windowCloses_port (s : State) : (windowCloses s).outer.port = s.outer.port := by
  unfold windowCloses
  split
  · rfl
  · dsimp only
    split
    · exact applyMiss_port ..
    · rfl

@[simp] theorem sendPoll_port (s : State) : (sendPoll s).outer.port = s.outer.port := by
  unfold sendPoll
  split <;> rfl

@[simp] theorem remask_port (old new : Word) (n : Nat) (s : State) :
    (remask old new n s).outer.port = s.outer.port := by
  unfold remask
  split
  · rfl
  · split
    · split <;> simp
    · rfl

@[simp] theorem applyLink_port (m : Word) (t d : Nat) (s : State) :
    (applyLink m t d s).outer.port = s.outer.port := by
  have hagree : ∀ (l : List Nat) (u : State), (l.foldl (fun u n => clearAgree n u) u).outer.port =
      u.outer.port := port_foldl _ fun _ _ => clearAgree_port ..
  unfold applyLink
  dsimp only
  rw [eachEvent_port _ fun _ _ => remask_port .., setNotice_outer, hagree]
  rfl

/-! ### The attendant channel and the zones (chapter 9) -/

@[simp] theorem sendBeacon_port (s : State) : (sendBeacon s).outer.port = s.outer.port := by
  unfold sendBeacon
  split
  · rfl
  · dsimp only
    split <;> rfl

@[simp] theorem sendDark_port (s : State) : (sendDark s).outer.port = s.outer.port := by
  unfold sendDark
  split
  · rfl
  · dsimp only
    split <;> rfl

@[simp] theorem countBad_port (s : State) : (countBad s).outer.port = s.outer.port := rfl

@[simp] theorem judgeFrame_port (bs : List Byte) (s : State) :
    (judgeFrame bs s).outer.port = s.outer.port := by
  unfold judgeFrame
  split
  · split
    · unfold matchAck
      dsimp only
      split
      · simp
      · rfl
    · rfl
  · rfl

@[simp] theorem takeByte_port (s : State) (b : RxByte) :
    (takeByte s b).outer.port = s.outer.port := by
  have hreceive : (receiveByte b s).outer.port = s.outer.port := by
    unfold receiveByte
    split
    · split <;> rfl
    · dsimp only
      split
      · rfl
      · split
        · rfl
        · split
          · exact judgeFrame_port ..
          · rfl
  unfold takeByte
  dsimp only
  split <;> simp [hreceive]

@[simp] theorem receiveBytes_port (bs : List RxByte) (s : State) :
    (receiveBytes bs s).outer.port = s.outer.port :=
  port_foldl _ takeByte_port _ _

@[simp] theorem gapPasses_port (s : State) : (gapPasses s).outer.port = s.outer.port := by
  unfold gapPasses
  split <;> rfl

@[simp] theorem giveUpUnnamed_outer (s : State) : (giveUpUnnamed s).outer = s.outer :=
  outer_foldl _ (fun _ _ => by split <;> simp) _ _

@[simp] theorem claimAddr_outer (a : Nat) (s : State) : (claimAddr a s).outer = s.outer := by
  unfold claimAddr
  split
  · simp
  · split <;> simp

@[simp] theorem applyZone_port (z : ZoneParams) (s : State) :
    (applyZone z s).outer.port = s.outer.port := by
  have hclaim : ∀ (l : List Nat) (u : State), (l.foldl (fun u a => claimAddr a u) u).outer = u.outer :=
    outer_foldl _ (fun _ _ => claimAddr_outer ..)
  unfold applyZone
  simp only [rechoose_outer, hclaim, giveUpUnnamed_outer]
  rfl

/-! ### Installation and retirement (chapter 1) -/

@[simp] theorem claimAll_port (e : Nat) (h : Head) (w : Walk) (s : State) :
    (claimAll e h w s).outer.port = s.outer.port := by
  have hinputs : ∀ (l : List Nat) (u : State), (l.foldl (fun u i =>
      reform i (u.modInp i (restartInput (some e) (fullBucket (u.ex e) i)))) u).outer.port =
        u.outer.port := port_foldl _ (fun _ _ => rfl)
  simp [claimAll, hinputs]

@[simp] theorem chooseState_outer (e k p : Nat) (s : State) :
    (chooseState e k p s).outer = s.outer := by
  unfold chooseState
  dsimp only
  split
  · simp
  · split <;> simp

@[simp] theorem install_port (e k : Nat) (h : Head) (w : Walk) (s : State) :
    (install e k h w s).outer.port = s.outer.port := by
  unfold install
  dsimp only
  split <;> simp

@[simp] theorem releaseResting_outer (e : Nat) (s : State) :
    (releaseResting e s).outer = s.outer := modAxes_outer ..

@[simp] theorem retireEndings_outer (e : Nat) (s : State) : (retireEndings e s).outer = s.outer := by
  simp [retireEndings]

@[simp] theorem retireClears_port (e : Nat) (s : State) :
    (retireClears e s).outer.port = s.outer.port := by
  have hinputs : ∀ (l : List Nat) (u : State), (l.foldl (fun u i =>
      reform i (u.modInp i (restartInput none none))) u).outer.port = u.outer.port :=
    port_foldl _ (fun _ _ => rfl)
  simp [retireClears, hinputs]

@[simp] theorem retireExhibit_port (e k : Nat) (s : State) :
    (retireExhibit e k s).outer.port = s.outer.port := by
  unfold retireExhibit
  dsimp only
  split <;> simp

end Sys2Proof.Machine
end

section
/-! PROOFS. The exchange memory's stored bytes: only a host write and power-on change them (R3, R179). -/

namespace Sys2Proof.Machine

/-! ### What performing an order gives -/

/-- What performing an order gives, if it is not refused, satisfies a property. -/
def Verdict.Gives (P : State → Prop) : Verdict → Prop
  | .refuse _ _ => True
  | .go t => P t

@[simp] theorem Verdict.gives_refuse (P : State → Prop) (a : Acceptance) (r : Word) :
    (Verdict.refuse a r).Gives P := trivial

@[simp] theorem Verdict.gives_go (P : State → Prop) (t : State) : (Verdict.go t).Gives P ↔ P t := .rfl

@[simp] theorem doneWith_gives (P : State → Prop) (k : Nat) (r : Word) (s : State) :
    (doneWith k r s).Gives P ↔ P (complete k .done r s) := .rfl

theorem Verdict.Gives.imp {P Q : State → Prop} {v : Verdict} (h : v.Gives P) (hpq : ∀ t, P t → Q t) :
    v.Gives Q := by
  cases v with
  | refuse a r => trivial
  | go t => exact hpq t h

/-! ### Orders that keep the outer fields -/

section
variable (e k : Nat) (s : State)

theorem homeOrder_outer : (homeOrder e k s).Gives (fun t => t.outer = s.outer) := by
  unfold homeOrder
  split
  · simp
  · split <;> simp

theorem stopOrder_outer : (stopOrder e k s).Gives (fun t => t.outer = s.outer) := by
  unfold stopOrder
  split <;> simp

theorem lockOrder_outer : (lockOrder e k s).Gives (fun t => t.outer = s.outer) := by
  unfold lockOrder
  split <;> simp

theorem returnOrder_outer : (returnOrder e k s).Gives (fun t => t.outer = s.outer) := by
  unfold returnOrder
  dsimp only
  split <;> simp

theorem runOrder_outer (r : Nat) (b : Bool) :
    (runOrder e k r b s).Gives (fun t => t.outer = s.outer) := by
  unfold runOrder
  dsimp only
  split
  · simp
  · cases (s.ex e).state <;> dsimp only <;> (try split) <;> simp

theorem stepOrder_outer : (stepOrder e k s).Gives (fun t => t.outer = s.outer) := by
  unfold stepOrder
  split <;> simp

theorem clearOrder_outer (c : Nat) : (clearOrder e k c s).Gives (fun t => t.outer = s.outer) := by
  unfold clearOrder
  split <;> simp

theorem clearFaultOf_outer (c : Capture) : (clearFaultOf e c s).outer = s.outer := by
  unfold clearFaultOf
  dsimp only
  split
  · split <;> simp
  · simp

theorem faultOrder_outer : (faultOrder e k s).Gives (fun t => t.outer = s.outer) := by
  unfold faultOrder
  dsimp only
  split
  · simp
  · split <;> simp [clearFaultOf_outer]

theorem clearRoutineOrder_outer (r : Nat) :
    (clearRoutineOrder k r s).Gives (fun t => t.outer = s.outer) := by
  unfold clearRoutineOrder
  split <;> simp

theorem refuseWaiting_outer (r : Request) : (refuseWaiting r s).outer = s.outer := by
  unfold refuseWaiting
  cases r.purpose <;> dsimp only <;> (try split) <;> simp

theorem afterRefusal_outer (r : Request) : (afterRefusal r s).outer = s.outer := by
  unfold afterRefusal
  split <;> simp

theorem budgetOrder_outer (g b : Nat) :
    (budgetOrder k g b s).Gives (fun t => t.outer = s.outer) := by
  have hrefuse : ∀ (l : List Request) (u : State),
      (l.foldl (fun u r => publish (refuseWaiting r u)) u).outer = u.outer :=
    outer_foldl _ fun u r => by rw [publish_outer, refuseWaiting_outer]
  have hafter : ∀ (l : List Request) (u : State),
      (l.foldl (fun u r => afterRefusal r (closeEvent u)) u).outer = u.outer :=
    outer_foldl _ fun u r => by rw [afterRefusal_outer, closeEvent_outer]
  simp [budgetOrder, hrefuse, hafter]

end

/-! ### Orders that keep the port's fields -/

theorem bringUpOrder_port (e k o : Nat) (s : State) :
    (bringUpOrder e k o s).Gives (fun t => t.outer.port = s.outer.port) := by
  unfold bringUpOrder
  split
  · simp
  · split <;> simp

theorem linkOrder_port (k : Nat) (m : Word) (t d : Nat) (s : State) :
    (linkOrder k m t d s).Gives (fun u => u.outer.port = s.outer.port) := by
  simp [linkOrder]

theorem placeCopy_outer (k r : Nat) (c : RoutineCopy) (s : State) :
    (placeCopy k r c s).outer = s.outer := by
  unfold placeCopy
  dsimp only
  split <;> simp

theorem commitOrder_port (k r o : Nat) (due : Bool) (s : State) :
    (commitOrder k r o due s).Gives (fun t => t.outer.port = s.outer.port) := by
  unfold commitOrder commitRecord
  split
  · simp
  · dsimp only
    cases firstFit (stageByte s.mem o) s with
    | none => simp
    | some f =>
      simp only [Verdict.gives_go, placeCopy_outer]
      rfl

theorem zoneOrder_port (k : Nat) (z : ZoneParams) (s : State) :
    (zoneOrder k z s).Gives (fun t => t.outer.port = s.outer.port) := by
  unfold zoneOrder
  split <;> simp

/-! ### The gallery mode -/

theorem enterHalt_mem (s : State) : (enterHalt s).mem = s.mem := by
  unfold enterHalt
  split
  · rfl
  · exact (outer_mem (holdGallery_outer _)).trans rfl

theorem setMode_mem (m : GalleryMode) (s : State) : (setMode m s).mem = s.mem := by
  unfold setMode
  split
  · exact enterHalt_mem s
  · split
    · exact (outer_mem (releaseGallery_outer _)).trans rfl
    · rfl

/-! ### The order unit -/

/-- Performing an order keeps the stored bytes. -/
theorem performOrder_mem (k : Nat) (h : HostFields) (b : OrderBody) (s : State) :
    (performOrder k h b s).Gives (fun t => t.mem = s.mem) := by
  have ofOuter : ∀ {v : Verdict}, v.Gives (fun t => t.outer = s.outer) → v.Gives (fun t => t.mem = s.mem) :=
    fun hv => hv.imp fun _ => outer_mem
  have ofPort : ∀ {v : Verdict}, v.Gives (fun t => t.outer.port = s.outer.port) →
      v.Gives (fun t => t.mem = s.mem) := fun hv => hv.imp fun _ => port_mem
  cases b with
  | bringUp o => exact ofPort (bringUpOrder_port ..)
  | retire => exact port_mem (retireExhibit_port ..)
  | setAccess m => rfl
  | home => exact ofOuter (homeOrder_outer ..)
  | stop => exact ofOuter (stopOrder_outer ..)
  | hold => exact outer_mem (addHold_outer ..)
  | release => exact outer_mem (removeHold_outer ..)
  | lockOut => exact ofOuter (lockOrder_outer ..)
  | returnToService => exact ofOuter (returnOrder_outer ..)
  | setMode m =>
    simp only [performOrder, modeOrder]
    split
    · trivial
    · exact setMode_mem _ s
  | setLamps p => rfl
  | setLink m t d => exact ofPort (linkOrder_port ..)
  | runRoutine r => exact ofOuter (runOrder_outer ..)
  | stepRun => exact ofOuter (stepOrder_outer ..)
  | commit r o => exact ofPort (commitOrder_port ..)
  | clearRoutine r => exact ofOuter (clearRoutineOrder_outer ..)
  | setBudget g b => exact ofOuter (budgetOrder_outer ..)
  | setZone z => exact ofPort (zoneOrder_port ..)
  | raiseCall v => exact outer_mem (raiseCause_outer ..)
  | ackCall c => exact outer_mem (ackCauses_outer ..)
  | clearCall c => exact ofOuter (clearOrder_outer ..)
  | clearFault => exact ofOuter (faultOrder_outer ..)
  | setControl m => rfl
  | setClock t => rfl
  | cancel n =>
    simp only [performOrder, cancelOrder]
    split <;> rfl

theorem captureDenial_mem (k : Nat) (h : HostFields) (s : State) : (captureDenial k h s).mem = s.mem := by
  unfold captureDenial
  split <;> rfl

theorem refuseAtTake_mem (k : Nat) (h : HostFields) (a : Acceptance) (r : Word) (s : State) :
    (refuseAtTake k h a r s).mem = s.mem := by
  unfold refuseAtTake
  dsimp only
  split
  · exact captureDenial_mem ..
  · rfl

theorem performDue_mem (d : DueEntry) (s : State) : (performDue d s).mem = s.mem := by
  unfold performDue
  split
  · rfl
  · split
    · rfl
    · split
      · exact captureDenial_mem ..
      · have hgives := performOrder_mem d.slot d.host ‹_› s
        split
        · next hgo => rw [hgo] at hgives; exact hgives
        · rfl

theorem dueNext_mem (s : State) : (dueNext s).mem = s.mem := by
  unfold dueNext
  split
  · rfl
  · exact performDue_mem ..

theorem dueEvent_mem (s : State) : (dueEvent s).mem = s.mem := by
  unfold dueEvent
  split
  · rfl
  · split
    · exact performDue_mem ..
    · rfl

theorem evaluateDue_mem (s : State) : (evaluateDue s).mem = s.mem :=
  eachEvent_induct (P := fun t => t.mem = s.mem) _ _ s rfl fun _ t _ ht =>
    ((outer_mem (closeEvent_outer _)).trans (dueNext_mem t)).trans ht

theorem enterDue_mem (k : Nat) (h : HostFields) (s : State) : (enterDue k h s).mem = s.mem := by
  unfold enterDue
  dsimp only
  split
  · exact evaluateDue_mem _
  · rfl

theorem decideOrder_mem (k : Nat) (h : HostFields) (s : State) : (decideOrder k h s).mem = s.mem := by
  unfold decideOrder
  split
  · exact refuseAtTake_mem ..
  · exact refuseAtTake_mem ..
  · next b _ _ =>
    split
    · exact enterDue_mem ..
    · have hgives := performOrder_mem k h b (acceptOrder k s)
      split
      · exact refuseAtTake_mem ..
      · next hgo =>
        rw [hgo] at hgives
        split
        · exact (evaluateDue_mem _).trans hgives
        · exact hgives

/-- Taking a slot keeps the stored bytes. -/
theorem takeSlot_mem (k : Nat) (s : State) : (takeSlot k s).mem = s.mem := decideOrder_mem ..

theorem postAndTake_mem (h : OrderHead) (b : OrderBody) (s : State) :
    (postAndTake h b s).mem = s.mem := by
  unfold postAndTake
  dsimp only
  split
  · rfl
  · exact takeSlot_mem ..

theorem takeNext_mem (s : State) : (takeNext s).mem = s.mem := by
  unfold takeNext
  split
  · rfl
  · split
    · rfl
    · exact takeSlot_mem ..

theorem startPass_mem (s : State) : (startPass s).mem = s.mem := by
  unfold startPass
  split <;> rfl

/-! ### Resets, registers and host writes -/

theorem haltIfLow_mem (s : State) : (haltIfLow s).mem = s.mem := by
  unfold haltIfLow
  split
  · rfl
  · exact enterHalt_mem s

/-- Power-on clears the exchange memory (R191). -/
theorem powerOn_mem (s : State) : (powerOn s).mem = [] := haltIfLow_mem _

/-- PART RESET keeps the descriptor and staging areas (R191). -/
theorem partReset_mem (s : State) : (partReset s).mem = s.mem := haltIfLow_mem _

theorem writeControl_mem (b : Byte) (s : State) : (writeControl b s).mem = s.mem := by
  have hreset : (if b.getLsbD 0 then partReset s else s).mem = s.mem := by
    split
    · exact partReset_mem s
    · rfl
  unfold writeControl
  dsimp only
  split
  · exact (enterHalt_mem _).trans hreset
  · exact hreset

theorem writeRegister_mem (o : Nat) (b : Byte) (s : State) : (writeRegister o b s).mem = s.mem := by
  unfold writeRegister
  split
  · split <;> rfl
  · rfl
  · rfl
  · exact writeControl_mem b s
  · rfl

theorem hostPost_mem (k : Nat) (s : State) : (hostPost k s).mem = s.mem := by
  unfold hostPost
  split <;> rfl

theorem hostEmpty_mem (k : Nat) (s : State) : (hostEmpty k s).mem = s.mem := by
  unfold hostEmpty
  split <;> rfl

theorem writeSlotByte_mem (k o : Nat) (b : Byte) (s : State) :
    (writeSlotByte k o b s).mem = s.mem := by
  unfold writeSlotByte
  split
  · split
    · exact hostPost_mem k s
    · split
      · exact hostEmpty_mem k s
      · rfl
  · split <;> rfl

theorem writeJournalByte_mem (o : Nat) (b : Byte) (s : State) :
    (writeJournalByte o b s).mem = s.mem := by
  unfold writeJournalByte
  split
  · exact port_mem (giveBack_port ..)
  · rfl

/-- A host byte is stored in the descriptor and staging areas and nowhere else (R179). -/
theorem writeByte_mem (a : Nat) (b : Byte) (s : State) :
    (writeByte a b s).mem = if 0x4000 ≤ a ∧ a < 0xC000 then poke s.mem a b else s.mem := by
  unfold writeByte
  split
  · rw [if_neg (by omega)]; exact writeSlotByte_mem ..
  · split
    · rw [if_neg (by omega)]; exact writeJournalByte_mem ..
    · split
      · rfl
      · split
        · exact writeRegister_mem ..
        · rfl

theorem writeByte_keeps_canonical (a : Nat) (b : Byte) (s : State) (h : MemoryCanonical s) :
    MemoryCanonical (writeByte a b s) := by
  rw [MemoryCanonical, writeByte_mem]
  split
  · exact Memory.wf_poke _ _ _ h
  · exact h

theorem hostWriteOf_keeps_canonical (a : Nat) (d : HostData) (s : State) (h : MemoryCanonical s) :
    MemoryCanonical (hostWriteOf a d s) := by
  cases d with
  | byte b => exact writeByte_keeps_canonical _ _ _ h
  | half v => exact writeByte_keeps_canonical _ _ _ (writeByte_keeps_canonical _ _ _ h)

theorem haltPinLow_mem (s : State) : (haltPinLow s).mem = s.mem := by
  unfold haltPinLow
  split
  · exact enterHalt_mem _
  · rfl

/-! ### Every command -/

/-- Every command but a host write and power-on keeps the stored bytes. -/
theorem portEffect_mem (c : Instr) (s : State) (hw : ∀ o d, c ≠ .hostWrite o d) (hp : c ≠ .powerOn) :
    (portEffect c s).mem = s.mem := by
  cases c with
  | hostWrite o d => exact absurd rfl (hw o d)
  | powerOn => exact absurd rfl hp
  | partReset => exact partReset_mem s
  | controlHalt => exact enterHalt_mem s
  | registerWrite o v => exact writeRegister_mem o.val v s
  | slotPost k => exact hostPost_mem k.val s
  | slotEmpty k => exact hostEmpty_mem k.val s
  | scanPass => exact startPass_mem s
  | take => exact takeNext_mem s
  | dueExpiry => exact dueEvent_mem s
  | pageFree k => exact port_mem (giveBack_port k.val s)
  | galleryHaltLow => exact haltPinLow_mem s
  | poll => exact port_mem (sendPoll_port s)
  | reply bs => exact port_mem (receiveReply_port bs s)
  | replyTimeout => exact port_mem (windowCloses_port s)
  | refillExpiry i => exact port_mem (refillDue_port i.val s)
  | lingerExpiry => exact port_mem (lingerDue_port s)
  | restTimerExpiry e => exact outer_mem (restExpired_outer e.val s)
  | grant => exact outer_mem (deliverFirst_outer _ s)
  | cuePulseEnd l => exact outer_mem (cueEnd_outer (l.val + 1) s)
  | motionTick c => exact outer_mem (motionTickOf_outer c.val s)
  | homingTick c => exact outer_mem (homingTickOf_outer c.val s)
  | brakingTick c => exact outer_mem (brakingTickOf_outer c.val s)
  | deadlineOverrun c => exact outer_mem (deliverFirst_outer _ s)
  | dwellExpiry e => exact outer_mem (dwellExpired_outer e.val s)
  | homeActive c => exact outer_mem (homeOn_outer c.val s)
  | limitActive c => exact outer_mem (limitOn_outer c.val s)
  | drvReadyActive c => exact outer_mem (readyOn_outer c.val s)
  | drvFaultActive c => exact outer_mem (faultOn_outer c.val s)
  | channelInputChange c i l => exact outer_mem (sampleChange_outer c.val i l s)
  | escalationExpiry n => exact outer_mem (escalate_outer n.val s)
  | holdExpiry e => exact outer_mem (helpHoldDue_outer e.val s)
  | refreshExpiry b => exact outer_mem (refreshDue_outer b.val s)
  | beacon => exact port_mem (sendBeacon_port s)
  | dark => exact port_mem (sendDark_port s)
  | ack c g t => exact port_mem (receiveBytes_port (ackFrame c g t) s)
  | badFrame bs => exact port_mem (receiveBytes_port bs s)
  | interbyteGap => exact port_mem (gapPasses_port s)
  | _ => rfl

/-- The effect of every command keeps the canonical form. -/
theorem effect_keeps_canonical (c : Instr) (s : State) (h : MemoryCanonical s) :
    MemoryCanonical (effect c s) := by
  cases hc : c.order with
  | some o =>
    rw [MemoryCanonical, effect_of_order hc, postAndTake_mem]
    exact h
  | none =>
    rw [effect_of_no_order hc]
    by_cases hp : c = .powerOn
    · subst hp
      rw [MemoryCanonical, show portEffect .powerOn s = powerOn s from rfl, powerOn_mem]
      rfl
    · by_cases hw : ∃ o d, c = .hostWrite o d
      · obtain ⟨o, d, rfl⟩ := hw
        exact hostWriteOf_keeps_canonical _ _ _ h
      · rw [MemoryCanonical, portEffect_mem c s (fun o d hc => hw ⟨o, d, hc⟩) hp]
        exact h

/-- Settles O4: the state a command finds has the stored bytes it started from, its effect keeps them or
writes one byte after another, and the views are no part of them. -/
theorem stepKeepsMemoryCanonical : Obligations.StepKeepsMemoryCanonical := by
  intro s t h hstep
  obtain ⟨_, rfl⟩ | ⟨c, r, _, rfl⟩ := step_cases hstep
  · exact h
  · refine effect_keeps_canonical c _ ?_
    rw [MemoryCanonical, outer_mem (found_outer c _)]
    exact h

end Sys2Proof.Machine
end

section
/-! PROOFS. The take of an order (R184, R185): what posting, taking and accepting leave in the slot, when no
check refuses, and what a completed and a refused order's slot show. -/

namespace Sys2Proof.Machine

/-! ### Frames -/

theorem KeptBut.refl (fs : List Field) (s : State) : KeptBut fs s s := by
  intro f _
  cases f <;> rfl

theorem KeptBut.trans {fs : List Field} {s t u : State} (h : KeptBut fs s t) (k : KeptBut fs t u) :
    KeptBut fs s u := by
  intro f hf
  have hst := h f hf
  have htu := k f hf
  cases f <;> exact Eq.trans htu hst

theorem KeptBut.mono {fs gs : List Field} {s t : State} (h : KeptBut fs s t) (hsub : fs ⊆ gs) :
    KeptBut gs s t := fun f hf => h f fun hm => hf (hsub hm)

/-- A fold of operations that keep the fields outside a list keeps them. -/
theorem KeptBut.foldl {α : Type} {fs : List Field} (f : State → α → State)
    (h : ∀ s a, KeptBut fs s (f s a)) (l : List α) (s : State) : KeptBut fs s (l.foldl f s) := by
  induction l generalizing s with
  | nil => exact .refl fs s
  | cons a l ih => exact (h s a).trans (ih _)

theorem State.modEx_keptBut (s : State) (e : Nat) (f : Exhibit → Exhibit) :
    KeptBut [.exhibits] s (s.modEx e f) := by
  intro g hg
  cases g <;> first | rfl | exact absurd List.mem_cons_self hg

theorem State.modSlot_keptBut (s : State) (k : Nat) (f : Slot → Slot) :
    KeptBut [.slots] s (s.modSlot k f) := by
  intro g hg
  cases g <;> first | rfl | exact absurd List.mem_cons_self hg

theorem State.modInp_keptBut (s : State) (i : Nat) (f : Input → Input) :
    KeptBut [.inputs] s (s.modInp i f) := by
  intro g hg
  cases g <;> first | rfl | exact absurd List.mem_cons_self hg

theorem setNotice_keptBut (n : BitVec 6) (s : State) : KeptBut [.notice] s (setNotice n s) := by
  intro g hg
  cases g <;> first | rfl | exact absurd List.mem_cons_self hg

theorem publish_keptBut (s : State) : KeptBut viewFields s (publish s) := by
  intro g hg
  cases g <;> first | rfl | exact absurd (by decide) hg

theorem complete_keptBut (k : Nat) (o : OrderOutcome) (r : Word) (s : State) :
    KeptBut [.slots, .notice] s (complete k o r s) := by
  intro g hg
  cases g <;> first | rfl | exact absurd (by decide) hg

theorem with_control_keptBut (s : State) (m : BitVec 4) :
    KeptBut [.control] s { s with control := m } := by
  intro g hg
  cases g <;> first | rfl | exact absurd List.mem_cons_self hg

/-! ### Notices -/

/-- Writing the views sets notices and clears none (R181). -/
theorem publish_notice_of (s : State) (i : Nat) (h : s.notice.getLsbD i = true) :
    (publish s).notice.getLsbD i = true := by
  simp [publish, h]

/-! ### The slot of an order that is taken -/

/-- What a take and an acceptance write in a slot and a completion leaves as it is: the host fields, the
acceptance code and the taken tick. -/
def Slot.take (x : Slot) : HostFields × Acceptance × Tick := (x.host, x.acceptance, x.takenTick)

@[simp] theorem complete_take (k : Nat) (o : OrderOutcome) (r : Word) (s : State) (j : Nat) :
    ((complete k o r s).slot j).take = (s.slot j).take := by
  by_cases h : j = k
  · subst h; simp [Slot.take]
  · rw [complete_slot_other _ _ _ _ _ h]

section
variable (h : OrderHead) (b : OrderBody) (u : State)

/-- The order posted in its slot, and the slot taken (R183, R184). -/
def postedAndTaken : State :=
  let s := u.modSlot h.slot.val (fun x => { x with state := .posted, host := hostFieldsOf h b })
  markTaken h.slot.val { s with pass := s.pass.map (fun l => l.filter (fun j => j != h.slot.val)) }

/-- The order posted, taken and accepted (R185). -/
def accepted : State := acceptOrder h.slot.val (postedAndTaken h b u)

theorem postedAndTaken_slot :
    (postedAndTaken h b u).slot h.slot.val =
      { u.slot h.slot.val with
        edit := (u.slot h.slot.val).edit + 2, state := .taken, host := hostFieldsOf h b, outcome := .none,
        takenTick := u.tick, doneTick := 0, result := 0 } := by
  simp [postedAndTaken, markTaken, State.slot, State.modSlot]

theorem postedAndTaken_slot_other {j : Nat} (hj : j ≠ h.slot.val) :
    (postedAndTaken h b u).slot j = u.slot j := by
  simp [postedAndTaken, markTaken, State.slot, State.modSlot, hj]

theorem postedAndTaken_lastTaken : (postedAndTaken h b u).lastTaken = h.slot.val := rfl

theorem postedAndTaken_keptBut : KeptBut [.slots, .lastTaken, .pass] u (postedAndTaken h b u) := by
  intro g hg
  cases g <;> first | rfl | exact absurd (by decide) hg

theorem accepted_take :
    ((accepted h b u).slot h.slot.val).take = (hostFieldsOf h b, .accepted, u.tick) := by
  simp [accepted, acceptOrder, postedAndTaken_slot, Slot.take]

theorem accepted_slot_other {j : Nat} (hj : j ≠ h.slot.val) : (accepted h b u).slot j = u.slot j := by
  rw [accepted, acceptOrder, State.modSlot_slot_other _ _ _ _ hj, postedAndTaken_slot_other h b u hj]

@[simp] theorem accepted_lastTaken : (accepted h b u).lastTaken = h.slot.val := rfl
@[simp] theorem accepted_tick : (accepted h b u).tick = u.tick := rfl
@[simp] theorem accepted_control : (accepted h b u).control = u.control := rfl
@[simp] theorem accepted_ex (e : Nat) : (accepted h b u).ex e = u.ex e := rfl
@[simp] theorem accepted_ch (c : Nat) : (accepted h b u).ch c = u.ch c := rfl
@[simp] theorem accepted_inp (i : Nat) : (accepted h b u).inp i = u.inp i := rfl

theorem accepted_keptBut : KeptBut [.slots, .lastTaken, .pass] u (accepted h b u) := by
  intro g hg
  cases g <;> first | rfl | exact absurd (by decide) hg

end

/-! ### The checks -/

/-- The checks of the take read nothing that the take writes. -/
theorem takeRefusal_postedAndTaken (h : OrderHead) (b : OrderBody) (u : State) (k : Nat)
    (x : HostFields) : takeRefusal (postedAndTaken h b u) k x = takeRefusal u k x := rfl

section
variable {h : OrderHead} {b : OrderBody} {u : State}

/-- Posting in a slot that is not TAKEN leads to the decision of the order. -/
theorem postAndTake_of_open (hopen : SlotOpen u h) :
    postAndTake h b u = decideOrder h.slot.val (hostFieldsOf h b) (postedAndTaken h b u) := by
  simp only [postAndTake, if_neg hopen, takeSlot, postedAndTaken]
  congr 1
  simp [State.slot, State.modSlot]

/-- An order that no check refuses, that is not timed and is no SET CLOCK is performed at its take. -/
theorem postAndTake_of_go {t : State} (hopen : SlotOpen u h)
    (hread : readOrder (hostFieldsOf h b).kind (hostFieldsOf h b).params = some b)
    (hchecks : takeRefusal u h.slot.val (hostFieldsOf h b) = none) (huntimed : Untimed h)
    (hclock : kindCodeOf b ≠ 24)
    (hgo : performOrder h.slot.val (hostFieldsOf h b) b (accepted h b u) = .go t) :
    postAndTake h b u = t := by
  have hdue : (hostFieldsOf h b).duePresent = false := huntimed
  rw [postAndTake_of_open hopen]
  unfold decideOrder
  simp only [takeRefusal_postedAndTaken, hchecks, hread, hdue, Bool.and_false]
  rw [← accepted, hgo]
  simp [hclock]

/-- An order that a check refuses is refused at its take. -/
theorem postAndTake_of_refusal {a : Acceptance} (hopen : SlotOpen u h)
    (hchecks : takeRefusal u h.slot.val (hostFieldsOf h b) = some a) :
    postAndTake h b u =
      refuseAtTake h.slot.val (hostFieldsOf h b) a 0 (postedAndTaken h b u) := by
  rw [postAndTake_of_open hopen]
  unfold decideOrder
  rw [takeRefusal_postedAndTaken, hchecks]

/-- The exhibit check passes for a kind that acts on an installed exhibit without retire pending. -/
theorem exhibitCheck_named (hscope : scopeOf b = .exhibit ∨ ∃ m, b = .setAccess m)
    (hnamed : NamesExhibit u h) : exhibitCheck u (OrderHead.ex h) b = none := by
  obtain ⟨hnum, hinst, hret⟩ := hnamed
  have hpass : (if 31 < OrderHead.ex h ∨ (u.ex (OrderHead.ex h)).installed = false then some .badExhibit
      else if (u.ex (OrderHead.ex h)).retire.isSome then some .state else none) =
        (none : Option Acceptance) := by
    simp [Nat.not_lt.2 hnum, hinst, hret]
  unfold exhibitCheck
  dsimp only
  split
  · simp [scopeOf] at hscope
  · exact hpass
  · exact hpass
  · rfl
  · rfl

/-- The exhibit check passes for a gallery-wide kind that names no exhibit. -/
theorem exhibitCheck_gallery (e : Nat) (hscope : scopeOf b = .gallery) (hbring : ∀ o, b ≠ .bringUp o)
    (haccess : ∀ m, b ≠ .setAccess m) : exhibitCheck u e b = none := by
  unfold exhibitCheck
  dsimp only
  split
  · exact absurd rfl (hbring _)
  · exact absurd rfl (haccess _)
  · simp_all
  · rfl
  · rfl

/-- The access check of an exhibit kind asks the exhibit's access mask (R186). -/
theorem accessAllowed_exhibit (k e : Nat) (hscope : scopeOf b = .exhibit) :
    accessAllowed u k e b = (u.ex e).access.getLsbD (sourceOf k) := by
  unfold accessAllowed
  split
  · simp [scopeOf] at hscope
  · simp_all
  · simp_all
  · simp_all

/-- The access check of a gallery-wide kind asks the control mask (R186). -/
theorem accessAllowed_gallery (k e : Nat) (hscope : scopeOf b = .gallery) :
    accessAllowed u k e b = u.control.getLsbD (sourceOf k) := by
  unfold accessAllowed
  split
  · simp [scopeOf] at hscope
  · simp_all
  · simp_all
  · simp_all

/-- An untimed order whose exhibit, source and parameters are in order passes every check. -/
theorem takeRefusal_none
    (hread : readOrder (hostFieldsOf h b).kind (hostFieldsOf h b).params = some b)
    (hexhibit : exhibitCheck u (OrderHead.ex h) b = none)
    (haccess : accessAllowed u h.slot.val (OrderHead.ex h) b = true) (hparams : paramsOk b = true)
    (huntimed : Untimed h) : takeRefusal u h.slot.val (hostFieldsOf h b) = none := by
  have hdue : (hostFieldsOf h b).duePresent = false := huntimed
  have hparam : paramCheck (hostFieldsOf h b) b = true := by
    unfold paramCheck
    split <;> simp [hparams, hdue]
  have hex : (hostFieldsOf h b).exhibit.toNat = OrderHead.ex h := rfl
  simp [takeRefusal, hread, hex, hexhibit, haccess, hparam, hdue]

/-- Parameters out of range are refused once the exhibit and the source have passed. -/
theorem takeRefusal_badParameter
    (hread : readOrder (hostFieldsOf h b).kind (hostFieldsOf h b).params = some b)
    (hexhibit : exhibitCheck u (OrderHead.ex h) b = none)
    (haccess : accessAllowed u h.slot.val (OrderHead.ex h) b = true) (hparams : paramsOk b = false) :
    takeRefusal u h.slot.val (hostFieldsOf h b) = some .badParameter := by
  have hparam : paramCheck (hostFieldsOf h b) b = false := by
    unfold paramCheck
    split
    · simp [paramsOk] at hparams
    · simp [hparams]
  have hex : (hostFieldsOf h b).exhibit.toNat = OrderHead.ex h := rfl
  simp [takeRefusal, hread, hex, hexhibit, haccess, hparam]

/-! ### Completed and refused orders -/

/-- The command of an order posts and takes it in the settled state and writes the views. -/
theorem exec_orderCommand {s t : State} (ht : postAndTake h b (settle s) = t) :
    exec (orderCommand h b) s = .next (publish t) := by
  subst ht
  cases b <;> rfl

/-- The take adds nothing to a frame that has the order unit's fields. -/
theorem keptBut_accepted {fs : List Field} (hfs : orderFields ⊆ fs) :
    KeptBut fs u (accepted h b u) :=
  ((accepted_keptBut h b u).mono (by decide)).mono hfs

/-- A completion and the views add nothing to a frame that has the order unit's fields. -/
theorem KeptBut.publish_complete {fs : List Field} {v : State} (hv : KeptBut fs u v)
    (hfs : orderFields ⊆ fs) (k : Nat) (o : OrderOutcome) (r : Word) :
    KeptBut fs u (publish (complete k o r v)) :=
  hv.trans <| (((complete_keptBut k o r v).mono (by decide)).trans
    ((publish_keptBut _).mono (by decide))).mono hfs

/-- A completion that keeps what the take wrote in the slot leaves the slot DONE with its result word. -/
theorem slotDone_of_complete {v : State} {r : Word}
    (htake : (v.slot h.slot.val).take = (hostFieldsOf h b, .accepted, u.tick))
    (hlast : v.lastTaken = h.slot.val) :
    SlotDone u (publish (complete h.slot.val .done r v)) h b r := by
  obtain ⟨hhost, haccept, htick⟩ : (v.slot h.slot.val).host = hostFieldsOf h b ∧
      (v.slot h.slot.val).acceptance = .accepted ∧ (v.slot h.slot.val).takenTick = u.tick := by
    simpa [Slot.take] using htake
  refine ⟨?_, ?_, ?_, ?_, ?_, ?_, ?_, hlast, publish_notice_of _ 0 (by simp [noticeOrders])⟩ <;>
    simp [hhost, haccept, htick]

/-- A refusal at the take that is no denial changes nothing but the slot's handling. -/
theorem refusedOnly_of_refuseAtTake {a : Acceptance} {r : Word} (ha : a ≠ .denied) :
    RefusedOnly u (publish (refuseAtTake h.slot.val (hostFieldsOf h b) a r (postedAndTaken h b u)))
      h b a r := by
  have hrefuse : refuseAtTake h.slot.val (hostFieldsOf h b) a r (postedAndTaken h b u) =
      setNotice noticeOrders ((postedAndTaken h b u).modSlot h.slot.val (fun x =>
        { x with edit := x.edit + 2, state := .done, acceptance := a, outcome := .refused,
                 doneTick := x.takenTick, result := r })) := if_neg ha
  rw [hrefuse]
  refine ⟨⟨?_, ?_, ?_, ?_, ?_, ?_, ?_, ?_, ?_⟩, fun j hj => ?_, ?_⟩
  iterate 7 simp [postedAndTaken_slot]
  · simp [postedAndTaken_lastTaken]
  · exact publish_notice_of _ 0 (by simp [setNotice, noticeOrders])
  · simp [State.modSlot_slot_other _ _ _ _ hj, postedAndTaken_slot_other h b u hj]
  · exact ((postedAndTaken_keptBut h b u).mono (by decide)).trans <|
      ((State.modSlot_keptBut _ _ _).mono (by decide)).trans <|
      ((setNotice_keptBut _ _).mono (by decide)).trans ((publish_keptBut _).mono (by decide))

end

end Sys2Proof.Machine
end

section
/-! PROOFS. SET ACCESS and SET CONTROL replace their masks (R19, R186). -/

namespace Sys2Proof.Machine

/-- SET ACCESS is read from its slot as written. -/
theorem readOrder_setAccess (h : OrderHead) (m : Byte) :
    readOrder (hostFieldsOf h (.setAccess m)).kind (hostFieldsOf h (.setAccess m)).params =
      some (.setAccess m) := by
  simp [hostFieldsOf, kindCodeOf, readOrder, paramBytes, paramField]

/-- SET CONTROL is read from its slot as written. -/
theorem readOrder_setControl (h : OrderHead) (m : Byte) :
    readOrder (hostFieldsOf h (.setControl m)).kind (hostFieldsOf h (.setControl m)).params =
      some (.setControl m) := by
  simp [hostFieldsOf, kindCodeOf, readOrder, paramBytes, paramField]

section
variable {h : OrderHead} {m : Byte} {u : State}

/-- What an accepted SET ACCESS comes to. -/
theorem postAndTake_setAccess (hmay : MayOrderGallery u h) (hnamed : NamesExhibit u h)
    (huntimed : Untimed h) (hm : m.toNat < 16) :
    postAndTake h (.setAccess m) u =
      complete h.slot.val .done (BitVec.ofNat 32 (u.ex (OrderHead.ex h)).access.toNat)
        (setNotice noticeExhibits ((accepted h (.setAccess m) u).modEx (OrderHead.ex h)
          (fun x => { x with access := m.setWidth 4 }))) := by
  obtain ⟨hopen, hsource⟩ := hmay
  refine postAndTake_of_go hopen (readOrder_setAccess h m) ?_ huntimed (by simp [kindCodeOf]) ?_
  · exact takeRefusal_none (readOrder_setAccess h m) (exhibitCheck_named (.inr ⟨m, rfl⟩) hnamed)
      ((accessAllowed_gallery _ _ rfl).trans hsource) (by simpa [paramsOk, sourceMask] using hm) huntimed
  · simp only [performOrder, accessOrder, doneWith, BitVec.ofNat_toNat]
    rfl

/-- What an accepted SET CONTROL comes to. -/
theorem postAndTake_setControl (hmay : MayOrderGallery u h) (huntimed : Untimed h)
    (hm : paramsOk (.setControl m) = true) :
    postAndTake h (.setControl m) u =
      complete h.slot.val .done (BitVec.ofNat 32 u.control.toNat)
        { accepted h (.setControl m) u with control := m.setWidth 4 } := by
  obtain ⟨hopen, hsource⟩ := hmay
  refine postAndTake_of_go hopen (readOrder_setControl h m) ?_ huntimed (by simp [kindCodeOf]) ?_
  · exact takeRefusal_none (readOrder_setControl h m)
      (exhibitCheck_gallery _ rfl (by simp) (by simp))
      ((accessAllowed_gallery _ _ rfl).trans hsource) hm huntimed
  · simp only [performOrder, controlOrder, doneWith, BitVec.ofNat_toNat]
    rfl

end

/-- Settles O24: both orders pass every check and perform one update, which the take's own lemmas frame; a
SET CONTROL mask that is empty or names a source above 3 fails the parameter check. -/
theorem masksAreReplaced : Obligations.MasksAreReplaced := by
  intro h m s u
  refine ⟨fun hmay hnamed huntimed hm => ?_, fun hmay huntimed hlow hm => ?_, fun hmay hbad => ?_⟩
  · refine ⟨_, exec_orderCommand (postAndTake_setAccess hmay hnamed huntimed hm),
      slotDone_of_complete (accepted_take h _ u) rfl, ?_, ?_, fun j hj => ?_, fun j hj => ?_, ?_⟩
    · simp [u]
    · exact publish_notice_of _ 3 (by simp [setNotice, noticeExhibits])
    · simp [u, State.modEx_ex_other _ _ _ _ hj]
    · rw [publish_slot, complete_slot_other _ _ _ _ _ hj]
      exact accepted_slot_other h _ u hj
    · exact ((keptBut_accepted (by simp)).trans <|
        ((State.modEx_keptBut _ _ _).mono (by simp)).trans <|
        (setNotice_keptBut _ _).mono (by decide)).publish_complete (by simp) _ _ _
  · have hparams : paramsOk (.setControl m) = true := by
      have hne : m ≠ 0 := by rintro rfl; exact absurd hlow (by decide)
      simpa [paramsOk, sourceMask, hm] using hne
    refine ⟨_, exec_orderCommand (postAndTake_setControl hmay huntimed hparams),
      slotDone_of_complete (accepted_take h _ u) rfl, rfl, fun j hj => ?_, ?_⟩
    · rw [publish_slot, complete_slot_other _ _ _ _ _ hj]
      exact accepted_slot_other h _ u hj
    · exact ((keptBut_accepted (by simp)).trans
        ((with_control_keptBut _ _).mono (by simp))).publish_complete (by simp) _ _ _
  · have hparams : paramsOk (.setControl m) = false := by
      rcases hbad with hbig | rfl
      · simp [paramsOk, sourceMask, hbig]
      · rfl
    obtain ⟨hopen, hsource⟩ := hmay
    have hchecks := takeRefusal_badParameter (readOrder_setControl h m)
      (exhibitCheck_gallery (u := u) (OrderHead.ex h) rfl (by simp) (by simp))
      ((accessAllowed_gallery _ _ rfl).trans hsource) hparams
    exact ⟨_, exec_orderCommand (postAndTake_of_refusal hopen hchecks),
      refusedOnly_of_refuseAtTake (by decide)⟩

end Sys2Proof.Machine
end

section
/-! PROOFS. What the load arbiter and the call unit leave alone of the exhibits' blocks, and what the endings of
an exhibit's activities, its channels and its inputs come to. -/

namespace Sys2Proof.Machine

/-! ### The exhibits' own fields -/

/-- An exhibit's entry without what the load arbiter and the call unit keep in it: its holding and its cause
set. -/
def Exhibit.own (x : Exhibit) : Exhibit := { x with units := 0, causes := [] }

section
variable (x : Exhibit)

@[simp] theorem Exhibit.own_hold : x.own.hold = x.hold := rfl
@[simp] theorem Exhibit.own_retire : x.own.retire = x.retire := rfl
@[simp] theorem Exhibit.own_stations : x.own.stations = x.stations := rfl
@[simp] theorem Exhibit.own_axes : x.own.axes = x.axes := rfl
@[simp] theorem Exhibit.own_run : x.own.run = x.run := rfl
@[simp] theorem Exhibit.own_queued : x.own.queued = x.queued := rfl
@[simp] theorem Exhibit.own_capture : x.own.capture = x.capture := rfl

end

/-- An input reads the same in states with the same outer fields. -/
theorem outer_inp {s t : State} (h : t.outer = s.outer) (i : Nat) : t.inp i = s.inp i :=
  congrArg (lookup Input.fresh · i) (outer_inputs h)

/-- The fields that the load arbiter and the causes of calls leave alone, beside the outer ones. -/
structure Inner where
  slots : Tab Slot
  channels : Tab Channel
  own : Nat → Exhibit

/-- The inner fields of a state. -/
def State.inner (s : State) : Inner := ⟨s.slots, s.channels, fun e => (s.ex e).own⟩

section
variable {s t : State} (h : t.inner = s.inner)
include h

theorem inner_slot (k : Nat) : t.slot k = s.slot k :=
  congrArg (lookup Slot.zero · k) (congrArg Inner.slots h)
theorem inner_own (e : Nat) : (t.ex e).own = (s.ex e).own := congrFun (congrArg Inner.own h) e

end

/-- A fold of operations that keep the inner fields keeps them. -/
theorem inner_foldl {α : Type} (f : State → α → State) (h : ∀ s a, (f s a).inner = s.inner)
    (l : List α) (s : State) : (l.foldl f s).inner = s.inner := by
  induction l generalizing s with
  | nil => rfl
  | cons a l ih => rw [List.foldl_cons, ih, h]

/-- A change of an exhibit's holding or cause set keeps the inner fields. -/
theorem State.modEx_inner (s : State) (k : Nat) (f : Exhibit → Exhibit)
    (hf : (f (s.ex k)).own = (s.ex k).own) : (s.modEx k f).inner = s.inner := by
  have hown : (fun e => ((s.modEx k f).ex e).own) = fun e => (s.ex e).own := by
    funext e
    by_cases he : e = k
    · subst he; simpa using hf
    · rw [State.modEx_ex_other _ _ _ _ he]
  simp [State.inner, hown]

@[simp] theorem State.modGroup_inner (s : State) (k : Nat) (f : Group → Group) :
    (s.modGroup k f).inner = s.inner := rfl
@[simp] theorem State.modCall_inner (s : State) (k : Nat) (f : CallEntry → CallEntry) :
    (s.modCall k f).inner = s.inner := rfl
@[simp] theorem State.modBeacon_inner (s : State) (k : Nat) (f : Beacon → Beacon) :
    (s.modBeacon k f).inner = s.inner := rfl
theorem with_handed_inner (s : State) (l : List Handed) :
    State.inner { s with handed := l } = s.inner := rfl
@[simp] theorem setNotice_inner (n : BitVec 6) (s : State) : (setNotice n s).inner = s.inner := rfl

/-! ### The load arbiter (chapter 8) -/

@[simp] theorem book_inner (g : Nat) (r : Request) (s : State) : (book g r s).inner = s.inner := by
  unfold book
  refine (with_handed_inner _ _).trans ?_
  rw [setNotice_inner, State.modEx_inner _ r.ex (fun x => { x with units := x.units + r.units }) rfl,
    State.modGroup_inner]

@[simp] theorem evaluate_inner (g : Nat) (s : State) : (evaluate g s).inner = s.inner := by
  have hloop : ∀ (n : Nat) (u : State), (evaluateLoop n g u).inner = u.inner := by
    intro n
    induction n with
    | zero => exact fun _ => rfl
    | succ n ih =>
      intro u
      unfold evaluateLoop
      split
      · rfl
      · split
        · rw [ih, book_inner]
        · rfl
  exact hloop _ s

@[simp] theorem withdraw_inner (e : Nat) (s : State) : (withdraw e s).inner = s.inner := by
  unfold withdraw
  split <;> simp

@[simp] theorem returnAll_inner (e : Nat) (s : State) : (returnAll e s).inner = s.inner := by
  unfold returnAll returnUnits
  split
  · rfl
  · simp [State.modEx_inner s e (fun x => { x with units := x.units - (s.ex e).units }) rfl]

/-! ### The causes of calls (chapter 9) -/

@[simp] theorem rechooseFor_inner (l : List Nat) (s : State) : (rechooseFor l s).inner = s.inner :=
  inner_foldl _ (fun _ _ => by split <;> simp) _ _

@[simp] theorem enterCall_inner (n e : Nat) (c : Cause) (p : Pending) (s : State) :
    (enterCall n e c p s).inner = s.inner := by
  simp [enterCall, State.modEx_inner (s.modCall n _) e (putCause ⟨c, .entered n⟩) rfl]

@[simp] theorem freeEntry_inner (n : Nat) (s : State) : (freeEntry n s).inner = s.inner := by
  unfold freeEntry
  split <;> simp

@[simp] theorem removeCause_inner (e : Nat) (c : Cause) (s : State) :
    (removeCause e c s).inner = s.inner := by
  have hdrop : (s.modEx e (dropCause c)).inner = s.inner := State.modEx_inner s e _ rfl
  unfold removeCause
  split <;> simp [hdrop]

@[simp] theorem fillEntries_inner (n : Nat) (s : State) : (fillEntries n s).inner = s.inner := by
  induction n generalizing s with
  | zero => rfl
  | succ n ih =>
    unfold fillEntries
    split
    · dsimp only
      rw [ih]
      split <;> simp
    · rfl

@[simp] theorem clearCauses_inner (e : Nat) (cs : List Cause) (s : State) :
    (clearCauses e cs s).inner = s.inner := by
  unfold clearCauses clearCausesOf
  rw [fillEntries_inner]
  exact inner_foldl _ (fun _ _ => inner_foldl _ (fun _ _ => removeCause_inner ..) _ _) _ _

/-! ### What stands through an ending -/

/-- What the endings of an exhibit's activities leave alone beside the outer fields: what a take wrote in each
slot, the channels, and the exhibits' own fields but for the one that ends. -/
structure Standing where
  take : Nat → HostFields × Acceptance × Tick
  channels : Tab Channel
  own : Nat → Exhibit

/-- What stands in a state. -/
def State.standing (s : State) : Standing :=
  ⟨fun j => (s.slot j).take, s.channels, fun e => (s.ex e).own⟩

/-- One exhibit's own fields changed. -/
def Standing.change (t : Standing) (e : Nat) (f : Exhibit → Exhibit) : Standing :=
  { t with own := Function.update t.own e (f (t.own e)) }

theorem standing_of_inner {s t : State} (h : t.inner = s.inner) : t.standing = s.standing := by
  simp only [State.standing, Standing.mk.injEq]
  exact ⟨funext fun k => congrArg Slot.take (inner_slot h k), congrArg Inner.channels h,
    congrArg Inner.own h⟩

/-- A change that finds nothing to change. -/
theorem Standing.change_of_fixed {t : Standing} {e : Nat} {f : Exhibit → Exhibit}
    (h : f (t.own e) = t.own e) : t.change e f = t := by
  simp [Standing.change, h]

theorem Standing.change_change (t : Standing) (e : Nat) (f g : Exhibit → Exhibit) :
    (t.change e f).change e g = t.change e (fun x => g (f x)) := by
  simp [Standing.change]

section
variable {s t : State} {e : Nat} {f : Exhibit → Exhibit} (h : t.standing = s.standing.change e f)
include h

theorem standing_own : (t.ex e).own = f (s.ex e).own := by
  have hown := congrFun (congrArg Standing.own h) e
  simpa [State.standing, Standing.change] using hown

theorem standing_take (j : Nat) : (t.slot j).take = (s.slot j).take :=
  congrFun (congrArg Standing.take h) j

theorem standing_ch (c : Nat) : t.ch c = s.ch c :=
  congrArg (lookup Channel.fresh · c) (congrArg Standing.channels h)

end

/-- A change of an exhibit's own fields, where it does not act on its holding and cause set. -/
theorem State.modEx_standing (s : State) (e : Nat) (f : Exhibit → Exhibit)
    (hf : (f (s.ex e)).own = f (s.ex e).own) : (s.modEx e f).standing = s.standing.change e f := by
  have hown : (fun j => ((s.modEx e f).ex j).own) =
      Function.update (fun j => (s.ex j).own) e (f (s.ex e).own) := by
    funext j
    by_cases hj : j = e
    · subst hj; simp [hf]
    · simp [hj, State.modEx_ex_other]
  simp [State.standing, Standing.change, hown]

@[simp] theorem complete_standing (k : Nat) (o : OrderOutcome) (r : Word) (s : State) :
    (complete k o r s).standing = s.standing := by
  simp [State.standing]

@[simp] theorem completeAll_standing (ks : List Nat) (o : OrderOutcome) (s : State) :
    (completeAll ks o s).standing = s.standing := by
  unfold completeAll
  induction ks generalizing s with
  | nil => rfl
  | cons k ks ih => rw [List.foldl_cons, ih, complete_standing]

@[simp] theorem completeOrigin_standing (o : Origin) (out : OrderOutcome) (r : Word) (s : State) :
    (completeOrigin o out r s).standing = s.standing := by
  cases o with
  | press => rfl
  | order k => exact complete_standing ..

@[simp] theorem decUse_standing (r : Nat) (s : State) : (decUse r s).standing = s.standing := by
  unfold decUse
  dsimp only
  split
  · rw [complete_standing]; rfl
  · rfl

/-! ### Endings -/

section
variable (e : Nat) (o : OrderOutcome) (s : State)

/-- An ended run is gone from its exhibit (R109, R111). -/
theorem endRun_standing :
    (endRun e o s).standing = s.standing.change e (fun x => { x with run := none }) := by
  have hmod := State.modEx_standing s e (fun x => { x with run := none }) rfl
  unfold endRun
  split
  · next hrun =>
    exact (Standing.change_of_fixed (by simp [State.standing, Exhibit.own, hrun])).symm
  · dsimp only
    split <;> simp [hmod]

/-- A dropped queued start is gone from its exhibit (R75). -/
theorem dropQueued_standing :
    (dropQueued e o s).standing = s.standing.change e (fun x => { x with queued := none }) := by
  have hmod := State.modEx_standing s e (fun x => { x with queued := none }) rfl
  unfold dropQueued
  split
  · next hqueued =>
    exact (Standing.change_of_fixed (by simp [State.standing, Exhibit.own, hqueued])).symm
  · simp [hmod]

/-- No order waits on homing any longer (R14, R45). -/
theorem endHomingOrder_standing :
    (endHomingOrder e o s).standing = s.standing.change e (fun x => { x with homingOrder := none }) := by
  have hmod := State.modEx_standing s e (fun x => { x with homingOrder := none }) rfl
  unfold endHomingOrder
  split
  · next horder =>
    exact (Standing.change_of_fixed (by simp [State.standing, Exhibit.own, horder])).symm
  · simp [hmod]

/-- No STOP EXHIBIT waits any longer (R47). -/
theorem endStopOrders_standing :
    (endStopOrders e o s).standing = s.standing.change e (fun x => { x with stopOrders := [] }) := by
  simp [endStopOrders, State.modEx_standing s e (fun x => { x with stopOrders := [] }) rfl]

/-- No LOCK OUT waits any longer (R44). -/
theorem endLockOrders_standing :
    (endLockOrders e o s).standing = s.standing.change e (fun x => { x with lockOrders := [] }) := by
  simp [endLockOrders, State.modEx_standing s e (fun x => { x with lockOrders := [] }) rfl]

end

/-! ### The channels of an exhibit's axes -/

section
variable (e : Nat) (s : State)

@[simp] theorem modAxes_ex (f : AxisRec → Channel → Channel) (j : Nat) :
    (modAxes e f s).ex j = s.ex j := by
  have hfold : ∀ (l : List AxisRec) (u : State),
      (l.foldl (fun u a => u.modCh a.channel (f a)) u).ex j = u.ex j := by
    intro l
    induction l with
    | nil => exact fun _ => rfl
    | cons a l ih => exact fun u => (ih _).trans rfl
  exact hfold _ s

@[simp] theorem modAxes_slot (f : AxisRec → Channel → Channel) (j : Nat) :
    (modAxes e f s).slot j = s.slot j := by
  have hfold : ∀ (l : List AxisRec) (u : State),
      (l.foldl (fun u a => u.modCh a.channel (f a)) u).slot j = u.slot j := by
    intro l
    induction l with
    | nil => exact fun _ => rfl
    | cons a l ih => exact fun u => (ih _).trans rfl
  exact hfold _ s

/-- What a channel keeps through the change of every axis that names it. -/
theorem modAxes_ch_keeps (f : AxisRec → Channel → Channel) (c : Nat) (P : Channel → Prop)
    (hP : ∀ a x, P x → P (f a x)) (h : P (s.ch c)) : P ((modAxes e f s).ch c) := by
  have hfold : ∀ (l : List AxisRec) (u : State), P (u.ch c) →
      P ((l.foldl (fun u a => u.modCh a.channel (f a)) u).ch c) := by
    intro l
    induction l with
    | nil => exact fun _ hu => hu
    | cons a l ih =>
      refine fun u hu => ih _ ?_
      by_cases hc : c = a.channel
      · subst hc; simpa using hP a _ hu
      · rwa [State.modCh_ch_other _ _ _ _ hc]
  exact hfold _ s h

/-- The channel of an axis after a change that is the same for every axis and made twice is made once. -/
theorem modAxes_ch_axis (g : Channel → Channel) (hg : ∀ x, g (g x) = g x) (a : AxisRec)
    (ha : a ∈ (s.ex e).axes) : (modAxes e (fun _ => g) s).ch a.channel = g (s.ch a.channel) := by
  have hfold : ∀ (l : List AxisRec) (u : State),
      (l.foldl (fun u b => u.modCh b.channel g) u).ch a.channel =
        if a.channel ∈ l.map (·.channel) then g (u.ch a.channel) else u.ch a.channel := by
    intro l
    induction l with
    | nil => exact fun _ => rfl
    | cons b l ih =>
      intro u
      rw [List.foldl_cons, ih]
      by_cases hc : a.channel = b.channel
      · simp [hc, hg]
      · simp [hc, State.modCh_ch_other]
  exact (hfold _ s).trans (if_pos (List.mem_map_of_mem ha))

end

end Sys2Proof.Machine
end

section
/-! PROOFS. RETIRE EXHIBIT takes an exhibit out at once or brakes it (R16, R17). -/

namespace Sys2Proof.Machine

/-! ### Inputs given up (R16, R63) -/

/-- Inputs that lose their owner, each with its level formed again. -/
def disownInputs (is : List Nat) (s : State) : State :=
  is.foldl (fun u i => reform i (u.modInp i (restartInput none none))) s

theorem disownInputs_standing (is : List Nat) (s : State) :
    (disownInputs is s).standing = s.standing := by
  unfold disownInputs
  induction is generalizing s with
  | nil => rfl
  | cons i is ih => exact (ih _).trans rfl

theorem disownInputs_keptBut (is : List Nat) (s : State) :
    KeptBut [.inputs] s (disownInputs is s) :=
  .foldl _ (fun u _ => (State.modInp_keptBut u _ _).trans (State.modInp_keptBut _ _ _)) _ _

/-- An input given up has no owner and no presses, and every other input keeps its own. -/
theorem disownInputs_inp (is : List Nat) (s : State) (j : Nat) :
    ((disownInputs is s).inp j).owner = (if j ∈ is then none else (s.inp j).owner) ∧
      ((disownInputs is s).inp j).presses = (if j ∈ is then 0 else (s.inp j).presses) := by
  unfold disownInputs
  induction is generalizing s with
  | nil => simp
  | cons i is ih =>
    have hone : ((reform i (s.modInp i (restartInput none none))).inp j).owner =
          (if j = i then none else (s.inp j).owner) ∧
        ((reform i (s.modInp i (restartInput none none))).inp j).presses =
          (if j = i then 0 else (s.inp j).presses) := by
      unfold reform
      by_cases hj : j = i
      · subst hj; simp [restartInput]
      · simp [hj, State.modInp_inp_other]
    rw [List.foldl_cons, (ih _).1, (ih _).2, hone.1, hone.2]
    by_cases hj : j = i <;> simp [hj]

/-! ### What stands through the endings and clears -/

/-- An exhibit with everything under way ended (R16 steps 1 to 3). -/
def Exhibit.ended (x : Exhibit) : Exhibit :=
  { x with run := none, queued := none, homingOrder := none, stopOrders := [], lockOrders := [] }

/-- An exhibit with its reasons and its capture record emptied (R16 steps 4 to 6). -/
def Exhibit.cleared (x : Exhibit) : Exhibit :=
  { x with hold := ⟨false, false, false⟩, lock := ⟨false, false⟩, heldAct := none, lamp := none,
           wakePending := false, capture := none, laterFaults := 0 }

/-- The endings end everything under way and leave the rest standing. -/
theorem retireEndings_standing (e : Nat) (s : State) :
    (retireEndings e s).standing = s.standing.change e Exhibit.ended := by
  unfold retireEndings
  rw [standing_of_inner (withdraw_inner ..), endLockOrders_standing, endStopOrders_standing,
    endHomingOrder_standing, dropQueued_standing, endRun_standing]
  simp only [Standing.change_change]
  rfl

/-- The exhibit's reasons emptied, its causes cleared and its capture record emptied (R16 steps 4 to 6). -/
def emptied (e : Nat) (s : State) : State :=
  (clearCauses e allCauses (s.modEx e (fun x =>
    { x with hold := ⟨false, false, false⟩, lock := ⟨false, false⟩, heldAct := none, lamp := none,
             wakePending := false }))).modEx e (fun x => { x with capture := none, laterFaults := 0 })

theorem retireClears_eq (e : Nat) (s : State) :
    retireClears e s = disownInputs (rangeInputs (s.ex e).stations) (emptied e s) := rfl

theorem emptied_outer (e : Nat) (s : State) : (emptied e s).outer = s.outer := by
  simp [emptied]

/-- The clears empty the exhibit's reasons and record and leave the rest standing. -/
theorem retireClears_standing (e : Nat) (s : State) :
    (retireClears e s).standing = s.standing.change e Exhibit.cleared := by
  rw [retireClears_eq, disownInputs_standing, emptied,
    State.modEx_standing _ e (fun x => { x with capture := none, laterFaults := 0 }) rfl,
    standing_of_inner (clearCauses_inner ..), State.modEx_standing _ e (fun x =>
      { x with hold := ⟨false, false, false⟩, lock := ⟨false, false⟩, heldAct := none, lamp := none,
               wakePending := false }) rfl, Standing.change_change]
  rfl

/-- The clears keep the fields outside the exhibits' blocks and the inputs. -/
theorem retireClears_keptBut (e : Nat) (s : State) :
    KeptBut (.inputs :: exhibitFields) s (retireClears e s) := by
  rw [retireClears_eq]
  exact ((keptBut_of_outer (emptied_outer e s)).mono (by simp)).trans
    ((disownInputs_keptBut _ _).mono (by simp))

/-! ### Held moves at rest released (R129) -/

/-- Releasing a held move at rest sets nothing moving. -/
theorem releaseChannel_isMoving (a : AxisRec) (c : Channel) (h : c.isMoving = false) :
    (releaseChannel a c).isMoving = false := by
  unfold releaseChannel
  split
  · exact h
  · rfl
  · rfl

/-- A channel that moves is left as it is. -/
theorem releaseResting_ch_moving (e : Nat) (s : State) (c : Nat) (h : (s.ch c).isMoving = true) :
    (releaseResting e s).ch c = s.ch c :=
  modAxes_ch_keeps e s _ c (· = s.ch c) (fun a x hx => by simp [hx, h]) rfl

/-- Nothing starts or stops moving. -/
theorem releaseResting_isMoving (e : Nat) (s : State) (c : Nat) :
    ((releaseResting e s).ch c).isMoving = (s.ch c).isMoving := by
  cases hm : (s.ch c).isMoving with
  | true => rw [releaseResting_ch_moving e s c hm, hm]
  | false =>
    refine modAxes_ch_keeps e s _ c (·.isMoving = false) (fun a x hx => ?_) hm
    simpa [hx] using releaseChannel_isMoving a x hx

/-! ### The exhibit before its axes brake or its channels are given up -/

/-- An exhibit that a RETIRE EXHIBIT marks, whose activities it ends and whose reasons, record and inputs it
clears (R16). -/
def retireCleared (e k : Nat) (s : State) : State :=
  retireClears e (retireEndings e (s.modEx e (fun x => { x with retire := some k })))

/-- The exhibit with its held moves at rest released too (R129), its axes as yet moving or not. -/
def retirePrepared (e k : Nat) (s : State) : State := releaseResting e (retireCleared e k s)

theorem retireExhibit_eq (e k : Nat) (s : State) :
    retireExhibit e k s =
      if (retirePrepared e k s).anyMoving e
      then enterBraking e .lockedOut none (brakeAxes e (retirePrepared e k s))
      else finishRetire e k (publishExhibit e (retirePrepared e k s)) := rfl

section
variable (e k : Nat) (s : State)

theorem retireCleared_standing :
    (retireCleared e k s).standing =
      s.standing.change e (fun x => ({ x with retire := some k } : Exhibit).ended.cleared) := by
  rw [retireCleared, retireClears_standing, retireEndings_standing,
    State.modEx_standing s e (fun x => { x with retire := some k }) rfl]
  simp only [Standing.change_change]

theorem retirePrepared_own :
    ((retirePrepared e k s).ex e).own =
      ({ (s.ex e).own with retire := some k } : Exhibit).ended.cleared := by
  rw [retirePrepared, releaseResting, modAxes_ex]
  exact standing_own (retireCleared_standing e k s)

theorem retirePrepared_axes : ((retirePrepared e k s).ex e).axes = (s.ex e).axes := by
  simpa [Exhibit.ended, Exhibit.cleared] using congrArg Exhibit.axes (retirePrepared_own e k s)

theorem retirePrepared_lastTaken : (retirePrepared e k s).lastTaken = s.lastTaken := by
  have hport : (retirePrepared e k s).outer.port = s.outer.port := by
    simp [retirePrepared, retireCleared]
  exact port_lastTaken hport

theorem retirePrepared_take (j : Nat) :
    ((retirePrepared e k s).slot j).take = (s.slot j).take := by
  rw [retirePrepared, releaseResting, modAxes_slot]
  exact standing_take (retireCleared_standing e k s) j

theorem retirePrepared_ch_moving (c : Nat) (h : (s.ch c).isMoving = true) :
    (retirePrepared e k s).ch c = s.ch c := by
  have hch := standing_ch (retireCleared_standing e k s) c
  rw [retirePrepared, releaseResting_ch_moving _ _ _ (by rw [hch, h]), hch]

theorem retirePrepared_isMoving (c : Nat) :
    ((retirePrepared e k s).ch c).isMoving = (s.ch c).isMoving := by
  rw [retirePrepared, releaseResting_isMoving, standing_ch (retireCleared_standing e k s) c]

theorem retirePrepared_anyMoving : (retirePrepared e k s).anyMoving e = s.anyMoving e := by
  simp [State.anyMoving, retirePrepared_axes, retirePrepared_isMoving]

/-- The inputs of the exhibit's range have no owner and no presses. -/
theorem retirePrepared_inp (i : Nat) (hi : i ∈ rangeInputs (s.ex e).stations) :
    ((retirePrepared e k s).inp i).owner = none ∧ ((retirePrepared e k s).inp i).presses = 0 := by
  have hstations : ((retireEndings e (s.modEx e (fun x => { x with retire := some k }))).ex e).stations =
      (s.ex e).stations := by
    have hown := standing_own (retireEndings_standing e (s.modEx e (fun x => { x with retire := some k })))
    simpa [Exhibit.ended] using congrArg Exhibit.stations hown
  rw [retirePrepared, outer_inp (releaseResting_outer ..), retireCleared, retireClears_eq, hstations]
  have hall := disownInputs_inp (rangeInputs (s.ex e).stations)
    (emptied e (retireEndings e (s.modEx e (fun x => { x with retire := some k })))) i
  rwa [if_pos hi, if_pos hi] at hall

theorem retirePrepared_keptBut : KeptBut (.inputs :: exhibitFields) s (retirePrepared e k s) := by
  have hended : (retireEndings e (s.modEx e (fun x => { x with retire := some k }))).outer = s.outer := by
    simp
  exact ((keptBut_of_outer hended).mono (by simp)).trans <|
    (retireClears_keptBut _ _).trans ((keptBut_of_outer (releaseResting_outer ..)).mono (by simp))

end

/-! ### The end of a retirement (R17) -/

/-- A retired exhibit is ABSENT. -/
theorem finishRetire_ex (e k : Nat) (s : State) : (finishRetire e k s).ex e = .absent := by
  simp [finishRetire]

/-- The channels of a retired exhibit are unowned. -/
theorem finishRetire_ch (e k : Nat) (s : State) (a : AxisRec) (ha : a ∈ (s.ex e).axes) :
    ((finishRetire e k s).ch a.channel).owner = none ∧
      ((finishRetire e k s).ch a.channel).energised = false := by
  have haxes : a ∈ ((returnAll e (deenergiseAxes e s)).ex e).axes := by
    have hown := congrArg Exhibit.axes (inner_own (returnAll_inner e (deenergiseAxes e s)) e)
    rw [Exhibit.own_axes, Exhibit.own_axes, deenergiseAxes, modAxes_ex] at hown
    exact hown ▸ ha
  have hch := modAxes_ch_axis e (returnAll e (deenergiseAxes e s)) unowned (fun _ => rfl) a haxes
  simp only [finishRetire, complete_ch, publishExhibit_ch, State.modEx_ch, hch]
  exact ⟨rfl, rfl⟩

/-- The order of a retirement that ends is DONE, where its slot stands as the take left it. -/
theorem finishRetire_slotDone {h : OrderHead} {b : OrderBody} {u s : State} (e : Nat)
    (htake : (s.slot h.slot.val).take = (hostFieldsOf h b, .accepted, u.tick))
    (hlast : s.lastTaken = h.slot.val) :
    SlotDone u (publish (finishRetire e h.slot.val s)) h b 0 := by
  refine slotDone_of_complete ?_ ?_
  · rw [publishExhibit_slot, State.modEx_slot, modAxes_slot, inner_slot (returnAll_inner ..),
      deenergiseAxes, modAxes_slot, htake]
  · rw [publishExhibit_lastTaken, State.modEx_lastTaken, outer_lastTaken (modAxes_outer ..),
      outer_lastTaken (returnAll_outer ..), outer_lastTaken (deenergiseAxes_outer ..), hlast]

/-! ### RETIRE EXHIBIT -/

/-- RETIRE EXHIBIT is read from its slot as written. -/
theorem readOrder_retire (h : OrderHead) :
    readOrder (hostFieldsOf h .retire).kind (hostFieldsOf h .retire).params = some .retire := rfl

/-- What an accepted RETIRE EXHIBIT comes to. -/
theorem postAndTake_retire {h : OrderHead} {u : State} (hmay : MayOrderExhibit u h)
    (huntimed : Untimed h) :
    postAndTake h .retire u = retireExhibit (OrderHead.ex h) h.slot.val (accepted h .retire u) := by
  obtain ⟨hopen, hnamed, hsource⟩ := hmay
  refine postAndTake_of_go hopen (readOrder_retire h) ?_ huntimed (by decide) rfl
  exact takeRefusal_none (readOrder_retire h) (exhibitCheck_named (.inl rfl) hnamed)
    ((accessAllowed_exhibit _ _ rfl).trans hsource) rfl huntimed

/-- A channel asked to brake twice brakes once. -/
theorem brakeChannel_brakeChannel (c : Channel) : brakeChannel (brakeChannel c) = brakeChannel c := by
  by_cases hc : c.state = .moving <;> simp [brakeChannel, hc]

section
variable {h : OrderHead} {u : State}

/-- The state in which an accepted RETIRE EXHIBIT finds whether an axis moves. -/
def retiring (h : OrderHead) (u : State) : State :=
  retirePrepared (OrderHead.ex h) h.slot.val (accepted h .retire u)

theorem retiring_keptBut : KeptBut (.inputs :: exhibitFields) u (retiring h u) :=
  (keptBut_accepted (by decide)).trans (retirePrepared_keptBut _ _ _)

theorem retiring_inp (i : Nat) (hi : i ∈ rangeInputs (u.ex (OrderHead.ex h)).stations) :
    ((retiring h u).inp i).owner = none ∧ ((retiring h u).inp i).presses = 0 :=
  retirePrepared_inp (OrderHead.ex h) h.slot.val (accepted h .retire u) i hi

theorem retiring_axes :
    ((retiring h u).ex (OrderHead.ex h)).axes = (u.ex (OrderHead.ex h)).axes :=
  retirePrepared_axes (OrderHead.ex h) h.slot.val (accepted h .retire u)

theorem retiring_own :
    ((retiring h u).ex (OrderHead.ex h)).own =
      ({ (u.ex (OrderHead.ex h)).own with retire := some h.slot.val } : Exhibit).ended.cleared :=
  retirePrepared_own (OrderHead.ex h) h.slot.val (accepted h .retire u)

theorem retiring_take :
    ((retiring h u).slot h.slot.val).take = (hostFieldsOf h .retire, .accepted, u.tick) :=
  (retirePrepared_take _ _ _ _).trans (accepted_take h .retire u)

theorem retiring_lastTaken : (retiring h u).lastTaken = h.slot.val :=
  retirePrepared_lastTaken (OrderHead.ex h) h.slot.val (accepted h .retire u)

theorem retiring_ch_moving (c : Nat) (hc : (u.ch c).isMoving = true) : (retiring h u).ch c = u.ch c :=
  retirePrepared_ch_moving (OrderHead.ex h) h.slot.val (accepted h .retire u) c hc

/-- With no axis moving the retirement ends at once. -/
theorem postAndTake_retire_still (hmay : MayOrderExhibit u h) (huntimed : Untimed h)
    (hstill : u.anyMoving (OrderHead.ex h) = false) :
    postAndTake h .retire u =
      finishRetire (OrderHead.ex h) h.slot.val (publishExhibit (OrderHead.ex h) (retiring h u)) := by
  rw [postAndTake_retire hmay huntimed, retireExhibit_eq, retirePrepared_anyMoving]
  exact if_neg (by simpa [State.anyMoving] using hstill)

/-- With an axis moving the exhibit brakes toward LOCKED OUT. -/
theorem postAndTake_retire_moving (hmay : MayOrderExhibit u h) (huntimed : Untimed h)
    (hmove : u.anyMoving (OrderHead.ex h) = true) :
    postAndTake h .retire u =
      enterBraking (OrderHead.ex h) .lockedOut none (brakeAxes (OrderHead.ex h) (retiring h u)) := by
  rw [postAndTake_retire hmay huntimed, retireExhibit_eq, retirePrepared_anyMoving]
  exact if_pos (by simpa [State.anyMoving] using hmove)

end

/-- With no axis moving RETIRE EXHIBIT takes the exhibit out at once. -/
theorem retire_still {h : OrderHead} {s : State} (hmay : MayOrderExhibit (settle s) h)
    (huntimed : Untimed h) (hstill : (settle s).anyMoving (OrderHead.ex h) = false) :
    ∃ t, exec (.retireExhibit h) s = .next t ∧ SlotDone (settle s) t h .retire 0 ∧
      t.ex (OrderHead.ex h) = .absent ∧
      (∀ i ∈ rangeInputs ((settle s).ex (OrderHead.ex h)).stations,
        (t.inp i).owner = none ∧ (t.inp i).presses = 0) ∧
      (∀ a ∈ ((settle s).ex (OrderHead.ex h)).axes,
        (t.ch a.channel).owner = none ∧ (t.ch a.channel).energised = false) ∧
      KeptBut (.inputs :: exhibitFields) (settle s) t := by
  have houter : (finishRetire (OrderHead.ex h) h.slot.val
      (publishExhibit (OrderHead.ex h) (retiring h (settle s)))).outer = (retiring h (settle s)).outer := by
    simp
  refine ⟨_, exec_orderCommand (b := .retire) (postAndTake_retire_still hmay huntimed hstill),
    finishRetire_slotDone _ ?_ ?_, ?_, fun i hi => ?_, fun a ha => ?_, ?_⟩
  · rw [publishExhibit_slot, retiring_take]
  · rw [publishExhibit_lastTaken, retiring_lastTaken]
  · rw [publish_ex, finishRetire_ex]
  · rw [publish_inp, outer_inp houter]
    exact retiring_inp i hi
  · rw [publish_ch]
    refine finishRetire_ch _ _ _ a ?_
    rwa [publishExhibit_ex, retiring_axes]
  · exact retiring_keptBut.trans <| ((keptBut_of_outer houter).mono (by simp)).trans
      ((publish_keptBut _).mono (by decide))

/-- With an axis moving RETIRE EXHIBIT brakes the exhibit with retire pending. -/
theorem retire_moving {h : OrderHead} {s : State} (hmay : MayOrderExhibit (settle s) h)
    (huntimed : Untimed h) (hmove : (settle s).anyMoving (OrderHead.ex h) = true) :
    ∃ t, exec (.retireExhibit h) s = .next t ∧
      (∃ x : Exhibit, t.ex (OrderHead.ex h) = { x with
          state := .braking, restTimer := none, target := some .lockedOut, heldAct := none } ∧
        x.own = ({ ((settle s).ex (OrderHead.ex h)).own with
          retire := some h.slot.val } : Exhibit).ended.cleared) ∧
      (∀ i ∈ rangeInputs ((settle s).ex (OrderHead.ex h)).stations, (t.inp i).owner = none) ∧
      (∀ a ∈ ((settle s).ex (OrderHead.ex h)).axes, ((settle s).ch a.channel).state = .moving →
        (t.ch a.channel).state = .braking ∧ (t.ch a.channel).v = ((settle s).ch a.channel).v) ∧
      KeptBut (.inputs :: exhibitFields) (settle s) t := by
  have houter : (enterBraking (OrderHead.ex h) .lockedOut none
      (brakeAxes (OrderHead.ex h) (retiring h (settle s)))).outer = (retiring h (settle s)).outer := by
    simp
  refine ⟨_, exec_orderCommand (b := .retire) (postAndTake_retire_moving hmay huntimed hmove),
    ⟨_, ?_, retiring_own⟩, fun i hi => ?_, fun a ha hm => ?_, ?_⟩
  · simp [enterBraking, brakeAxes]
  · rw [publish_inp, outer_inp houter]
    exact (retiring_inp i hi).1
  · have hch : (retiring h (settle s)).ch a.channel = (settle s).ch a.channel :=
      retiring_ch_moving _ (by simp [Channel.isMoving, hm])
    have hbrake := modAxes_ch_axis (OrderHead.ex h) (retiring h (settle s)) brakeChannel
      brakeChannel_brakeChannel a (retiring_axes.symm ▸ ha)
    rw [publish_ch, enterBraking, publishExhibit_ch, State.modEx_ch, brakeAxes, hbrake, hch]
    simp [brakeChannel, hm]
  · exact retiring_keptBut.trans <| ((keptBut_of_outer houter).mono (by simp)).trans
      ((publish_keptBut _).mono (by decide))

/-- Settles O41: through R16 the exhibit's moving axes are left as they are, so whether an axis moves decides
between the end of the retirement, which completes the order last, and braking. -/
theorem retireExhibitTakesItOut : Obligations.RetireExhibitTakesItOut := by
  intro h s u e hmay huntimed
  refine ⟨fun hstill => retire_still hmay huntimed hstill, fun hmove => ?_⟩
  obtain ⟨t, hexec, ⟨x, hx, hown⟩, hinputs, hchannels, hframe⟩ := retire_moving hmay huntimed hmove
  refine ⟨t, hexec, by rw [hx], by rw [hx], ?_, ?_, ?_, ?_, ?_, hinputs, hchannels, hframe⟩
  all_goals rw [hx]
  · exact congrArg Exhibit.retire hown
  · exact congrArg Exhibit.run hown
  · exact congrArg Exhibit.queued hown
  · exact congrArg Exhibit.hold hown
  · exact congrArg Exhibit.capture hown

end Sys2Proof.Machine
end

section
/-! PROOFS. An exhibit order that passes the checks: performed at its take, or refused by its kind's own rule
(R185). SET LAMPS (R41). -/

namespace Sys2Proof.Machine

section
variable {h : OrderHead} {b : OrderBody} {u : State}

/-- An untimed exhibit order of a source in the exhibit's access mask passes every check. -/
theorem takeRefusal_of_mayOrder (hmay : MayOrderExhibit u h) (huntimed : Untimed h)
    (hscope : scopeOf b = .exhibit) (hparams : paramsOk b = true)
    (hread : readOrder (hostFieldsOf h b).kind (hostFieldsOf h b).params = some b) :
    takeRefusal u h.slot.val (hostFieldsOf h b) = none := by
  obtain ⟨_, hnamed, hsource⟩ := hmay
  exact takeRefusal_none hread (exhibitCheck_named (.inl hscope) hnamed)
    ((accessAllowed_exhibit _ _ hscope).trans hsource) hparams huntimed

/-- An order that no check refuses may still be refused by its kind's own rule. -/
theorem postAndTake_of_refuse {a : Acceptance} {r : Word} (hopen : SlotOpen u h)
    (hread : readOrder (hostFieldsOf h b).kind (hostFieldsOf h b).params = some b)
    (hchecks : takeRefusal u h.slot.val (hostFieldsOf h b) = none) (huntimed : Untimed h)
    (hrefuse : performOrder h.slot.val (hostFieldsOf h b) b (accepted h b u) = .refuse a r) :
    postAndTake h b u = refuseAtTake h.slot.val (hostFieldsOf h b) a r (postedAndTaken h b u) := by
  have hdue : (hostFieldsOf h b).duePresent = false := huntimed
  rw [postAndTake_of_open hopen]
  unfold decideOrder
  simp only [takeRefusal_postedAndTaken, hchecks, hread, hdue, Bool.and_false]
  rw [← accepted, hrefuse]
  rfl

/-- A completion at the end of an order leaves the other slots as the order's effect left them. -/
theorem otherSlots_publish_complete {v : State} {o : OrderOutcome} {r : Word}
    (hv : ∀ j, v.slot j = (accepted h b u).slot j) :
    OtherSlots h.slot.val u (publish (complete h.slot.val o r v)) := fun j hj => by
  rw [publish_slot, complete_slot_other _ _ _ _ _ hj, hv, accepted_slot_other h b u hj]

end

/-! ### SET LAMPS -/

/-- SET LAMPS is read from its slot as written. -/
theorem readOrder_setLamps (h : OrderHead) (p : Byte) :
    readOrder (hostFieldsOf h (.setLamps p)).kind (hostFieldsOf h (.setLamps p)).params =
      some (.setLamps p) := by
  simp [hostFieldsOf, kindCodeOf, readOrder, paramBytes, paramField]

/-- What an accepted SET LAMPS comes to. -/
theorem postAndTake_setLamps {h : OrderHead} {p : Byte} {l : Option Lamp} {u : State}
    (hmay : MayOrderExhibit u h) (huntimed : Untimed h) (hlamp : lampFrom p.toNat = some l) :
    postAndTake h (.setLamps p) u =
      complete h.slot.val .done (BitVec.ofNat 32 (lampCode (u.ex (OrderHead.ex h)).lamp))
        ((accepted h (.setLamps p) u).modEx (OrderHead.ex h) (fun x => { x with lamp := l })) := by
  have hparams : paramsOk (.setLamps p) = true := by simp [paramsOk, hlamp]
  refine postAndTake_of_go hmay.1 (readOrder_setLamps h p)
    (takeRefusal_of_mayOrder hmay huntimed rfl hparams (readOrder_setLamps h p)) huntimed
    (by simp [kindCodeOf]) ?_
  simp only [performOrder, lampsOrder, hlamp]
  rfl

/-- Settles O23: the order passes every check and performs one update of the exhibit's entry. -/
theorem setLampsSetsTheOverride : Obligations.SetLampsSetsTheOverride := by
  intro h p l s u hmay huntimed hlamp
  refine ⟨_, exec_orderCommand (postAndTake_setLamps hmay huntimed hlamp),
    slotDone_of_complete (accepted_take h _ u) rfl, ?_, fun j hj => ?_,
    otherSlots_publish_complete fun _ => rfl, ?_⟩
  · simp [u]
  · simp [u, State.modEx_ex_other _ _ _ _ hj]
  · exact ((keptBut_accepted (by simp)).trans
      ((State.modEx_keptBut _ _ _).mono (by simp))).publish_complete (by simp) _ _ _

end Sys2Proof.Machine
end

section
/-! PROOFS. What every operation of the exhibits lets last: the take of each slot, and each exhibit's hold reasons,
its retirement and its being installed. -/

namespace Sys2Proof.Machine

/-! ### The load arbiter and the call unit leave the exhibits' own fields alone -/

theorem returnUnits_inner (e n : Nat) (s : State) : (returnUnits e n s).inner = s.inner := by
  unfold returnUnits
  split
  · rfl
  · simp [State.modEx_inner s e (fun x => { x with units := x.units - n }) rfl]

theorem returnRun_inner (e : Nat) (s : State) : (returnRun e s).inner = s.inner := returnUnits_inner ..

theorem request_inner (e n : Nat) (p : Purpose) (s : State) : (request e n p s).1.inner = s.inner := by
  unfold request
  dsimp only
  split <;> simp

theorem raiseCause_inner (e : Nat) (c : Cause) (v : Nat) (s : State) :
    (raiseCause e c v s).inner = s.inner := by
  have hput (r : CauseRec) : (s.modEx e (putCause r)).inner = s.inner := State.modEx_inner s e _ rfl
  unfold raiseCause
  dsimp only
  split
  · split
    · exact enterCall_inner ..
    · exact hput _
  · exact hput _
  · split
    · rfl
    · simp

/-! ### What lasts -/

/-- One exhibit entry has the hold reasons and the retirement of another, and is installed if that one is. -/
abbrev Exhibit.Lasts (x y : Exhibit) : Prop :=
  y.hold = x.hold ∧ y.retire = x.retire ∧ (x.installed = true → y.installed = true)

/-- What a take wrote in each slot stands, each exhibit's hold reasons and retirement stand, and an installed
exhibit stays installed. -/
structure Lasts (s t : State) : Prop where
  take : ∀ j, (t.slot j).take = (s.slot j).take
  exhibit : ∀ e, (s.ex e).Lasts (t.ex e)

namespace Lasts

/-! ### Composing -/

theorem refl (s : State) : Lasts s s := ⟨fun _ => rfl, fun _ => ⟨rfl, rfl, id⟩⟩

theorem trans {s t u : State} (h : Lasts s t) (k : Lasts t u) : Lasts s u where
  take j := (k.take j).trans (h.take j)
  exhibit e := by
    obtain ⟨hhold, hretire, hinst⟩ := h.exhibit e
    obtain ⟨khold, kretire, kinst⟩ := k.exhibit e
    exact ⟨khold.trans hhold, kretire.trans hretire, kinst ∘ hinst⟩

/-- The fields that the load arbiter and the causes of calls leave alone hold all of it. -/
theorem of_inner {s t : State} (h : t.inner = s.inner) : Lasts s t where
  take j := congrArg Slot.take (inner_slot h j)
  exhibit e := by
    have hown := inner_own h e
    have hstate : (t.ex e).own.state = (s.ex e).own.state := congrArg Exhibit.state hown
    have hhold : (t.ex e).own.hold = (s.ex e).own.hold := congrArg Exhibit.hold hown
    have hretire : (t.ex e).own.retire = (s.ex e).own.retire := congrArg Exhibit.retire hown
    exact ⟨hhold, hretire, fun hinst => by rw [Exhibit.installed] at hinst ⊢; exact hstate ▸ hinst⟩

/-- An ending that changes one exhibit's own fields within these bounds. -/
theorem of_change {s t : State} {e : Nat} {f : Exhibit → Exhibit}
    (h : t.standing = s.standing.change e f) (hf : ∀ x : Exhibit, x.Lasts (f x)) : Lasts s t where
  take j := standing_take h j
  exhibit j := by
    have hown : (t.ex j).own = Function.update (fun i => (s.ex i).own) e (f (s.ex e).own) j :=
      congrFun (congrArg Standing.own h) j
    have hlasts : (s.ex j).own.Lasts (t.ex j).own := by
      rw [hown]
      by_cases hj : j = e
      · subst hj; rw [Function.update_self]; exact hf (s.ex j).own
      · rw [Function.update_of_ne hj]; exact ⟨rfl, rfl, id⟩
    exact hlasts

section
variable {u s : State} (h : Lasts u s) (e : Nat)
include h

theorem after_inner {t : State} (ht : t.inner = s.inner) : Lasts u t := h.trans (of_inner ht)

/-- A fold of operations that let it all last. -/
theorem after_foldl {α : Type} (f : State → α → State) (hf : ∀ s a, Lasts s (f s a)) (l : List α) :
    Lasts u (l.foldl f s) := by
  refine h.trans ?_
  clear h
  induction l generalizing s with
  | nil => exact .refl s
  | cons a l ih => exact (hf s a).trans ih

/-! ### Single updates -/

theorem after_modEx (f : Exhibit → Exhibit) (hf : (s.ex e).Lasts (f (s.ex e))) :
    Lasts u (s.modEx e f) := by
  refine h.trans ⟨fun _ => rfl, fun j => ?_⟩
  by_cases hj : j = e
  · subst hj; simpa using hf
  · rw [State.modEx_ex_other _ _ _ _ hj]; exact ⟨rfl, rfl, id⟩

theorem after_modCh (c : Nat) (f : Channel → Channel) : Lasts u (s.modCh c f) :=
  h.trans ⟨fun _ => rfl, fun _ => ⟨rfl, rfl, id⟩⟩

theorem after_modAxes (f : AxisRec → Channel → Channel) : Lasts u (modAxes e f s) :=
  h.trans ⟨fun j => by rw [modAxes_slot], fun j => by rw [modAxes_ex]; exact ⟨rfl, rfl, id⟩⟩

theorem after_brakeAxes : Lasts u (brakeAxes e s) := h.after_modAxes e _

theorem after_tripAxes : Lasts u (tripAxes e s) := h.after_modAxes e _

theorem after_releaseAxes : Lasts u (releaseAxes e s) := h.after_modAxes e _

theorem after_energiseAxes : Lasts u (energiseAxes e s) := h.after_modAxes e _

theorem after_deenergiseAxes : Lasts u (deenergiseAxes e s) := h.after_modAxes e _

theorem after_publish : Lasts u (publish s) := h.trans ⟨fun _ => rfl, fun _ => ⟨rfl, rfl, id⟩⟩

theorem after_publishExhibit : Lasts u (publishExhibit e s) :=
  h.trans ⟨fun _ => rfl, fun _ => ⟨rfl, rfl, id⟩⟩

theorem after_complete (k : Nat) (o : OrderOutcome) (r : Word) : Lasts u (complete k o r s) :=
  h.trans ⟨fun j => complete_take k o r s j, fun _ => ⟨rfl, rfl, id⟩⟩

theorem after_pulseCue (c : Nat) : Lasts u (pulseCue c s) := by
  unfold pulseCue
  split
  · exact h
  · exact h.trans ⟨fun _ => rfl, fun _ => ⟨rfl, rfl, id⟩⟩

theorem after_modRun (f : Run → Run) : Lasts u (modRun e f s) := h.after_modEx e _ ⟨rfl, rfl, id⟩

theorem after_markSet (l : List Nat) : Lasts u (markSet e l s) := h.after_modEx e _ ⟨rfl, rfl, id⟩

/-! ### The load arbiter -/

theorem after_withdraw : Lasts u (withdraw e s) := h.after_inner (withdraw_inner e s)

theorem after_returnUnits (n : Nat) : Lasts u (returnUnits e n s) := h.after_inner (returnUnits_inner e n s)

theorem after_returnRun : Lasts u (returnRun e s) := h.after_returnUnits e _

theorem after_returnAll : Lasts u (returnAll e s) := h.after_returnUnits e _

theorem after_request (n : Nat) (p : Purpose) : Lasts u (request e n p s).1 :=
  h.after_inner (request_inner e n p s)

/-! ### Entering a state -/

theorem after_enter (st : ExState) (hst : st ≠ .absent) : Lasts u (enter e st s) :=
  (h.after_modEx e _ ⟨rfl, rfl, fun _ => by simpa [Exhibit.installed] using hst⟩).after_publishExhibit e

theorem after_enterBraking (t : Target) (a : Option Activity) : Lasts u (enterBraking e t a s) :=
  (h.after_modEx e _ ⟨rfl, rfl, fun _ => rfl⟩).after_publishExhibit e

theorem after_enterHeld (a : Activity) : Lasts u (enterHeld e a s) :=
  (h.after_modEx e _ ⟨rfl, rfl, fun _ => rfl⟩).after_publishExhibit e

theorem after_startRest : Lasts u (startRest e s) := by
  unfold startRest
  split
  · exact h.after_modEx e _ ⟨rfl, rfl, id⟩
  · exact h

/-! ### Endings -/

theorem after_endRun (o : OrderOutcome) : Lasts u (endRun e o s) :=
  h.trans (of_change (endRun_standing e o s) fun _ => ⟨rfl, rfl, id⟩)

theorem after_dropQueued (o : OrderOutcome) : Lasts u (dropQueued e o s) :=
  h.trans (of_change (dropQueued_standing e o s) fun _ => ⟨rfl, rfl, id⟩)

theorem after_endHomingOrder (o : OrderOutcome) : Lasts u (endHomingOrder e o s) :=
  h.trans (of_change (endHomingOrder_standing e o s) fun _ => ⟨rfl, rfl, id⟩)

theorem after_endStopOrders (o : OrderOutcome) : Lasts u (endStopOrders e o s) :=
  h.trans (of_change (endStopOrders_standing e o s) fun _ => ⟨rfl, rfl, id⟩)

theorem after_endLockOrders (o : OrderOutcome) : Lasts u (endLockOrders e o s) :=
  h.trans (of_change (endLockOrders_standing e o s) fun _ => ⟨rfl, rfl, id⟩)

theorem after_completeOrigin (o : Origin) (out : OrderOutcome) (r : Word) :
    Lasts u (completeOrigin o out r s) := by
  cases o with
  | press => exact h
  | order k => exact h.after_complete k out r

theorem after_lockDown : Lasts u (lockDown e s) :=
  ((((h.after_modEx e _ ⟨rfl, rfl, id⟩).after_deenergiseAxes e).after_returnAll e).after_enter e .lockedOut
    (by decide)).after_endLockOrders e .done

/-! ### Faults -/

theorem after_raiseCause (c : Cause) (v : Nat) : Lasts u (raiseCause e c v s) :=
  h.after_inner (raiseCause_inner e c v s)

theorem after_firstFault (r : FaultReport) : Lasts u (firstFault e r s) := by
  unfold firstFault
  extract_lets s1 s2 s3 s4 s5
  have h1 : Lasts u s1 := h.after_modEx e _ ⟨rfl, rfl, id⟩
  have h2 : Lasts u s2 := h1.after_tripAxes e
  have h3 : Lasts u s3 :=
    ((h2.after_endRun e .faulted).after_endHomingOrder e .faulted).after_endStopOrders e .faulted
  have h4 : Lasts u s4 := (h3.after_releaseAxes e).after_dropQueued e .faulted
  have h5 : Lasts u s5 := (h4.after_withdraw e).after_returnRun e
  exact h5.after_raiseCause e _ _

theorem after_takeFault (r : FaultReport) : Lasts u (takeFault e r s) := by
  unfold takeFault
  dsimp only
  split
  · exact h
  · split
    · exact h.after_modEx e _ ⟨rfl, rfl, id⟩
    · split
      · exact (h.after_firstFault e r).after_lockDown e
      · exact ((h.after_firstFault e r).after_enter e .faulted (by decide)).after_endLockOrders e .faulted

theorem after_energiseFault : Lasts u (energiseFault e s) := by
  unfold energiseFault
  split
  · exact h.after_takeFault e _
  · exact h

theorem after_checkFault (b : Bool) (r : FaultReport) : Lasts u (checkFault e b r s) := by
  unfold checkFault
  dsimp only
  split
  · split
    · exact (h.after_takeFault e r).after_takeFault e _
    · exact h.after_takeFault e r
  · exact h.after_takeFault e r

/-! ### Runs -/

theorem after_formWaypoint : Lasts u (formWaypoint e s) := by
  unfold formWaypoint
  split
  · exact h
  · exact (h.after_modEx e _ ⟨rfl, rfl, id⟩).after_modRun e _

theorem after_arrivedAll : Lasts u (arrivedAll e s).1 := by
  unfold arrivedAll
  split
  · exact h
  · exact (h.after_returnRun e).after_modRun e _

theorem after_completeAtGrant : Lasts u (completeAtGrant e s) := by
  unfold completeAtGrant
  split
  · exact h
  · split
    · exact (h.after_modRun e _).after_completeOrigin ..
    · exact h

theorem after_startRunAxes (r : Run) (l : List AxisRec) : Lasts u (startRunAxes e r l s) :=
  ((h.after_foldl _ (fun s _ => (refl s).after_modCh _ _) l).after_modRun e _).after_publishExhibit e

theorem after_waypointGranted (b : Bool) : Lasts u (waypointGranted e b s).1 := by
  unfold waypointGranted
  split
  · exact h
  · extract_lets s1 s2 axes
    have h2 : Lasts u s2 := ((h.after_modRun e _).after_pulseCue _).after_completeAtGrant e
    split
    · exact h2.after_checkFault e b _
    · next s3 _ _ =>
      have h3 : Lasts u s3 := h2.after_startRunAxes e _ axes
      split
      · dsimp only
        exact h3.after_energiseFault e
      · split
        · exact h3.after_arrivedAll e
        · exact h3

theorem after_beginOnce : Lasts u (beginOnce e s).1 := by
  unfold beginOnce
  split
  · exact h
  · dsimp only
    split
    · exact (h.after_formWaypoint e).after_waypointGranted e false
    · exact (h.after_formWaypoint e).after_request e _ _

theorem after_beginRun (r : Nat) (o : Origin) (b : Bool) : Lasts u (beginRun e r o b s) :=
  (h.after_modEx e _ ⟨rfl, rfl, id⟩).after_enter e .running (by decide)

theorem after_beginQueued (q : Queued) : Lasts u (beginQueued e q s) :=
  (h.after_modEx e _ ⟨rfl, rfl, id⟩).after_beginRun e _ _ _

theorem after_readyContinue : Lasts u (readyContinue e s).1 := by
  unfold readyContinue
  split
  · split
    · exact h.after_beginQueued e _
    · exact h.after_startRest e
  · exact h.after_startRest e

theorem after_runRefused : Lasts u (runRefused e s) :=
  ((h.after_endRun e .overBudget).after_releaseAxes e).after_enter e .ready (by decide)

theorem after_beginWaypoint : Lasts u (beginWaypoint e s).1 := by
  have hbegun := h.after_beginOnce e
  unfold beginWaypoint
  split
  · next heq => simpa [heq] using hbegun
  · next heq => simpa [heq] using hbegun
  · next s1 heq =>
    rw [heq] at hbegun
    have hready := (hbegun.after_runRefused e).after_readyContinue e
    split
    · next heq2 => simpa [heq2] using hready
    · next s2 heq2 =>
      rw [heq2] at hready
      have hagain := hready.after_beginOnce e
      split
      · next heq3 => simpa [heq3] using hagain
      · next heq3 => simpa [heq3] using hagain
      · next s3 heq3 =>
        rw [heq3] at hagain
        exact (hagain.after_runRefused e).after_readyContinue e

theorem after_finishRun : Lasts u (finishRun e s).1 :=
  ((h.after_endRun e .done).after_enter e .ready (by decide)).after_readyContinue e

theorem after_advanceRun : Lasts u (advanceRun e s).1 := by
  unfold advanceRun
  split
  · exact h
  · extract_lets n
    split
    · exact h.after_modRun e _
    · split
      · exact h.after_modRun e _
      · split
        · exact h.after_modRun e _
        · exact h.after_finishRun e

theorem after_afterDwell : Lasts u (afterDwell e s).1 := by
  unfold afterDwell
  split
  · exact h
  · dsimp only
    split
    · exact (h.after_modRun e _).after_modRun e _
    · exact (h.after_modRun e _).after_advanceRun e

theorem after_dwellChain (n : Nat) : Lasts u (dwellChain n e s) := by
  induction n generalizing s with
  | zero => exact h
  | succ n ih =>
    have hdwelt := h.after_afterDwell e
    unfold dwellChain
    split
    · next heq => simpa [heq] using hdwelt
    · next s1 heq =>
      rw [heq] at hdwelt
      have hbegun := hdwelt.after_beginWaypoint e
      split
      · next heq2 => simpa [heq2] using hbegun
      · next s2 heq2 =>
        rw [heq2] at hbegun
        exact ih hbegun

theorem after_goWaypoint : Lasts u (goWaypoint e s) := by
  have hbegun := h.after_beginWaypoint e
  unfold goWaypoint
  split
  · next heq => simpa [heq] using hbegun
  · next heq =>
    rw [heq] at hbegun
    exact hbegun.after_dwellChain e _

theorem after_readyNow : Lasts u (readyNow e s) := by
  have hready := h.after_readyContinue e
  unfold readyNow
  split
  · next heq => simpa [heq] using hready
  · next heq =>
    rw [heq] at hready
    exact hready.after_goWaypoint e

theorem after_toReady : Lasts u (toReady e s) := (h.after_enter e .ready (by decide)).after_readyNow e

/-! ### Homing -/

theorem after_homingEnd : Lasts u (homingEnd e s) :=
  ((h.after_returnRun e).after_endHomingOrder e .done).after_toReady e

theorem after_homeAxes (b : Bool) (l : List AxisRec) : Lasts u (homeAxes e b l s) := by
  unfold homeAxes
  split
  · exact h.after_checkFault e b _
  · have hstarted := ((h.after_markSet e (homeActiveSlots s l)).after_foldl
      (fun u a => u.modCh a.channel (fun c =>
        if c.state = .stopped ∧ c.kind = some .homing then resumeMove a c else startHoming a c))
      (fun s _ => (refl s).after_modCh _ _) l).after_publishExhibit e
    dsimp only
    split
    · exact hstarted.after_homingEnd e
    · exact hstarted

theorem after_homingGranted : Lasts u (homingGranted e s) := by
  unfold homingGranted
  dsimp only
  split
  · exact ((h.after_energiseAxes e).after_releaseAxes e).after_homeAxes e _ _
  · exact (h.after_releaseAxes e).after_homeAxes e _ _

theorem after_homingRefused : Lasts u (homingRefused e s) :=
  (((h.after_endHomingOrder e .overBudget).after_dropQueued e .stopped).after_modEx e _
    ⟨rfl, rfl, id⟩).after_lockDown e

theorem after_askHoming : Lasts u (askHoming e s) := by
  unfold askHoming
  extract_lets x claim
  split
  · exact h.after_homingGranted e
  · split
    · exact (h.after_request e _ _).after_homingRefused e
    · exact h.after_request e _ _

theorem after_enterHoming : Lasts u (enterHoming e s) := by
  have hunset := h.after_modEx e (fun x => { x with axesSet := [] }) ⟨rfl, rfl, id⟩
  unfold enterHoming
  dsimp only
  split
  · exact (hunset.after_enter e .homing (by decide)).after_askHoming e
  · split
    · exact hunset.after_enterHeld e .homing
    · exact hunset.after_enter e .homing (by decide)

theorem after_leaveLockedOut : Lasts u (leaveLockedOut e s) := by
  unfold leaveLockedOut
  split
  · exact h.after_toReady e
  · exact h.after_enterHoming e

theorem after_removeLock (r : LockReason) : Lasts u (removeLock e r s) := by
  have hremoved := h.after_modEx e (fun x => { x with lock := x.lock.put r false }) ⟨rfl, rfl, id⟩
  unfold removeLock
  dsimp only
  split
  · exact h
  · split
    · exact hremoved.after_leaveLockedOut e
    · exact hremoved

/-! ### Wakes, resumptions and holds -/

omit h in
theorem after_goBegun {x : State × Begun} (hx : Lasts u x.1) : Lasts u (goBegun e x) := by
  unfold goBegun
  split
  · exact hx.after_dwellChain e _
  · exact hx

theorem after_wakeGranted : Lasts u (wakeGranted e s) := by
  have henergised := (h.after_modEx e (fun x => { x with wakePending := false })
    ⟨rfl, rfl, id⟩).after_energiseAxes e
  unfold wakeGranted
  dsimp only
  split
  · exact ((henergised.after_modEx e _ ⟨rfl, rfl, id⟩).after_enter e .homing (by decide)).after_homeAxes e _ _
  · split
    · exact after_goBegun e
        (((henergised.after_beginQueued e _).after_formWaypoint e).after_waypointGranted e true)
    · exact ((henergised.after_enter e .ready (by decide)).after_startRest e).after_energiseFault e

theorem after_wake : Lasts u (wake e s) := by
  have hpending := ((h.after_withdraw e).after_modEx e (fun x => { x with wakePending := true })
    ⟨rfl, rfl, id⟩).after_publishExhibit e
  unfold wake
  dsimp only
  split
  · exact h
  · split
    · exact h
    · split
      · exact hpending.after_wakeGranted e
      · split
        · exact ((hpending.after_request e _ _).after_modEx e _ ⟨rfl, rfl, id⟩).after_dropQueued e _
        · exact hpending.after_request e _ _

theorem after_resumeGranted : Lasts u (resumeGranted e s).1 := by
  unfold resumeGranted
  split
  · exact h
  · split
    · exact h.after_waypointGranted e false
    · dsimp only
      split
      · exact h.after_takeFault e _
      · exact (h.after_foldl _ (fun s _ => (refl s).after_modCh _ _) _).after_modRun e _

theorem after_resumeMovement (r : Run) : Lasts u (resumeMovement e r s) := by
  unfold resumeMovement
  split
  · exact after_goBegun e (h.after_arrivedAll e)
  · split
    · exact h.after_modRun e _
    · dsimp only
      split
      · exact after_goBegun e ((h.after_modRun e _).after_resumeGranted e)
      · split
        · exact (((h.after_modRun e _).after_request e _ _).after_runRefused e).after_readyNow e
        · exact (h.after_modRun e _).after_request e _ _

theorem after_resumeHoming : Lasts u (resumeHoming e s) := h.after_homeAxes e _ _

theorem after_leaveHeld : Lasts u (leaveHeld e s) := by
  unfold leaveHeld
  dsimp only
  split
  · exact h
  · have hhoming := h.after_enter e .homing (by decide)
    split
    · exact hhoming.after_resumeHoming e
    · split
      · exact (hhoming.after_request e _ _).after_homingRefused e
      · exact hhoming.after_request e _ _
  · have hrunning := h.after_enter e .running (by decide)
    split
    · exact hrunning
    · split
      · exact hrunning
      · exact hrunning.after_modRun e _
      · exact hrunning
      · exact hrunning.after_resumeMovement e _

theorem after_pauseRun : Lasts u (pauseRun e s) :=
  (((h.after_withdraw e).after_returnRun e).after_modRun e _).after_enterHeld e .running

theorem after_holdEffect : Lasts u (holdEffect e s) := by
  unfold holdEffect
  dsimp only
  split
  · split
    · exact (h.after_brakeAxes e).after_enterBraking e _ _
    · split
      · exact (h.after_withdraw e).after_enterHeld e _
      · exact h.after_withdraw e
  · split
    · exact (h.after_brakeAxes e).after_enterBraking e _ _
    · exact h.after_pauseRun e
  · split
    · exact (h.after_withdraw e).after_modEx e _ ⟨rfl, rfl, id⟩
    · exact h
  · exact h

theorem after_releaseEffect : Lasts u (releaseEffect e s) := by
  unfold releaseEffect
  dsimp only
  split
  · split
    · exact h
    · exact h.after_askHoming e
  · exact h.after_leaveHeld e
  · split
    · exact h
    · exact h.after_readyNow e
  · split
    · exact h
    · exact h.after_wake e
  · exact h

/-! ### What is handed, and the end of an event -/

theorem after_takeGrant (p : Purpose) : Lasts u (takeGrant e p s) := by
  cases p with
  | waypoint =>
    simp only [takeGrant]
    split
    · exact after_goBegun e (h.after_waypointGranted e false)
    · exact h
  | homing =>
    simp only [takeGrant]
    split
    · exact h.after_homingGranted e
    · exact h
  | resume =>
    simp only [takeGrant]
    split
    · exact after_goBegun e (h.after_resumeGranted e)
    · split
      · exact h.after_resumeHoming e
      · exact h
  | wake =>
    simp only [takeGrant]
    split
    · exact h.after_wakeGranted e
    · exact h

theorem after_deliver (d : Handed) : Lasts u (deliver d s) := by
  cases d with
  | grant e p => exact h.after_takeGrant e p
  | overrun e r => exact h.after_takeFault e r

theorem after_settle : Lasts u (settle s) := by
  have hloop : ∀ (n : Nat) (s : State), Lasts s (settleLoop n s) := by
    intro n
    induction n with
    | zero => exact refl
    | succ n ih =>
      intro s
      unfold settleLoop
      split
      · exact refl s
      · next d r _ =>
        have htaken : Lasts s { s with handed := r } := ⟨fun _ => rfl, fun _ => ⟨rfl, rfl, id⟩⟩
        exact (htaken.after_deliver d).after_publish.trans (ih _)
  exact h.trans (hloop _ s)

theorem after_closeEvent : Lasts u (closeEvent s) := h.after_settle.after_publish

end

end Lasts

end Sys2Proof.Machine
end

section
/-! PROOFS. The hold reasons: adding and removing one, and the gallery's HALT over every exhibit (R22, R23, R38,
R39). -/

namespace Sys2Proof.Machine

/-! ### Reason sets -/

theorem HoldReasons.put_of_has {x : HoldReasons} {r : HoldReason} (h : x.has r = true) : x.put r true = x := by
  obtain ⟨guard, order, gallery⟩ := x
  cases r <;> simp_all [HoldReasons.has, HoldReasons.put]

theorem HoldReasons.put_of_not_has {x : HoldReasons} {r : HoldReason} (h : x.has r = false) :
    x.put r false = x := by
  obtain ⟨guard, order, gallery⟩ := x
  cases r <;> simp_all [HoldReasons.has, HoldReasons.put]

/-! ### Tables -/

/-- A record that is not the default stands under a listed number. -/
theorem mem_keys_of_lookup_ne {α : Type} {d : α} {t : Tab α} {k : Nat} (h : lookup d t k ≠ d) :
    k ∈ keys t := by
  induction t with
  | nil => exact absurd rfl h
  | cons p r ih =>
    by_cases hk : p.1 = k
    · simp [keys, hk]
    · have hr : k ∈ keys r := ih (by simpa [lookup, hk] using h)
      simpa [keys] using Or.inr (by simpa [keys] using hr)

/-- An installed exhibit is listed in the exhibit table. -/
theorem mem_keys_of_installed {s : State} {e : Nat} (h : (s.ex e).installed = true) :
    e ∈ keys s.exhibits := by
  refine mem_keys_of_lookup_ne (d := Exhibit.absent) fun habs => ?_
  rw [State.ex, habs] at h
  exact absurd h (by decide)

/-! ### Adding and removing a hold reason -/

section
variable (e : Nat) (r : HoldReason) (s : State)

/-- A hold reason added to an installed exhibit without retire pending stands in its set. -/
theorem addHold_lasts (hinst : (s.ex e).installed = true) (hretire : (s.ex e).retire = none) :
    Lasts (s.modEx e (fun x => { x with hold := x.hold.put r true })) (addHold e r s) := by
  unfold addHold
  dsimp only
  split
  · next hskip =>
    have hhas : (s.ex e).hold.has r = true := by simpa [hinst, hretire] using hskip
    refine ⟨fun _ => rfl, fun j => ?_⟩
    by_cases hj : j = e
    · subst hj; rw [State.modEx_ex_same, HoldReasons.put_of_has hhas]; exact ⟨rfl, rfl, id⟩
    · rw [State.modEx_ex_other _ _ _ _ hj]; exact ⟨rfl, rfl, id⟩
  · exact (Lasts.refl _).after_holdEffect e

/-- A hold reason is not added to an exhibit that is not installed or has retire pending. -/
theorem addHold_of_skip (h : (s.ex e).installed = false ∨ (s.ex e).retire ≠ none) :
    addHold e r s = s := by
  have hskip : (!(s.ex e).installed || (s.ex e).retire.isSome || (s.ex e).hold.has r) = true := by
    rcases h with h | h
    · simp [h]
    · simp [Option.isSome_iff_ne_none.2 h]
  exact if_pos hskip

/-- A hold reason removed from an exhibit is gone from its set. -/
theorem removeHold_lasts :
    Lasts (s.modEx e (fun x => { x with hold := x.hold.put r false })) (removeHold e r s) := by
  unfold removeHold
  dsimp only
  split
  · next hskip =>
    have hnot : (s.ex e).hold.has r = false := by simpa using hskip
    refine ⟨fun _ => rfl, fun j => ?_⟩
    by_cases hj : j = e
    · subst hj; rw [State.modEx_ex_same, HoldReasons.put_of_not_has hnot]; exact ⟨rfl, rfl, id⟩
    · rw [State.modEx_ex_other _ _ _ _ hj]; exact ⟨rfl, rfl, id⟩
  · split
    · exact (Lasts.refl _).after_releaseEffect e
    · exact .refl _

theorem removeHold_hold : ((removeHold e r s).ex e).hold = (s.ex e).hold.put r false := by
  simpa using ((removeHold_lasts e r s).exhibit e).1

theorem removeHold_hold_other {j : Nat} (hj : j ≠ e) : ((removeHold e r s).ex j).hold = (s.ex j).hold := by
  rw [((removeHold_lasts e r s).exhibit j).1, State.modEx_ex_other _ _ _ _ hj]

theorem removeHold_take (j : Nat) : ((removeHold e r s).slot j).take = (s.slot j).take :=
  (removeHold_lasts e r s).take j

theorem addHold_take (j : Nat) : ((addHold e r s).slot j).take = (s.slot j).take := by
  by_cases h : (s.ex e).installed = true ∧ (s.ex e).retire = none
  · exact (addHold_lasts e r s h.1 h.2).take j
  · rw [addHold_of_skip e r s (by simpa [or_iff_not_imp_left] using h)]

/-- Adding a hold reason leaves an exhibit installed and its retirement as it was, and takes no reason out. -/
theorem addHold_keeps (j : Nat) :
    ((s.ex j).installed = true → ((addHold e r s).ex j).installed = true) ∧
      ((addHold e r s).ex j).retire = (s.ex j).retire ∧
      ((s.ex j).hold.gallery = true → ((addHold e r s).ex j).hold.gallery = true) := by
  by_cases h : (s.ex e).installed = true ∧ (s.ex e).retire = none
  · obtain ⟨hhold, hret, hinst⟩ := (addHold_lasts e r s h.1 h.2).exhibit j
    by_cases hj : j = e
    · subst hj
      rw [State.modEx_ex_same] at hhold hret hinst
      refine ⟨hinst, hret, fun hg => ?_⟩
      rw [hhold]
      cases r <;> simp [HoldReasons.put, hg]
    · rw [State.modEx_ex_other _ _ _ _ hj] at hhold hret hinst
      exact ⟨hinst, hret, fun hg => by rw [hhold, hg]⟩
  · rw [addHold_of_skip e r s (by simpa [or_iff_not_imp_left] using h)]
    exact ⟨id, rfl, id⟩

theorem addHold_hold (hinst : (s.ex e).installed = true) (hretire : (s.ex e).retire = none) :
    ((addHold e r s).ex e).hold = (s.ex e).hold.put r true := by
  simpa using ((addHold_lasts e r s hinst hretire).exhibit e).1

end

/-! ### One event for each exhibit -/

/-- An event for each number of a list, one of which is `e`: what holds from the start holds when the event of
`e` comes, and what that event reaches stands to the end. -/
theorem eachEvent_reaches {P Q : State → Prop} {f : Nat → State → State} {ks : List Nat} {e : Nat}
    (he : e ∈ ks) {s : State} (hstart : P s) (hkeep : ∀ k s, P s → P (closeEvent (f k s)))
    (hreach : ∀ s, P s → Q (closeEvent (f e s))) (hstay : ∀ k s, Q s → Q (closeEvent (f k s))) :
    Q (eachEvent f ks s) := by
  obtain ⟨l, r, rfl⟩ := List.append_of_mem he
  have hsplit : eachEvent f (l ++ e :: r) s = eachEvent f r (closeEvent (f e (eachEvent f l s))) := by
    simp [eachEvent]
  rw [hsplit]
  exact eachEvent_induct f r _ (hreach _ (eachEvent_induct f l s hstart fun k s _ => hkeep k s))
    fun k s _ => hstay k s

section
variable (s : State)

/-- What a take wrote in each slot stands through HALT's events. -/
theorem holdGallery_take (j : Nat) : ((holdGallery s).slot j).take = (s.slot j).take :=
  eachEvent_induct (P := fun t => (t.slot j).take = (s.slot j).take) _ _ _ rfl fun k t _ ht =>
    ((((Lasts.refl (addHold k .gallery t)).after_closeEvent).take j).trans (addHold_take ..)).trans ht

theorem releaseGallery_take (j : Nat) : ((releaseGallery s).slot j).take = (s.slot j).take :=
  eachEvent_induct (P := fun t => (t.slot j).take = (s.slot j).take) _ _ _ rfl fun k t _ ht =>
    ((((Lasts.refl (removeHold k .gallery t)).after_closeEvent).take j).trans (removeHold_take ..)).trans ht

/-- Every installed exhibit without retire pending is held for the gallery (R38). -/
theorem holdGallery_gallery (e : Nat) (hinst : (s.ex e).installed = true)
    (hretire : (s.ex e).retire = none) : ((holdGallery s).ex e).hold.gallery = true := by
  refine eachEvent_reaches (P := fun t => (t.ex e).installed = true ∧ (t.ex e).retire = none)
    (Q := fun t => (t.ex e).hold.gallery = true) (mem_keys_of_installed hinst) ⟨hinst, hretire⟩
    (fun k t ht => ?_) (fun t ht => ?_) (fun k t ht => ?_)
  · obtain ⟨_, hret, hin⟩ := ((Lasts.refl (addHold k .gallery t)).after_closeEvent).exhibit e
    obtain ⟨kin, kret, _⟩ := addHold_keeps k .gallery t e
    exact ⟨hin (kin ht.1), by rw [hret, kret, ht.2]⟩
  · obtain ⟨hhold, _, _⟩ := ((Lasts.refl (addHold e .gallery t)).after_closeEvent).exhibit e
    rw [hhold, addHold_hold e .gallery t ht.1 ht.2]
    rfl
  · obtain ⟨hhold, _, _⟩ := ((Lasts.refl (addHold k .gallery t)).after_closeEvent).exhibit e
    obtain ⟨_, _, kgallery⟩ := addHold_keeps k .gallery t e
    rw [hhold]
    exact kgallery ht

/-- No exhibit is held for the gallery any longer (R39). -/
theorem releaseGallery_gallery (e : Nat) : ((releaseGallery s).ex e).hold.gallery = false := by
  have hclosed (k : Nat) (t : State) :
      ((closeEvent (removeHold k .gallery t)).ex e).hold = ((removeHold k .gallery t).ex e).hold :=
    (((Lasts.refl _).after_closeEvent).exhibit e).1
  have hstay (k : Nat) (t : State) (ht : (t.ex e).hold.gallery = false) :
      ((closeEvent (removeHold k .gallery t)).ex e).hold.gallery = false := by
    rw [hclosed]
    by_cases hk : e = k
    · subst hk; rw [removeHold_hold]; rfl
    · rw [removeHold_hold_other k .gallery t hk, ht]
  by_cases he : e ∈ keys s.exhibits
  · refine eachEvent_reaches (P := fun _ => True) (Q := fun t => (t.ex e).hold.gallery = false) he trivial
      (fun _ _ _ => trivial) (fun t _ => ?_) hstay
    rw [hclosed, removeHold_hold]
    rfl
  · have habsent : s.ex e = .absent := by
      by_contra hne
      exact he (mem_keys_of_lookup_ne hne)
    refine eachEvent_induct (P := fun t => (t.ex e).hold.gallery = false) _ _ _ ?_ fun k t _ => hstay k t
    rw [habsent]
    rfl

/-! ### HALT -/

theorem enterHalt_of_halt {s : State} (h : s.mode = .halt) : enterHalt s = s := if_pos h

theorem enterHalt_of_ne {s : State} (h : s.mode ≠ .halt) : enterHalt s = holdGallery { s with mode := .halt } :=
  if_neg h

/-- Entering HALT leaves the pin and the gallery tick as they are. -/
theorem enterHalt_pin_tick : (enterHalt s).haltPin = s.haltPin ∧ (enterHalt s).tick = s.tick := by
  by_cases h : s.mode = .halt
  · rw [enterHalt_of_halt h]; exact ⟨rfl, rfl⟩
  · rw [enterHalt_of_ne h]
    exact ⟨(outer_haltPin (holdGallery_outer _)).trans rfl, (outer_tick (holdGallery_outer _)).trans rfl⟩

/-- Entering HALT from another mode holds every installed exhibit without retire pending. -/
theorem enterHalt_gallery (h : s.mode ≠ .halt) (e : Nat) (hinst : (s.ex e).installed = true)
    (hretire : (s.ex e).retire = none) : ((enterHalt s).ex e).hold.gallery = true := by
  rw [enterHalt_of_ne h]
  exact holdGallery_gallery _ e hinst hretire

theorem with_haltPin_keptBut (b : Bool) : KeptBut [.haltPin] s { s with haltPin := b } := by
  intro g hg
  cases g <;> first | rfl | exact absurd List.mem_cons_self hg

theorem with_mode_keptBut (m : GalleryMode) : KeptBut [.mode] s { s with mode := m } := by
  intro g hg
  cases g <;> first | rfl | exact absurd List.mem_cons_self hg

end

/-- Settles O12: each of HALT's events adds GALLERY to its exhibit, and neither the other events nor what they
hand takes a hold reason out of an exhibit, retires it or starts its retirement. -/
theorem haltEventsHoldTheGallery : Obligations.HaltEventsHoldTheGallery := by
  intro s u
  refine ⟨⟨publish (enterHalt u), rfl, ?_, ?_, ?_, fun hm => ?_, fun hm e hinst hretire => ?_⟩,
    ⟨publish (haltPinLow u), rfl, ?_, fun hpin => ?_, fun hpin => ?_, fun hpin hm e hinst hretire => ?_⟩,
    ⟨publish (haltPinHigh u), rfl, rfl, ?_⟩⟩
  · exact enterHalt_mode u
  · exact (enterHalt_pin_tick u).1
  · exact (enterHalt_pin_tick u).2
  · rw [enterHalt_of_halt hm]
  · exact enterHalt_gallery u hm e hinst hretire
  · rw [publish_haltPin, haltPinLow]
    split
    · exact (enterHalt_pin_tick _).1
    · next hpin => simpa using hpin
  · rw [publish_mode, haltPinLow, if_pos hpin]
    exact enterHalt_mode _
  · rw [haltPinLow, hpin, if_neg (by decide)]
  · rw [publish_ex, haltPinLow, if_pos hpin]
    exact enterHalt_gallery { u with haltPin := false } hm e hinst hretire
  · exact ((with_haltPin_keptBut u true).mono (by simp)).trans ((publish_keptBut _).mono (by decide))

/-! ### SET GALLERY MODE -/

/-- SET GALLERY MODE is read from its slot as written. -/
theorem readOrder_setMode (h : OrderHead) (m : Byte) :
    readOrder (hostFieldsOf h (.setMode m)).kind (hostFieldsOf h (.setMode m)).params =
      some (.setMode m) := by
  simp [hostFieldsOf, kindCodeOf, readOrder, paramBytes, paramField]

/-- Only the code 2 names HALT among the codes in range. -/
theorem modeFrom_eq_halt {m : Nat} (hm : m ≤ 2) : modeFrom m = .halt ↔ m = 2 := by
  interval_cases m <;> decide

section
variable {m : GalleryMode} (s : State)

theorem setMode_mode : (setMode m s).mode = m := by
  unfold setMode
  split
  · next hm => rw [enterHalt_mode, hm]
  · split
    · exact outer_mode (releaseGallery_outer _)
    · rfl

theorem setMode_lastTaken : (setMode m s).lastTaken = s.lastTaken := by
  unfold setMode enterHalt
  split
  · split
    · rfl
    · exact (outer_lastTaken (holdGallery_outer _)).trans rfl
  · split
    · exact (outer_lastTaken (releaseGallery_outer _)).trans rfl
    · rfl

theorem setMode_take (j : Nat) : ((setMode m s).slot j).take = (s.slot j).take := by
  unfold setMode enterHalt
  split
  · split
    · rfl
    · exact holdGallery_take _ j
  · split
    · exact releaseGallery_take _ j
    · rfl

end

section
variable {h : OrderHead} {m : Byte} {u : State}

/-- A SET GALLERY MODE with a mode's code passes every check. -/
theorem takeRefusal_setMode (hmay : MayOrderGallery u h) (huntimed : Untimed h) (hm : m.toNat ≤ 2) :
    takeRefusal u h.slot.val (hostFieldsOf h (.setMode m)) = none :=
  takeRefusal_none (readOrder_setMode h m) (exhibitCheck_gallery _ rfl (by simp) (by simp))
    ((accessAllowed_gallery _ _ rfl).trans hmay.2) (by simpa [paramsOk, inRange] using hm) huntimed

/-- SET GALLERY MODE toward CLOSED or OPEN while the pin is low is refused by its own rule. -/
theorem postAndTake_setMode_low (hmay : MayOrderGallery u h) (huntimed : Untimed h) (hm : m.toNat ≤ 2)
    (htoward : m.toNat ≠ 2) (hpin : u.haltPin = false) :
    postAndTake h (.setMode m) u =
      refuseAtTake h.slot.val (hostFieldsOf h (.setMode m)) .state 0 (postedAndTaken h (.setMode m) u) := by
  refine postAndTake_of_refuse hmay.1 (readOrder_setMode h m) (takeRefusal_setMode hmay huntimed hm) huntimed ?_
  exact if_pos ⟨fun hhalt => htoward ((modeFrom_eq_halt hm).1 hhalt), hpin⟩

/-- What an accepted SET GALLERY MODE comes to. -/
theorem postAndTake_setMode (hmay : MayOrderGallery u h) (huntimed : Untimed h) (hm : m.toNat ≤ 2)
    (hgo : m.toNat = 2 ∨ u.haltPin = true) :
    postAndTake h (.setMode m) u =
      complete h.slot.val .done (BitVec.ofNat 32 u.mode.code)
        (setMode (modeFrom m.toNat) (accepted h (.setMode m) u)) := by
  refine postAndTake_of_go hmay.1 (readOrder_setMode h m) (takeRefusal_setMode hmay huntimed hm) huntimed
    (by simp [kindCodeOf]) ?_
  have hpass : ¬ (modeFrom m.toNat ≠ .halt ∧ (accepted h (.setMode m) u).haltPin = false) := by
    rintro ⟨hne, hlow⟩
    have hlow' : u.haltPin = false := hlow
    rcases hgo with htwo | hhigh
    · exact hne ((modeFrom_eq_halt hm).2 htwo)
    · simp [hlow'] at hhigh
  exact if_neg hpass

end

/-- Settles O25: toward CLOSED or OPEN the pin decides between a refusal and the new mode; HALT's events hold
and release the exhibits, and the order completes after them. -/
theorem galleryModeIsSet : Obligations.GalleryModeIsSet := by
  intro h m s u hmay huntimed hm
  refine ⟨fun htoward hpin => ?_, fun hgo => ?_⟩
  · exact ⟨_, exec_orderCommand (postAndTake_setMode_low hmay huntimed hm htoward hpin),
      refusedOnly_of_refuseAtTake (by decide)⟩
  · have htoward (hne : m.toNat ≠ 2) : modeFrom m.toNat ≠ .halt := mt (modeFrom_eq_halt hm).1 hne
    refine ⟨_, exec_orderCommand (postAndTake_setMode hmay huntimed hm hgo), ?_, ?_, fun hne hmode => ?_,
      fun hne hmode e => ?_, fun htwo hmode => ?_⟩
    · rw [publish_mode, complete_mode, setMode_mode]
    · exact slotDone_of_complete ((setMode_take _ _).trans (accepted_take h _ u)) (setMode_lastTaken _)
    · have hset : setMode (modeFrom m.toNat) (accepted h (.setMode m) u) =
          { accepted h (.setMode m) u with mode := modeFrom m.toNat } := by
        rw [setMode, if_neg (htoward hne)]
        exact if_neg hmode
      rw [hset]
      exact ⟨otherSlots_publish_complete fun _ => rfl, ((keptBut_accepted (by simp)).trans
        ((with_mode_keptBut _ _).mono (by simp))).publish_complete (by simp) _ _ _⟩
    · have hset : setMode (modeFrom m.toNat) (accepted h (.setMode m) u) =
          releaseGallery { accepted h (.setMode m) u with mode := modeFrom m.toNat } := by
        rw [setMode, if_neg (htoward hne)]
        exact if_pos hmode
      rw [publish_ex, complete_ex, hset]
      exact releaseGallery_gallery _ e
    · have hset : setMode (modeFrom m.toNat) (accepted h (.setMode m) u) = accepted h (.setMode m) u := by
        rw [setMode, if_pos ((modeFrom_eq_halt hm).2 htwo)]
        exact enterHalt_of_halt hmode
      rw [hset]
      exact ⟨otherSlots_publish_complete fun _ => rfl,
        (keptBut_accepted (by simp)).publish_complete (by simp) _ _ _⟩

end Sys2Proof.Machine
end

section
/-! PROOFS. Frames of the shared operations, and what a record reads in a state that keeps its table. -/

namespace Sys2Proof.Machine

/-! ### Reading a frame -/

section
variable {fs : List Field} {s t : State} (h : KeptBut fs s t)
include h

theorem KeptBut.slot (hf : Field.slots ∉ fs) (j : Nat) : t.slot j = s.slot j :=
  congrArg (lookup Slot.zero · j) (h .slots hf : t.slots = s.slots)

theorem KeptBut.ex (hf : Field.exhibits ∉ fs) (j : Nat) : t.ex j = s.ex j :=
  congrArg (lookup Exhibit.absent · j) (h .exhibits hf : t.exhibits = s.exhibits)

theorem KeptBut.ch (hf : Field.channels ∉ fs) (j : Nat) : t.ch j = s.ch j :=
  congrArg (lookup Channel.fresh · j) (h .channels hf : t.channels = s.channels)

theorem KeptBut.inp (hf : Field.inputs ∉ fs) (j : Nat) : t.inp j = s.inp j :=
  congrArg (lookup Input.fresh · j) (h .inputs hf : t.inputs = s.inputs)

theorem KeptBut.group (hf : Field.groups ∉ fs) (j : Nat) : t.group j = s.group j :=
  congrArg (lookup Group.fresh · j) (h .groups hf : t.groups = s.groups)

end

/-! ### Single updates -/

section
variable (s : State) (e : Nat)

theorem State.modCh_keptBut (c : Nat) (f : Channel → Channel) : KeptBut [.channels] s (s.modCh c f) := by
  intro g hg
  cases g <;> first | rfl | exact absurd List.mem_cons_self hg

theorem State.modGroup_keptBut (g : Nat) (f : Group → Group) : KeptBut [.groups] s (s.modGroup g f) := by
  intro k hk
  cases k <;> first | rfl | exact absurd List.mem_cons_self hk

theorem with_handed_keptBut (l : List Handed) : KeptBut [.handed] s { s with handed := l } := by
  intro g hg
  cases g <;> first | rfl | exact absurd List.mem_cons_self hg

theorem publishExhibit_keptBut : KeptBut viewFields s (publishExhibit e s) := by
  intro g hg
  cases g <;> first | rfl | exact absurd (by decide) hg

theorem modAxes_keptBut (f : AxisRec → Channel → Channel) : KeptBut [.channels] s (modAxes e f s) :=
  .foldl _ (fun u _ => State.modCh_keptBut u _ _) _ _

/-! ### The load arbiter -/

/-- The fields that the load arbiter changes. -/
def arbiterFields : List Field := [.exhibits, .groups, .handed, .notice]

theorem book_keptBut (g : Nat) (r : Request) : KeptBut arbiterFields s (book g r s) :=
  ((State.modGroup_keptBut s g _).mono (by decide)).trans <|
    ((State.modEx_keptBut _ _ _).mono (by decide)).trans <|
    ((setNotice_keptBut _ _).mono (by decide)).trans ((with_handed_keptBut _ _).mono (by decide))

theorem evaluate_keptBut (g : Nat) : KeptBut arbiterFields s (evaluate g s) := by
  have hloop : ∀ (n : Nat) (u : State), KeptBut arbiterFields u (evaluateLoop n g u) := by
    intro n
    induction n with
    | zero => exact .refl _
    | succ n ih =>
      intro u
      unfold evaluateLoop
      split
      · exact .refl _ _
      · split
        · exact (book_keptBut u g _).trans (ih _)
        · exact .refl _ _
  exact hloop _ s

theorem withdraw_keptBut : KeptBut arbiterFields s (withdraw e s) := by
  unfold withdraw
  split
  · exact .refl _ _
  · exact ((State.modGroup_keptBut s _ _).mono (by decide)).trans <|
      ((setNotice_keptBut _ _).mono (by decide)).trans (evaluate_keptBut _ _)

theorem request_keptBut (n : Nat) (p : Purpose) : KeptBut arbiterFields s (request e n p s).1 := by
  unfold request
  dsimp only
  split
  · exact ((setNotice_keptBut _ _).mono (by decide)).trans (withdraw_keptBut _ _)
  · exact ((State.modGroup_keptBut s _ _).mono (by decide)).trans <|
      ((setNotice_keptBut _ _).mono (by decide)).trans (evaluate_keptBut _ _)

theorem returnUnits_keptBut (n : Nat) : KeptBut arbiterFields s (returnUnits e n s) := by
  unfold returnUnits
  split
  · exact .refl _ _
  · exact ((State.modEx_keptBut s e _).mono (by decide)).trans <|
      ((State.modGroup_keptBut _ _ _).mono (by decide)).trans <|
      ((setNotice_keptBut _ _).mono (by decide)).trans (evaluate_keptBut _ _)

/-! ### Entering a state -/

/-- The fields that entering a state changes. -/
def enterFields : List Field := [.exhibits, .views, .notice]

theorem enter_keptBut (st : ExState) : KeptBut enterFields s (enter e st s) :=
  ((State.modEx_keptBut s e _).mono (by decide)).trans ((publishExhibit_keptBut _ _).mono (by decide))

theorem enterBraking_keptBut (t : Target) (a : Option Activity) :
    KeptBut enterFields s (enterBraking e t a s) :=
  ((State.modEx_keptBut s e _).mono (by decide)).trans ((publishExhibit_keptBut _ _).mono (by decide))

theorem enterHeld_keptBut (a : Activity) : KeptBut enterFields s (enterHeld e a s) :=
  ((State.modEx_keptBut s e _).mono (by decide)).trans ((publishExhibit_keptBut _ _).mono (by decide))

/-- What entering a state writes in the exhibit's entry. -/
theorem enter_ex (st : ExState) :
    (enter e st s).ex e = { s.ex e with state := st, restTimer := none, target := none, heldAct := none } := by
  simp [enter]

theorem enter_ch (st : ExState) (c : Nat) : (enter e st s).ch c = s.ch c := rfl

/-! ### Braking -/

/-- An exhibit that brakes is BRAKING toward its target. -/
theorem enterBraking_brakeAxes_ex (t : Target) (a : Option Activity) :
    (enterBraking e t a (brakeAxes e s)).ex e =
      { s.ex e with state := .braking, restTimer := none, target := some t, heldAct := a } := by
  simp [enterBraking, brakeAxes]

/-- Each MOVING axis of an exhibit that brakes is BRAKING (R127). -/
theorem enterBraking_brakeAxes_ch (t : Target) (act : Option Activity) (a : AxisRec)
    (ha : a ∈ (s.ex e).axes) (hmove : (s.ch a.channel).state = .moving) :
    (enterBraking e t act (brakeAxes e s)).ch a.channel = { s.ch a.channel with state := .braking } := by
  rw [enterBraking, publishExhibit_ch, State.modEx_ch, brakeAxes,
    modAxes_ch_axis e s brakeChannel brakeChannel_brakeChannel a ha]
  exact if_pos hmove

theorem enterBraking_brakeAxes_keptBut (t : Target) (a : Option Activity) :
    KeptBut (.channels :: enterFields) s (enterBraking e t a (brakeAxes e s)) :=
  ((modAxes_keptBut s e _).mono (by decide)).trans ((enterBraking_keptBut _ _ _ _).mono (by decide))

/-- Whether an axis of an exhibit moves is the same in states that agree on its axes and the channels. -/
theorem anyMoving_congr {s t : State} {e : Nat} (haxes : (t.ex e).axes = (s.ex e).axes)
    (hch : ∀ c, t.ch c = s.ch c) : t.anyMoving e = s.anyMoving e := by
  simp [State.anyMoving, haxes, hch]

end

/-! ### The input unit's events -/

/-- A state in which an input's level has become active and its event is stamped (R64). -/
def activated (i : Nat) (v : State) : State := stampEvent i (v.modInp i (fun x => { x with accepted := true }))

/-- A state in which an input's level has become inactive. -/
def deactivated (i : Nat) (v : State) : State := v.modInp i (fun x => { x with accepted := false })

section
variable (i : Nat) (v : State)

@[simp] theorem activated_ex (e : Nat) : (activated i v).ex e = v.ex e := rfl
@[simp] theorem activated_ch (c : Nat) : (activated i v).ch c = v.ch c := rfl
@[simp] theorem activated_tick : (activated i v).tick = v.tick := rfl
@[simp] theorem deactivated_ex (e : Nat) : (deactivated i v).ex e = v.ex e := rfl

theorem activated_inp : (activated i v).inp i = { v.inp i with accepted := true, lastEvent := v.tick } := by
  simp [activated, stampEvent]

theorem activated_inp_other {j : Nat} (hj : j ≠ i) : (activated i v).inp j = v.inp j := by
  simp [activated, stampEvent, State.modInp_inp_other, hj]

theorem activated_keptBut : KeptBut [.inputs] v (activated i v) := by
  unfold activated stampEvent
  exact (State.modInp_keptBut _ _ _).trans (State.modInp_keptBut _ _ _)

theorem deactivated_keptBut : KeptBut [.inputs] v (deactivated i v) := State.modInp_keptBut _ _ _

/-- The event of an input with an owner and a class is its class's own (R64). -/
theorem inputEvent_of_class {e : Nat} {c : InputClass} (lvl : Bool) (howner : (v.inp i).owner = some e)
    (hclass : v.classOf i = some c) :
    inputEvent i lvl v = classEvent e i c lvl (v.modInp i (fun x => { x with accepted := lvl })) := by
  simp only [inputEvent, howner, hclass]

/-- The inputs after an event that keeps the fields outside the exhibits' blocks. -/
theorem inputs_of_activated {t : State} (ht : t.outer = (activated i v).outer) :
    t.inp i = { v.inp i with accepted := true, lastEvent := v.tick } ∧ OtherInputs i v t :=
  ⟨(outer_inp ht i).trans (activated_inp i v),
    fun j hj => (outer_inp ht j).trans (activated_inp_other i v hj)⟩

end

end Sys2Proof.Machine
end

section
/-! PROOFS. HOLD, RELEASE and the guards (R22, R23, R43, R80, R81). -/

namespace Sys2Proof.Machine

section
variable (x : Exhibit)

@[simp] theorem Exhibit.own_state : x.own.state = x.state := rfl
@[simp] theorem Exhibit.own_lock : x.own.lock = x.lock := rfl
@[simp] theorem Exhibit.own_laterFaults : x.own.laterFaults = x.laterFaults := rfl
@[simp] theorem Exhibit.own_restTimer : x.own.restTimer = x.restTimer := rfl
@[simp] theorem Exhibit.own_wakePending : x.own.wakePending = x.wakePending := rfl
@[simp] theorem Exhibit.own_axesSet : x.own.axesSet = x.axesSet := rfl
@[simp] theorem Exhibit.own_homingOrder : x.own.homingOrder = x.homingOrder := rfl
@[simp] theorem Exhibit.own_lockOrders : x.own.lockOrders = x.lockOrders := rfl

end

/-! ### The effect of a hold -/

/-- The fields that the effect of a hold changes (R22). -/
def holdFields : List Field := [.exhibits, .channels, .groups, .handed, .views, .notice]

section
variable (e : Nat) (r : HoldReason) (s : State)

theorem pauseRun_keptBut : KeptBut holdFields s (pauseRun e s) :=
  ((withdraw_keptBut s e).mono (by decide)).trans <|
    ((returnUnits_keptBut _ e _).mono (by decide)).trans <|
    ((State.modEx_keptBut _ _ _).mono (by decide)).trans ((enterHeld_keptBut _ _ _).mono (by decide))

theorem holdEffect_keptBut : KeptBut holdFields s (holdEffect e s) := by
  have hwithdraw := (withdraw_keptBut s e).mono (show arbiterFields ⊆ holdFields by decide)
  have hbrake (a : Option Activity) := (enterBraking_brakeAxes_keptBut s e .held a).mono
    (show Field.channels :: enterFields ⊆ holdFields by decide)
  unfold holdEffect
  dsimp only
  split
  · split
    · exact hbrake _
    · split
      · exact hwithdraw.trans ((enterHeld_keptBut _ _ _).mono (by decide))
      · exact hwithdraw
  · split
    · exact hbrake _
    · exact pauseRun_keptBut e s
  · split
    · exact hwithdraw.trans ((State.modEx_keptBut _ _ _).mono (by decide))
    · exact .refl _ _
  · exact .refl _ _

/-- A hold reason is only recorded but in HOMING, RUNNING and RESTING. -/
theorem holdEffect_of_recorded (hhoming : (s.ex e).state ≠ .homing) (hrunning : (s.ex e).state ≠ .running)
    (hresting : (s.ex e).state ≠ .resting) : holdEffect e s = s := by
  unfold holdEffect
  dsimp only
  split
  · contradiction
  · contradiction
  · contradiction
  · rfl

theorem addHold_of_has (h : (s.ex e).hold.has r = true) : addHold e r s = s := if_pos (by simp [h])

theorem addHold_of_not_has (hinst : (s.ex e).installed = true) (hretire : (s.ex e).retire = none)
    (hnot : (s.ex e).hold.has r = false) :
    addHold e r s = holdEffect e (s.modEx e (fun x => { x with hold := x.hold.put r true })) :=
  if_neg (by simp [hinst, hretire, hnot])

theorem addHold_keptBut : KeptBut holdFields s (addHold e r s) := by
  unfold addHold
  dsimp only
  split
  · exact .refl _ _
  · exact ((State.modEx_keptBut _ _ _).mono (by decide)).trans (holdEffect_keptBut _ _)

theorem removeHold_of_not_has (h : (s.ex e).hold.has r = false) : removeHold e r s = s := if_pos (by simp [h])

/-- With a hold reason left the removal of another changes the set alone. -/
theorem removeHold_keptBut_of_left (hleft : ((s.ex e).hold.put r false).isEmpty = false) :
    KeptBut [.exhibits] s (removeHold e r s) := by
  unfold removeHold
  dsimp only
  split
  · exact .refl _ _
  · rw [if_neg (by simp [hleft])]
    exact State.modEx_keptBut _ _ _

end

/-! ### HOLD and RELEASE -/

section
variable {h : OrderHead} {u : State}

/-- What an accepted HOLD comes to. -/
theorem postAndTake_hold (hmay : MayOrderExhibit u h) (huntimed : Untimed h) :
    postAndTake h .hold u =
      complete h.slot.val .done
        (BitVec.ofNat 32 ((u.ex (OrderHead.ex h)).hold.put .order true).size)
        (addHold (OrderHead.ex h) .order (accepted h .hold u)) :=
  postAndTake_of_go hmay.1 rfl (takeRefusal_of_mayOrder hmay huntimed rfl rfl rfl) huntimed (by decide) rfl

/-- What an accepted RELEASE comes to. -/
theorem postAndTake_release (hmay : MayOrderExhibit u h) (huntimed : Untimed h) :
    postAndTake h .release u =
      complete h.slot.val .done
        (BitVec.ofNat 32 ((u.ex (OrderHead.ex h)).hold.put .order false).size)
        (removeHold (OrderHead.ex h) .order (accepted h .release u)) :=
  postAndTake_of_go hmay.1 rfl (takeRefusal_of_mayOrder hmay huntimed rfl rfl rfl) huntimed (by decide) rfl

/-- HOLD adds ORDER, with the effects of a hold (R43, R22). -/
theorem hold_adds {s : State} (hmay : MayOrderExhibit (settle s) h) (huntimed : Untimed h) :
    ∃ t, exec (.hold h) s = .next t ∧
      (t.ex (OrderHead.ex h)).hold = { ((settle s).ex (OrderHead.ex h)).hold with order := true } ∧
      SlotDone (settle s) t h .hold (BitVec.ofNat 32 (t.ex (OrderHead.ex h)).hold.size) ∧
      OtherSlots h.slot.val (settle s) t ∧
      KeptBut ([.exhibits, .channels, .groups, .handed] ++ orderFields) (settle s) t ∧
      (((settle s).ex (OrderHead.ex h)).hold.order = true → KeptBut orderFields (settle s) t) := by
  obtain ⟨-, ⟨-, hinst, hretire⟩, -⟩ := id hmay
  have hhold : ((addHold (OrderHead.ex h) .order (accepted h .hold (settle s))).ex (OrderHead.ex h)).hold =
      ((settle s).ex (OrderHead.ex h)).hold.put .order true := addHold_hold _ _ _ hinst hretire
  have hframe := addHold_keptBut (OrderHead.ex h) .order (accepted h .hold (settle s))
  refine ⟨_, exec_orderCommand (postAndTake_hold hmay huntimed), hhold, ?_,
    otherSlots_publish_complete fun j => hframe.slot (by decide) j, ?_, fun hhas => ?_⟩
  · rw [publish_ex, complete_ex, hhold]
    exact slotDone_of_complete ((addHold_take ..).trans (accepted_take h _ _))
      (outer_lastTaken (addHold_outer ..))
  · exact ((keptBut_accepted (by decide)).trans (hframe.mono (by decide))).publish_complete (by decide) _ _ _
  · rw [addHold_of_has (OrderHead.ex h) .order (accepted h .hold (settle s)) hhas]
    exact (keptBut_accepted (by simp)).publish_complete (by simp) _ _ _

/-- RELEASE removes ORDER, with the effects of an emptying (R43, R23). -/
theorem release_removes {s : State} (hmay : MayOrderExhibit (settle s) h) (huntimed : Untimed h) :
    ∃ t, exec (.release h) s = .next t ∧
      (t.ex (OrderHead.ex h)).hold = { ((settle s).ex (OrderHead.ex h)).hold with order := false } ∧
      SlotDone (settle s) t h .release (BitVec.ofNat 32 (t.ex (OrderHead.ex h)).hold.size) ∧
      KeptBut exhibitFields (settle s) t ∧
      (((settle s).ex (OrderHead.ex h)).hold.order = false →
        OtherSlots h.slot.val (settle s) t ∧ KeptBut orderFields (settle s) t) ∧
      (((settle s).ex (OrderHead.ex h)).hold.guard = true ∨ ((settle s).ex (OrderHead.ex h)).hold.gallery = true →
        OtherSlots h.slot.val (settle s) t ∧ KeptBut (.exhibits :: orderFields) (settle s) t) := by
  have hhold : ((removeHold (OrderHead.ex h) .order (accepted h .release (settle s))).ex (OrderHead.ex h)).hold =
      ((settle s).ex (OrderHead.ex h)).hold.put .order false := removeHold_hold _ _ _
  refine ⟨_, exec_orderCommand (postAndTake_release hmay huntimed), hhold, ?_, ?_, fun hnot => ?_,
    fun hleft => ?_⟩
  · rw [publish_ex, complete_ex, hhold]
    exact slotDone_of_complete ((removeHold_take ..).trans (accepted_take h _ _))
      (outer_lastTaken (removeHold_outer ..))
  · exact ((keptBut_accepted (by decide)).trans (keptBut_of_outer (removeHold_outer ..))).publish_complete
      (by decide) _ _ _
  · rw [removeHold_of_not_has (OrderHead.ex h) .order (accepted h .release (settle s)) hnot]
    exact ⟨otherSlots_publish_complete fun _ => rfl,
      (keptBut_accepted (by simp)).publish_complete (by simp) _ _ _⟩
  · have hframe : KeptBut [.exhibits] (accepted h .release (settle s))
        (removeHold (OrderHead.ex h) .order (accepted h .release (settle s))) := by
      refine removeHold_keptBut_of_left _ _ _ ?_
      rcases hleft with hg | hg <;> simp [HoldReasons.put, HoldReasons.isEmpty, hg]
    exact ⟨otherSlots_publish_complete fun j => hframe.slot (by decide) j,
      ((keptBut_accepted (by simp)).trans (hframe.mono (by simp))).publish_complete (by simp) _ _ _⟩

end

/-! ### A guard without a fault -/

/-- The axes of an exhibit at some slots are among its axes. -/
theorem mem_axes_of_mem_axesOf {s : State} {e : Nat} {l : List Nat} {a : AxisRec} (h : a ∈ axesOf s e l) :
    a ∈ (s.ex e).axes := by
  obtain ⟨k, -, hk⟩ := List.mem_filterMap.1 h
  exact List.mem_of_find?_eq_some hk

/-- With no axis moving a GUARD-TRIP acts as a GUARD-HOLD (R81). -/
theorem tripOn_of_still {e : Nat} {s : State} (hstill : s.anyMoving e = false) : tripOn e s = guardOn e s := by
  have hnone : lowestWith s (axesOf s e (s.ex e).axisSlots) (fun c => c.isMoving) = none := by
    refine List.find?_eq_none.2 fun a ha => ?_
    simpa using List.any_eq_false.1 hstill a (mem_axes_of_mem_axesOf ha)
  simp only [tripOn, hnone]

/-- A guard's activation that meets no moving axis at a GUARD-TRIP adds GUARD (R80, R81). -/
theorem inputEvent_guard {v : State} {i e : Nat} (howner : (v.inp i).owner = some e)
    (hclass : v.classOf i = some .guardHold ∨ (v.classOf i = some .guardTrip ∧ v.anyMoving e = false)) :
    inputEvent i true v = addHold e .guard (activated i v) := by
  rcases hclass with hclass | ⟨hclass, hstill⟩
  · exact inputEvent_of_class i v true howner hclass
  · rw [inputEvent_of_class i v true howner hclass]
    exact tripOn_of_still hstill

section
variable {v : State} {i e : Nat} (hinst : (v.ex e).installed = true) (hretire : (v.ex e).retire = none)
include hinst hretire

/-- GUARD added to a READY exhibit is recorded and changes nothing else (R22). -/
theorem addHold_guard_ready (hready : (v.ex e).state = .ready) :
    (addHold e .guard (activated i v)).ex e =
        { v.ex e with hold := { (v.ex e).hold with guard := true } } ∧
      OtherExhibits e v (addHold e .guard (activated i v)) ∧
      KeptBut [.inputs, .exhibits] v (addHold e .guard (activated i v)) := by
  have hframe := (activated_keptBut i v).mono (show [Field.inputs] ⊆ [.inputs, .exhibits] by decide)
  cases hhas : (v.ex e).hold.guard with
  | true =>
    rw [addHold_of_has e .guard (activated i v) hhas]
    refine ⟨?_, fun _ _ => rfl, hframe⟩
    rw [activated_ex, ← hhas]
  | false =>
    rw [addHold_of_not_has e .guard (activated i v) hinst hretire hhas, holdEffect_of_recorded]
    · exact ⟨by simp [HoldReasons.put], fun j hj => by simp [State.modEx_ex_other _ _ _ _ hj],
        hframe.trans ((State.modEx_keptBut _ _ _).mono (by decide))⟩
    all_goals simp [hready]

/-- GUARD added to a RUNNING exhibit with an axis moving brakes it toward HELD (R22). -/
theorem addHold_guard_running (hrunning : (v.ex e).state = .running) (hmove : v.anyMoving e = true)
    (hnot : (v.ex e).hold.guard = false) :
    addHold e .guard (activated i v) =
      enterBraking e .held (some .running) (brakeAxes e
        ((activated i v).modEx e (fun x => { x with hold := { x.hold with guard := true } }))) := by
  rw [addHold_of_not_has e .guard (activated i v) hinst hretire hnot]
  have hmove' : ((activated i v).modEx e
      (fun x => { x with hold := { x.hold with guard := true } })).anyMoving e = true := by
    refine (anyMoving_congr (s := v) ?_ ?_).trans hmove
    · simp
    · exact fun _ => rfl
  simp only [holdEffect, HoldReasons.put, State.modEx_ex_same, activated_ex, hrunning, hmove', if_true]

end

/-! ### A GUARD-TRIP that meets a moving axis -/

/-- The lowest moving axis slot of an exhibit (R81). -/
theorem lowestWith_moving {s : State} {e : Nat} {a : AxisRec} (ha : a ∈ (s.ex e).axes)
    (hmove : (s.ch a.channel).isMoving = true) (hslot : a.slot < 4)
    (hlow : ∀ b ∈ (s.ex e).axes, (s.ch b.channel).isMoving = true → a.slot ≤ b.slot)
    (hunique : ∀ b ∈ (s.ex e).axes, b.slot = a.slot → b = a) :
    lowestWith s (axesOf s e (s.ex e).axisSlots) (fun c => c.isMoving) = some a := by
  have hat : (s.ex e).axisAt a.slot = some a := by
    cases hfind : (s.ex e).axisAt a.slot with
    | none => exact absurd (beq_self_eq_true a.slot) (by simpa using List.find?_eq_none.1 hfind a ha)
    | some b =>
      have hb := List.find?_some hfind
      rw [hunique b (List.mem_of_find?_eq_some hfind) (by simpa using hb)]
  have hbelow : ∀ k < a.slot, ∀ b, (s.ex e).axisAt k = some b → (s.ch b.channel).isMoving = false := by
    intro k hk b hfind
    have hb : b.slot = k := by simpa using List.find?_some hfind
    by_contra hm
    have := hlow b (List.mem_of_find?_eq_some hfind) (by simpa using hm)
    omega
  have hslots : (s.ex e).axisSlots.filter (fun k => (s.ex e).axisSlots.contains k) = (s.ex e).axisSlots :=
    List.filter_eq_self.2 fun k hk => by simpa using hk
  have hfirst : (s.ex e).axisSlots.find? (fun k => ((s.ex e).axisAt k).any (fun b => (s.ch b.channel).isMoving)) =
      some a.slot := by
    rw [Exhibit.axisSlots, List.find?_filter, List.find?_range_eq_some]
    have hmem : (s.ex e).axes.any (fun b => b.slot == a.slot) = true :=
      List.any_eq_true.2 ⟨a, ha, beq_self_eq_true _⟩
    refine ⟨by simp [hat, hmove, hmem], by simpa using hslot, fun k hk => ?_⟩
    · cases hfind : (s.ex e).axisAt k with
      | none => simp
      | some b => simp [hbelow k hk b hfind]
  rw [lowestWith, axesOf, hslots, List.find?_filterMap, hfirst]
  exact hat

/-- A channel reads the same in states with the same inner fields. -/
theorem inner_ch {s t : State} (h : t.inner = s.inner) (c : Nat) : t.ch c = s.ch c :=
  congrArg (lookup Channel.fresh · c) (congrArg Inner.channels h)

theorem tripChannel_isMoving (c : Channel) : (tripChannel c).isMoving = false := by
  unfold tripChannel
  split
  · rfl
  · next hc => simpa using hc

theorem tripChannel_tripChannel (c : Channel) : tripChannel (tripChannel c) = tripChannel c :=
  if_neg (by simp [tripChannel_isMoving])

section
variable (e : Nat) (r : FaultReport) (s : State)

/-- What the first fault makes of the exhibit's own fields (R172). -/
theorem firstFault_own :
    ((firstFault e r s).ex e).own =
      { (s.ex e).own with
        capture := some (captureOf s e r), laterFaults := 0, run := none, homingOrder := none,
        stopOrders := [], queued := none } := by
  unfold firstFault
  extract_lets s1 s2 s3 s4 s5
  have h1 : (s2.ex e).own =
      { (s.ex e).own with capture := some (captureOf s e r), laterFaults := 0 } := by
    rw [show s2 = tripAxes e s1 from rfl, tripAxes, modAxes_ex, State.modEx_ex_same]
    rfl
  have h3 : (s3.ex e).own = { (s2.ex e).own with run := none, homingOrder := none, stopOrders := [] } := by
    rw [standing_own (endStopOrders_standing ..), standing_own (endHomingOrder_standing ..),
      standing_own (endRun_standing ..)]
  have h4 : (s4.ex e).own = { (s3.ex e).own with queued := none } := by
    rw [standing_own (dropQueued_standing ..), releaseAxes, modAxes_ex]
  have h5 : (s5.ex e).own = (s4.ex e).own :=
    (inner_own (returnRun_inner ..) e).trans (inner_own (withdraw_inner ..) e)
  rw [inner_own (raiseCause_inner ..) e, h5, h4, h3, h1]

/-- After the first fault no axis of the exhibit moves (R131). -/
theorem firstFault_still (b : AxisRec) (hb : b ∈ (s.ex e).axes) :
    ((firstFault e r s).ch b.channel).isMoving = false := by
  unfold firstFault
  extract_lets s1 s2 s3 s4 s5
  have h1 : b ∈ (s1.ex e).axes := by simpa [s1] using hb
  have h2 : (s2.ch b.channel).isMoving = false := by
    rw [show s2 = tripAxes e s1 from rfl, tripAxes,
      modAxes_ch_axis e s1 tripChannel tripChannel_tripChannel b h1]
    exact tripChannel_isMoving _
  have h3 : s3.ch b.channel = s2.ch b.channel :=
    (standing_ch (endStopOrders_standing ..) _).trans <|
      (standing_ch (endHomingOrder_standing ..) _).trans (standing_ch (endRun_standing ..) _)
  have h4 : (s4.ch b.channel).isMoving = false := by
    rw [standing_ch (dropQueued_standing ..)]
    exact modAxes_ch_keeps e s3 _ _ (·.isMoving = false) releaseChannel_isMoving (by rw [h3, h2])
  rw [inner_ch (raiseCause_inner ..), inner_ch (returnRun_inner ..), inner_ch (withdraw_inner ..), h4]

/-- A first fault of an exhibit that does not brake toward LOCKED OUT leaves it FAULTED (R172, R27). -/
theorem takeFault_first (hinst : (s.ex e).installed = true) (hretire : (s.ex e).retire = none)
    (hcapture : (s.ex e).capture = none) (hlock : (s.ex e).brakingToLock = false) :
    takeFault e r s = endLockOrders e .faulted (enter e .faulted (firstFault e r s)) := by
  simp [takeFault, hinst, hretire, hcapture, hlock]

/-- The exhibit's own fields after a first fault, with `x` what the fault itself makes of the entry. -/
theorem takeFault_own (hinst : (s.ex e).installed = true) (hretire : (s.ex e).retire = none)
    (hcapture : (s.ex e).capture = none) (hlock : (s.ex e).brakingToLock = false) :
    ((takeFault e r s).ex e).state = .faulted ∧
      ((takeFault e r s).ex e).capture = some (captureOf s e r) := by
  have hown := standing_own (endLockOrders_standing e .faulted (enter e .faulted (firstFault e r s)))
  have hcap : ((firstFault e r s).ex e).capture = some (captureOf s e r) := by
    simpa using congrArg Exhibit.capture (firstFault_own e r s)
  rw [takeFault_first e r s hinst hretire hcapture hlock]
  rw [enter_ex] at hown
  exact ⟨by simpa using congrArg Exhibit.state hown, by simpa [hcap] using congrArg Exhibit.capture hown⟩

theorem takeFault_still (hinst : (s.ex e).installed = true) (hretire : (s.ex e).retire = none)
    (hcapture : (s.ex e).capture = none) (hlock : (s.ex e).brakingToLock = false) (b : AxisRec)
    (hb : b ∈ (s.ex e).axes) : ((takeFault e r s).ch b.channel).isMoving = false := by
  rw [takeFault_first e r s hinst hretire hcapture hlock, standing_ch (endLockOrders_standing ..),
    enter_ch]
  exact firstFault_still e r s b hb

end

/-- A GUARD-TRIP that meets a moving axis faults the exhibit, naming its lowest moving axis slot, and then adds
GUARD (R81). -/
theorem inputEvent_trip {v : State} {i e : Nat} {a : AxisRec} (howner : (v.inp i).owner = some e)
    (hclass : v.classOf i = some .guardTrip)
    (hlowest : lowestWith v (axesOf v e (v.ex e).axisSlots) (fun c => c.isMoving) = some a) :
    inputEvent i true v =
      addHold e .guard (takeFault e (reportOf v .guardTrip a (v.ch a.channel).v) (activated i v)) := by
  have htrip : tripOn e (activated i v) =
      addHold e .guard (takeFault e (reportOf v .guardTrip a (v.ch a.channel).v) (activated i v)) := by
    unfold tripOn
    rw [show lowestWith (activated i v) (axesOf (activated i v) e ((activated i v).ex e).axisSlots)
      (fun c => c.isMoving) = some a from hlowest]
    rfl
  rw [inputEvent_of_class i v true howner hclass]
  exact htrip

/-- A guard's deactivation takes GUARD out when no guard of the exhibit is active (R80). -/
theorem inputEvent_guard_off {v : State} {i e : Nat} (howner : (v.inp i).owner = some e)
    (hclass : v.classOf i = some .guardHold ∨ v.classOf i = some .guardTrip) :
    inputEvent i false v = guardOff e (deactivated i v) := by
  rcases hclass with hclass | hclass <;> exact inputEvent_of_class i v false howner hclass

/-- A guard's activation without a fault: GUARD is among the hold reasons, a READY exhibit records it, and a
moving one brakes toward HELD. -/
theorem guard_adds {v : State} {i e : Nat} (howner : (v.inp i).owner = some e)
    (hinst : (v.ex e).installed = true) (hretire : (v.ex e).retire = none)
    (hclass : v.classOf i = some .guardHold ∨ (v.classOf i = some .guardTrip ∧ v.anyMoving e = false)) :
    let t := inputEvent i true v
    t.inp i = { v.inp i with accepted := true, lastEvent := v.tick } ∧ OtherInputs i v t ∧
      (t.ex e).hold = { (v.ex e).hold with guard := true } ∧
      KeptBut [.inputs, .exhibits, .channels, .groups, .handed, .views, .notice] v t ∧
      ((v.ex e).hold.guard = true → KeptBut [.inputs] v t) ∧
      ((v.ex e).state = .ready → t.ex e = { v.ex e with hold := { (v.ex e).hold with guard := true } } ∧
        OtherExhibits e v t ∧ KeptBut [.inputs, .exhibits] v t) ∧
      ((v.ex e).state = .running → v.anyMoving e = true → (v.ex e).hold.guard = false →
        (t.ex e).state = .braking ∧ (t.ex e).target = some .held ∧
        (t.ex e).heldAct = some .running ∧ (t.ex e).run = (v.ex e).run ∧
        ∀ a ∈ (v.ex e).axes, (v.ch a.channel).state = .moving →
          t.ch a.channel = { v.ch a.channel with state := .braking }) := by
  intro t
  have ht : t = addHold e .guard (activated i v) := inputEvent_guard howner hclass
  obtain ⟨hinp, hother⟩ := inputs_of_activated i v (t := addHold e .guard (activated i v)) (addHold_outer ..)
  rw [ht]
  refine ⟨hinp, hother, addHold_hold e .guard _ hinst hretire, ?_, fun hhas => ?_,
    addHold_guard_ready hinst hretire, fun hrunning hmove hnot => ?_⟩
  · exact ((activated_keptBut i v).mono (by decide)).trans ((addHold_keptBut _ _ _).mono (by decide))
  · rw [addHold_of_has e .guard (activated i v) hhas]
    exact activated_keptBut i v
  · rw [addHold_guard_running hinst hretire hrunning hmove hnot, enterBraking_brakeAxes_ex]
    refine ⟨rfl, rfl, rfl, by simp, fun a ha hm => ?_⟩
    exact enterBraking_brakeAxes_ch _ _ _ _ a (by simpa using ha) hm

/-- A GUARD-TRIP that meets a moving axis: the exhibit is FAULTED with the record of its lowest moving axis, no
axis moves, and GUARD is among the hold reasons. -/
theorem trip_faults {v : State} {i e : Nat} {a : AxisRec} (howner : (v.inp i).owner = some e)
    (hclass : v.classOf i = some .guardTrip) (hinst : (v.ex e).installed = true)
    (hretire : (v.ex e).retire = none) (hcapture : (v.ex e).capture = none)
    (hlock : (v.ex e).brakingToLock = false)
    (hlowest : lowestWith v (axesOf v e (v.ex e).axisSlots) (fun c => c.isMoving) = some a) :
    let t := inputEvent i true v
    (t.ex e).state = .faulted ∧ (t.ex e).hold = { (v.ex e).hold with guard := true } ∧
      (t.ex e).capture = some (captureOf v e (reportOf v .guardTrip a (v.ch a.channel).v)) ∧
      (∀ b ∈ (v.ex e).axes, (t.ch b.channel).isMoving = false) ∧
      KeptBut (.inputs :: exhibitFields) v t := by
  intro t
  have ht : t = _ := inputEvent_trip howner hclass hlowest
  obtain ⟨hstate, hcap⟩ := takeFault_own e (reportOf v .guardTrip a (v.ch a.channel).v) (activated i v)
    hinst hretire hcapture hlock
  have hstill := takeFault_still e (reportOf v .guardTrip a (v.ch a.channel).v) (activated i v)
    hinst hretire hcapture hlock
  have hlasts := ((Lasts.refl (activated i v)).after_takeFault e
    (reportOf v .guardTrip a (v.ch a.channel).v)).exhibit e
  have houter : t.outer = (activated i v).outer := by rw [ht]; simp
  generalize takeFault e (reportOf v .guardTrip a (v.ch a.channel).v) (activated i v) = w at *
  obtain ⟨hhold, hret, hins⟩ := hlasts
  have hrecorded : KeptBut [.exhibits] w t ∧ (t.ex e).state = (w.ex e).state ∧
      (t.ex e).capture = (w.ex e).capture := by
    rw [ht]
    cases hhas : (w.ex e).hold.guard with
    | true => rw [addHold_of_has e .guard w hhas]; exact ⟨.refl _ _, rfl, rfl⟩
    | false =>
      rw [addHold_of_not_has e .guard w (hins hinst) (hret.trans hretire) hhas, holdEffect_of_recorded]
      · exact ⟨State.modEx_keptBut _ _ _, by simp, by simp⟩
      all_goals simp [hstate]
  obtain ⟨hframe, hst, hca⟩ := hrecorded
  refine ⟨hst.trans hstate, ?_, hca.trans hcap, fun b hb => ?_, ?_⟩
  · rw [ht, addHold_hold e .guard w (hins hinst) (hret.trans hretire), hhold]
    rfl
  · rw [hframe.ch (by decide)]
    exact hstill b hb
  · exact ((activated_keptBut i v).mono (by decide)).trans ((keptBut_of_outer houter).mono (by decide))

/-- A guard's deactivation: with another guard active it is recorded alone, else GUARD is taken out. -/
theorem guard_removes {v : State} {i e : Nat} (howner : (v.inp i).owner = some e)
    (hclass : v.classOf i = some .guardHold ∨ v.classOf i = some .guardTrip) :
    let w := v.modInp i (fun y => { y with accepted := false })
    let t := inputEvent i false v
    (w.guardActive e = true → t = w) ∧
      (w.guardActive e = false → (t.ex e).hold = { (v.ex e).hold with guard := false } ∧
        (t.inp i).accepted = false ∧ KeptBut (.inputs :: exhibitFields) v t) := by
  intro w t
  have ht : t = guardOff e w := inputEvent_guard_off howner hclass
  refine ⟨fun hactive => ht.trans (if_pos hactive), fun hquiet => ?_⟩
  have hremoved : t = removeHold e .guard w := ht.trans (if_neg (by simp [hquiet]))
  have houter : t.outer = w.outer := by rw [hremoved]; exact removeHold_outer ..
  refine ⟨?_, ?_, ?_⟩
  · rw [hremoved, removeHold_hold]
    rfl
  · rw [outer_inp houter]
    simp [w]
  · exact ((deactivated_keptBut i v).mono (by decide)).trans ((keptBut_of_outer houter).mono (by decide))

/-- Settles O26: HOLD, RELEASE and a guard each add or remove one reason, whose effect is that of R22 or R23; a
GUARD-TRIP's fault comes before its reason. -/
theorem holdAndReleaseChangeTheReasons : Obligations.HoldAndReleaseChangeTheReasons := by
  constructor
  · intro h s u e hmay huntimed
    exact ⟨hold_adds hmay huntimed, release_removes hmay huntimed⟩
  intro v i e x howner
  refine ⟨fun hinst hretire hclass => guard_adds howner hinst hretire hclass, ?_, ?_⟩
  · intro a ha hclass hmove hslot hlow hunique hinst hretire hcapture hlock
    exact trip_faults howner hclass hinst hretire hcapture hlock
      (lowestWith_moving ha hmove hslot hlow hunique)
  · intro hclass
    exact guard_removes howner hclass

end Sys2Proof.Machine
end

section
/-! PROOFS. The load arbiter's evaluation: a request that it can serve waits or is handed, and an exhibit without a
request is booked nothing (R138 to R144). -/

namespace Sys2Proof.Machine

/-! ### Wait lists -/

theorem headOf_mem {last : Option Nat} {wait : List Request} {r : Request} (h : headOf last wait = some r) :
    r ∈ wait := by
  unfold headOf at h
  split at h
  · exact List.mem_of_head? h
  · split at h
    · next hfind => exact Option.some.inj h ▸ List.mem_of_find?_eq_some hfind
    · exact List.mem_of_head? h

theorem mem_insertRequest {r q : Request} {l : List Request} : q ∈ insertRequest r l ↔ q = r ∨ q ∈ l := by
  induction l with
  | nil => simp [insertRequest]
  | cons p l ih =>
    unfold insertRequest
    split
    · simp
    · simp only [List.mem_cons, ih]
      tauto

/-- No request of an exhibit waits in a group. -/
def NoneWaits (s : State) (g e : Nat) : Prop := ∀ q ∈ (s.group g).wait, q.ex ≠ e

/-- An exhibit with axes has no request when none of its own waits in its group. -/
theorem request_eq_none_iff {s : State} {e : Nat} (haxes : (s.ex e).axes ≠ []) :
    s.request e = none ↔ NoneWaits s (s.ex e).group e := by
  simp [State.request, haxes, NoneWaits]

/-! ### Evaluations -/

/-- What holds before an evaluation and is kept by each grant of a waiting request holds after it. -/
theorem evaluate_induct {P : State → Prop} {g : Nat} {s : State} (h : P s)
    (hbook : ∀ u r, r ∈ (u.group g).wait → P u → P (book g r u)) : P (evaluate g s) := by
  have hloop : ∀ (n : Nat) (u : State), P u → P (evaluateLoop n g u) := by
    intro n
    induction n with
    | zero => exact fun _ hu => hu
    | succ n ih =>
      intro u hu
      unfold evaluateLoop
      split
      · exact hu
      · next r hr =>
        split
        · exact ih _ (hbook u r (headOf_mem hr) hu)
        · exact hu
  exact hloop _ s h

section
variable (g : Nat) (r : Request) (s : State)

theorem book_group : (book g r s).group g =
    { s.group g with granted := (s.group g).granted + r.units,
                     wait := (s.group g).wait.filter (fun q => q.ex != r.ex), last := some r.ex } := by
  simp [book, State.group, State.modGroup, State.modEx, setNotice]

theorem book_budget (j : Nat) : ((book g r s).group j).budget = (s.group j).budget := by
  have hgroup : (book g r s).group j = (s.modGroup g (fun x =>
      { x with granted := x.granted + r.units, wait := x.wait.filter (fun q => q.ex != r.ex),
               last := some r.ex })).group j := rfl
  rw [hgroup]
  by_cases hj : j = g
  · subst hj; simp
  · rw [State.modGroup_group_other _ _ _ _ hj]

theorem book_handed : (book g r s).handed = s.handed ++ [.grant r.ex r.purpose] := rfl

theorem book_units_other {e : Nat} (he : e ≠ r.ex) : ((book g r s).ex e).units = (s.ex e).units := by
  have hex : (book g r s).ex e = ((s.modGroup g (fun x =>
      { x with granted := x.granted + r.units, wait := x.wait.filter (fun q => q.ex != r.ex),
               last := some r.ex })).modEx r.ex (fun x => { x with units := x.units + r.units })).ex e := rfl
  rw [hex, State.modEx_ex_other _ _ _ _ he, State.modGroup_ex]

/-- An evaluation changes no budget. -/
theorem evaluate_budget (j : Nat) : ((evaluate g s).group j).budget = (s.group j).budget :=
  evaluate_induct (P := fun u => (u.group j).budget = (s.group j).budget) rfl
    fun u r _ hu => (book_budget g r u j).trans hu

/-- An evaluation hands over what it grants, after what has been handed. -/
theorem evaluate_handed : ∃ l, (evaluate g s).handed = s.handed ++ l := by
  refine evaluate_induct (P := fun u => ∃ l, u.handed = s.handed ++ l) ⟨[], by simp⟩ fun u r _ hu => ?_
  obtain ⟨l, hl⟩ := hu
  exact ⟨l ++ [.grant r.ex r.purpose], by rw [book_handed, hl, List.append_assoc]⟩

/-- An evaluation books an exhibit nothing when no request of its own waits. -/
theorem evaluate_of_noneWaits {e : Nat} (h : NoneWaits s g e) :
    NoneWaits (evaluate g s) g e ∧ ((evaluate g s).ex e).units = (s.ex e).units := by
  refine evaluate_induct (P := fun u => NoneWaits u g e ∧ (u.ex e).units = (s.ex e).units) ⟨h, rfl⟩
    fun u q hq hu => ⟨fun p hp => ?_, ?_⟩
  · rw [book_group] at hp
    exact hu.1 p (List.mem_filter.1 hp).1
  · rw [book_units_other g q u (Ne.symm (hu.1 q hq)), hu.2]

/-- A waiting request that is its exhibit's only one waits on, or its grant is handed (R142). -/
theorem evaluate_serves (hmem : r ∈ (s.group g).wait) (honly : ∀ q ∈ (s.group g).wait, q.ex = r.ex → q = r) :
    ∃ l, (evaluate g s).handed = s.handed ++ l ∧
      ((r ∈ ((evaluate g s).group g).wait ∧
          ∀ q ∈ ((evaluate g s).group g).wait, q.ex = r.ex → q = r) ∨ .grant r.ex r.purpose ∈ l) := by
  refine evaluate_induct (P := fun u => ∃ l, u.handed = s.handed ++ l ∧
    ((r ∈ (u.group g).wait ∧ ∀ q ∈ (u.group g).wait, q.ex = r.ex → q = r) ∨ .grant r.ex r.purpose ∈ l))
    ⟨[], by simp, .inl ⟨hmem, honly⟩⟩ fun u q hq hu => ?_
  obtain ⟨l, hl, hserved⟩ := hu
  refine ⟨l ++ [.grant q.ex q.purpose], by rw [book_handed, hl, List.append_assoc], ?_⟩
  rcases hserved with ⟨hin, hone⟩ | hgrant
  · by_cases hex : q.ex = r.ex
    · rw [hone q hq hex]
      exact .inr (by simp)
    · rw [book_group]
      exact .inl ⟨List.mem_filter.2 ⟨hin, by simpa using Ne.symm hex⟩,
        fun p hp => hone p (List.mem_filter.1 hp).1⟩
  · exact .inr (List.mem_append_left _ hgrant)

end

/-! ### Requests, returns and withdrawals -/

section
variable (e : Nat) (s : State)

/-- What an exhibit's group and axes are after an operation that leaves its own fields alone. -/
theorem inner_axes {s t : State} (h : t.inner = s.inner) (e : Nat) : (t.ex e).axes = (s.ex e).axes := by
  simpa using congrArg Exhibit.axes (inner_own h e)

theorem group_congr {x y : Exhibit} (h : y.axes = x.axes) : y.group = x.group := by
  simp [Exhibit.group, h]

/-- A withdrawal takes the exhibit's request out of its group's wait list (R144). -/
theorem withdraw_request : (withdraw e s).request e = none := by
  by_cases haxes : (s.ex e).axes = []
  · simp [State.request, inner_axes (withdraw_inner e s), haxes]
  · rw [request_eq_none_iff (by rwa [inner_axes (withdraw_inner e s)]),
      group_congr (inner_axes (withdraw_inner e s) e)]
    cases hreq : s.request e with
    | none =>
      have hsame : withdraw e s = s := by simp [withdraw, hreq]
      rw [hsame]
      exact (request_eq_none_iff haxes).1 hreq
    | some q =>
      simp only [withdraw, hreq]
      refine (evaluate_of_noneWaits _ _ fun p hp => ?_).1
      have hkept : p ∈ (s.group (s.ex e).group).wait ∧ p.ex ≠ e := by simpa using hp
      exact hkept.2

/-- A withdrawal hands over what the evaluation after it grants. -/
theorem withdraw_handed : ∃ l, (withdraw e s).handed = s.handed ++ l := by
  unfold withdraw
  split
  · exact ⟨[], by simp⟩
  · exact evaluate_handed _ _

theorem withdraw_budget (j : Nat) : ((withdraw e s).group j).budget = (s.group j).budget := by
  unfold withdraw
  split
  · rfl
  · rw [evaluate_budget, setNotice_group]
    by_cases hj : j = (s.ex e).group
    · subst hj; simp
    · rw [State.modGroup_group_other _ _ _ _ hj]

/-- An exhibit with axes and no request of its own holds no units once it has returned all (R143). -/
theorem returnAll_units (haxes : (s.ex e).axes ≠ []) (hreq : s.request e = none) :
    ((returnAll e s).ex e).units = 0 := by
  unfold returnAll returnUnits
  split
  · assumption
  · have hnone : NoneWaits s (s.ex e).group e := (request_eq_none_iff haxes).1 hreq
    refine (evaluate_of_noneWaits _ _ fun q hq => ?_).2.trans ?_
    · exact hnone q (by simpa using hq)
    · simp

/-- A request within the budget is not refused. -/
theorem request_within {n : Nat} {p : Purpose} (hbudget : n ≤ (s.group (s.ex e).group).budget) :
    (request e n p s).2 = false := by
  simp [request, Nat.not_lt.2 hbudget]

/-- A request over the budget is refused and withdraws (R139, R145). -/
theorem request_over {n : Nat} {p : Purpose} (hbudget : (s.group (s.ex e).group).budget < n) :
    request e n p s = (withdraw e (setNotice noticeExhibits s), true) := by
  simp [request, hbudget]

/-- A request within the budget of an exhibit with axes has been asked (R139, R142). -/
theorem request_asked {n : Nat} {p : Purpose} (haxes : (s.ex e).axes ≠ [])
    (hbudget : n ≤ (s.group (s.ex e).group).budget) : Asked s (request e n p s).1 e n p := by
  have heq : (request e n p s).1 = evaluate (s.ex e).group (setNotice noticeExhibits
      (s.modGroup (s.ex e).group (fun x =>
        { x with wait := insertRequest ⟨e, n, p⟩ (x.wait.filter (fun q => q.ex != e)) }))) := by
    simp [request, Nat.not_lt.2 hbudget]
  have hinner := request_inner e n p s
  have hwait : ∀ q, q ∈ ((setNotice noticeExhibits (s.modGroup (s.ex e).group (fun x =>
      { x with wait := insertRequest ⟨e, n, p⟩ (x.wait.filter (fun q => q.ex != e)) }))).group
        (s.ex e).group).wait ↔ q = ⟨e, n, p⟩ ∨ q ∈ (s.group (s.ex e).group).wait ∧ q.ex ≠ e := by
    simp [mem_insertRequest]
  obtain ⟨l, hl, hserved⟩ := evaluate_serves (s.ex e).group ⟨e, n, p⟩ _ ((hwait _).2 (.inl rfl))
    fun q hq hex => ((hwait q).1 hq).resolve_right fun h => h.2 hex
  rw [← heq] at hl hserved
  rcases hserved with ⟨hin, hone⟩ | hgrant
  · left
    rw [State.request, inner_axes hinner, if_neg (by simpa using haxes),
      group_congr (inner_axes hinner e)]
    cases hfind : (((request e n p s).1.group (s.ex e).group).wait.find? (fun r => r.ex == e)) with
    | none => exact absurd (by simp) (List.find?_eq_none.1 hfind _ hin)
    | some q =>
      rw [hone q (List.mem_of_find?_eq_some hfind) (by simpa using List.find?_some hfind)]
  · exact .inr ⟨l, hl, hgrant⟩

/-- What was asked is asked since an earlier state, where nothing was taken from what had been handed. -/
theorem Asked.since {u s t : State} {e n : Nat} {p : Purpose} (h : Asked s t e n p)
    (hhanded : ∃ l, s.handed = u.handed ++ l) : Asked u t e n p := by
  obtain ⟨k, hk⟩ := hhanded
  rcases h with h | ⟨l, hl, hmem⟩
  · exact .inl h
  · exact .inr ⟨k ++ l, by rw [hl, hk, List.append_assoc], List.mem_append_right _ hmem⟩

end

end Sys2Proof.Machine
end

section
/-! PROOFS. Homing asked for, LOCKED OUT entered, and LOCKED OUT left (R25, R26, R30). -/

namespace Sys2Proof.Machine

theorem OtherExhibits.trans {e : Nat} {s t u : State} (h : OtherExhibits e s t) (k : OtherExhibits e t u) :
    OtherExhibits e s u := fun j hj => (k j hj).trans (h j hj)

section
variable (e : Nat) (s : State)

theorem State.modEx_otherExhibits (f : Exhibit → Exhibit) : OtherExhibits e s (s.modEx e f) :=
  fun _ hj => State.modEx_ex_other _ _ _ _ hj

theorem enter_otherExhibits (st : ExState) : OtherExhibits e s (enter e st s) :=
  fun j hj => by simp [enter, State.modEx_ex_other _ _ _ _ hj]

theorem enterHeld_otherExhibits (a : Activity) : OtherExhibits e s (enterHeld e a s) :=
  fun j hj => by simp [enterHeld, State.modEx_ex_other _ _ _ _ hj]

theorem startRest_otherExhibits : OtherExhibits e s (startRest e s) := by
  unfold startRest
  split
  · exact State.modEx_otherExhibits e s _
  · exact fun _ _ => rfl

/-! ### The homing claim -/

/-- The homing claim is the same in states that agree on the exhibit's axes and the channels. -/
theorem homingClaim_congr {s t : State} {e : Nat} (haxes : (t.ex e).axes = (s.ex e).axes)
    (hch : ∀ c, t.ch c = s.ch c) : homingClaim t e = homingClaim s e := by
  simp [homingClaim, State.energised, Exhibit.runUnits, Exhibit.axisSlots, Exhibit.allRunLoads, haxes, hch]

theorem askHoming_eq (hclaim : homingClaim s e ≠ 0) :
    askHoming e s =
      if (request e (homingClaim s e) .homing s).2 then
        homingRefused e (request e (homingClaim s e) .homing s).1
      else (request e (homingClaim s e) .homing s).1 := if_neg hclaim

/-- The entry of HOMING with every axis unset (R30). -/
def homingEntered (e : Nat) (s : State) : State :=
  enter e .homing (s.modEx e (fun x => { x with axesSet := [] }))

theorem homingEntered_ex : (homingEntered e s).ex e =
    { s.ex e with axesSet := [], state := .homing, restTimer := none, target := none, heldAct := none } := by
  rw [homingEntered, enter_ex, State.modEx_ex_same]

theorem homingEntered_keptBut : KeptBut enterFields s (homingEntered e s) :=
  ((State.modEx_keptBut _ _ _).mono (by decide)).trans (enter_keptBut _ _ _)

theorem homingEntered_claim : homingClaim (homingEntered e s) e = homingClaim s e :=
  homingClaim_congr (by rw [homingEntered_ex]) fun c => (homingEntered_keptBut e s).ch (by decide) c

theorem homingEntered_budget :
    ((homingEntered e s).group ((homingEntered e s).ex e).group).budget = (s.group (s.ex e).group).budget := by
  rw [@group_congr (s.ex e) _ (by rw [homingEntered_ex]), (homingEntered_keptBut e s).group (by decide)]

/-- Without hold reasons HOMING is entered and the claim asked for, which waits or is refused (R30). -/
theorem enterHoming_free (hhold : (s.ex e).hold.isEmpty = true) (hclaim : homingClaim s e ≠ 0) :
    enterHoming e s =
      if (request e (homingClaim s e) .homing (homingEntered e s)).2 then
        homingRefused e (request e (homingClaim s e) .homing (homingEntered e s)).1
      else (request e (homingClaim s e) .homing (homingEntered e s)).1 := by
  have hask := askHoming_eq e (homingEntered e s) (by rwa [homingEntered_claim])
  rw [homingEntered_claim] at hask
  rw [← hask]
  exact if_pos hhold

/-- A de-energised exhibit with hold reasons enters HOMING with its claim deferred (R30). -/
theorem enterHoming_deferred (hhold : (s.ex e).hold.isEmpty = false) (hen : s.energised e = false) :
    enterHoming e s = homingEntered e s := by
  unfold enterHoming
  dsimp only
  rw [if_neg (by simp [hhold]), if_neg (by simp [hen])]
  rfl

/-- An energised exhibit with hold reasons is HELD, to home later (R30). -/
theorem enterHoming_held (hhold : (s.ex e).hold.isEmpty = false) (hen : s.energised e = true) :
    enterHoming e s = enterHeld e .homing (s.modEx e (fun x => { x with axesSet := [] })) := by
  unfold enterHoming
  dsimp only
  rw [if_neg (by simp [hhold]), if_pos hen]

/-- The homing claim is asked of the group after HOMING is entered. -/
theorem homingEntered_within (hbudget : WithinBudget s e (homingClaim s e)) :
    homingClaim s e ≤ ((homingEntered e s).group ((homingEntered e s).ex e).group).budget := by
  rw [homingEntered_budget]
  exact hbudget.2

/-- Without hold reasons a homing claim that its group can serve is asked for (R30, R139). -/
theorem enterHoming_within (hhold : (s.ex e).hold = ⟨false, false, false⟩)
    (hbudget : WithinBudget s e (homingClaim s e)) :
    enterHoming e s = (request e (homingClaim s e) .homing (homingEntered e s)).1 := by
  rw [enterHoming_free e s (by rw [hhold]; rfl) (Nat.pos_iff_ne_zero.1 hbudget.1),
    request_within e _ (homingEntered_within e s hbudget)]
  rfl

/-- An exhibit with axes and no hold reason whose homing claim its group can serve enters HOMING and asks for
it (R30, R139). -/
theorem enterHoming_asks (haxes : (s.ex e).axes ≠ []) (hhold : (s.ex e).hold = ⟨false, false, false⟩)
    (hbudget : WithinBudget s e (homingClaim s e)) :
    Asked s (enterHoming e s) e (homingClaim s e) .homing ∧
      ((enterHoming e s).ex e).own = { (s.ex e).own with
        axesSet := [], state := .homing, restTimer := none, target := none, heldAct := none } ∧
      KeptBut [.exhibits, .groups, .handed, .views, .notice] s (enterHoming e s) := by
  rw [enterHoming_within e s hhold hbudget]
  refine ⟨?_, ?_, ?_⟩
  · exact (request_asked e _ (by rwa [homingEntered_ex]) (homingEntered_within e s hbudget)).since
      ⟨[], by simp [homingEntered, enter]⟩
  · rw [inner_own (request_inner ..), homingEntered_ex]
    rfl
  · exact ((homingEntered_keptBut e s).mono (by decide)).trans ((request_keptBut _ _ _ _).mono (by decide))

/-! ### Channels de-energised -/

/-- What a change of every axis makes of the channel of each, where it makes it of any channel. -/
theorem modAxes_ch_reaches (f : AxisRec → Channel → Channel) (P : Channel → Prop) (hP : ∀ a x, P (f a x))
    (a : AxisRec) (ha : a ∈ (s.ex e).axes) : P ((modAxes e f s).ch a.channel) := by
  have hfold : ∀ (l : List AxisRec) (u : State), P (u.ch a.channel) ∨ a ∈ l →
      P ((l.foldl (fun u b => u.modCh b.channel (f b)) u).ch a.channel) := by
    intro l
    induction l with
    | nil => exact fun u hu => hu.resolve_right (by simp)
    | cons b l ih =>
      intro u hu
      refine ih _ ?_
      by_cases hc : a.channel = b.channel
      · exact .inl (by rw [hc, State.modCh_ch_same]; exact hP _ _)
      · rw [State.modCh_ch_other _ _ _ _ hc]
        refine hu.imp_right fun hmem => (List.mem_cons.1 hmem).resolve_left ?_
        rintro rfl
        exact hc rfl
  exact hfold _ s (.inr ha)

theorem deenergiseAxes_ch (a : AxisRec) (ha : a ∈ (s.ex e).axes) :
    ((deenergiseAxes e s).ch a.channel).energised = false :=
  modAxes_ch_reaches e s _ (·.energised = false) (fun _ _ => rfl) a ha

/-! ### LOCKED OUT entered (R25) -/

/-- An exhibit that has entered LOCKED OUT, its LOCK OUT orders as yet waiting. -/
def lockEntered (e : Nat) (s : State) : State :=
  enter e .lockedOut (returnAll e (deenergiseAxes e (s.modEx e (fun x => { x with wakePending := false }))))

theorem lockDown_eq : lockDown e s = endLockOrders e .done (lockEntered e s) := rfl

theorem lockEntered_own : ((lockEntered e s).ex e).own =
    { (s.ex e).own with wakePending := false, state := .lockedOut, restTimer := none, target := none,
                        heldAct := none } := by
  have hown := inner_own
    (returnAll_inner e (deenergiseAxes e (s.modEx e (fun x => { x with wakePending := false })))) e
  rw [deenergiseAxes, modAxes_ex, State.modEx_ex_same] at hown
  rw [lockEntered, enter_ex]
  exact congrArg (fun x : Exhibit => { x with
    state := .lockedOut, restTimer := none, target := none, heldAct := none }) hown

theorem lockDown_own : ((lockDown e s).ex e).own =
    { (s.ex e).own with wakePending := false, state := .lockedOut, restTimer := none, target := none,
                        heldAct := none, lockOrders := [] } := by
  rw [lockDown_eq, standing_own (endLockOrders_standing ..), lockEntered_own]

theorem lockDown_ch (a : AxisRec) (ha : a ∈ (s.ex e).axes) :
    ((lockDown e s).ch a.channel).energised = false := by
  rw [lockDown_eq, standing_ch (endLockOrders_standing ..), lockEntered, enter_ch,
    inner_ch (returnAll_inner ..)]
  exact deenergiseAxes_ch e _ a (by simpa using ha)

end

end Sys2Proof.Machine
end

section
/-! PROOFS. Lockout reasons added and removed: LOCK OUT and RETURN TO SERVICE (R24, R26, R44). -/

namespace Sys2Proof.Machine

/-! ### Reason sets -/

theorem LockReasons.put_of_has {x : LockReasons} {r : LockReason} (h : x.has r = true) : x.put r true = x := by
  obtain ⟨key, order⟩ := x
  cases r <;> simp_all [LockReasons.has, LockReasons.put]

theorem LockReasons.put_of_not_has {x : LockReasons} {r : LockReason} (h : x.has r = false) :
    x.put r false = x := by
  obtain ⟨key, order⟩ := x
  cases r <;> simp_all [LockReasons.has, LockReasons.put]

/-- A reason is absent, or leaves another behind, unless it is the only one. -/
theorem LockReasons.left_of_ne {x : LockReasons} {r : LockReason}
    (h : x ≠ (⟨false, false⟩ : LockReasons).put r true) : x.has r = false ∨ (x.put r false).isEmpty = false := by
  obtain ⟨key, order⟩ := x
  cases r <;> cases key <;> cases order <;> simp_all [LockReasons.has, LockReasons.put, LockReasons.isEmpty]

theorem LockReasons.put_true_isEmpty (x : LockReasons) (r : LockReason) : (x.put r true).isEmpty = false := by
  cases r <;> simp [LockReasons.put, LockReasons.isEmpty]

section
variable (e : Nat) (r : LockReason) (s : State)

/-! ### Adding a lockout reason (R24) -/

/-- An exhibit with a lockout reason added, everything under way ended and its request withdrawn (R24), its axes
as yet moving or not. -/
def lockPrepared (e : Nat) (r : LockReason) (s : State) : State :=
  (withdraw e (endStopOrders e .stopped (dropQueued e .stopped (endHomingOrder e .stopped (endRun e .stopped
    (s.modEx e (fun x => { x with lock := x.lock.put r true }))))))).modEx e
    (fun x => { x with wakePending := false })

/-- What R24 makes of the exhibit's own fields. -/
def Exhibit.lockedBy (r : LockReason) (x : Exhibit) : Exhibit :=
  { x with lock := x.lock.put r true, run := none, homingOrder := none, queued := none, stopOrders := [],
           wakePending := false }

theorem lockPrepared_standing :
    (lockPrepared e r s).standing = s.standing.change e (Exhibit.lockedBy r) := by
  unfold lockPrepared
  rw [State.modEx_standing _ e (fun x => { x with wakePending := false }) rfl,
    standing_of_inner (withdraw_inner ..), endStopOrders_standing, dropQueued_standing,
    endHomingOrder_standing, endRun_standing,
    State.modEx_standing _ e (fun x => { x with lock := x.lock.put r true }) rfl]
  simp only [Standing.change_change]
  rfl

theorem lockPrepared_own : ((lockPrepared e r s).ex e).own = (s.ex e).own.lockedBy r :=
  standing_own (lockPrepared_standing e r s)

theorem lockPrepared_axes : ((lockPrepared e r s).ex e).axes = (s.ex e).axes := by
  simpa [Exhibit.lockedBy] using congrArg Exhibit.axes (lockPrepared_own e r s)

theorem lockPrepared_lock : ((lockPrepared e r s).ex e).lock = (s.ex e).lock.put r true := by
  simpa [Exhibit.lockedBy] using congrArg Exhibit.lock (lockPrepared_own e r s)

theorem lockPrepared_ch (c : Nat) : (lockPrepared e r s).ch c = s.ch c :=
  standing_ch (lockPrepared_standing e r s) c

theorem lockPrepared_anyMoving : (lockPrepared e r s).anyMoving e = s.anyMoving e :=
  anyMoving_congr (lockPrepared_axes e r s) (lockPrepared_ch e r s)

/-- The exhibit has no request left in its group's wait list. -/
theorem lockPrepared_request : (lockPrepared e r s).request e = none := by
  unfold lockPrepared
  generalize endStopOrders e .stopped _ = w
  have hreq := withdraw_request e w
  unfold State.request at hreq ⊢
  simpa [Exhibit.group] using hreq

@[simp] theorem lockPrepared_outer : (lockPrepared e r s).outer = s.outer := by simp [lockPrepared]

theorem addLock_of_has (h : (s.ex e).lock.has r = true) : addLock e r s = s := if_pos (by simp [h])

section
variable (hinst : (s.ex e).installed = true) (hretire : (s.ex e).retire = none)
include hinst hretire

/-- A lockout reason is only recorded in LOCKED OUT and toward it. -/
theorem addLock_recorded (hnot : (s.ex e).lock.has r = false)
    (hlocked : (s.ex e).state = .lockedOut ∨ (s.ex e).brakingToLock = true) :
    addLock e r s = s.modEx e (fun x => { x with lock := x.lock.put r true }) := by
  unfold addLock
  dsimp only
  rw [if_neg (by simp [hinst, hretire, hnot]), if_pos hlocked]

/-- A first lockout reason brakes an exhibit with an axis moving, and locks out any other. -/
theorem addLock_acts (hnot : (s.ex e).lock.has r = false) (hstate : (s.ex e).state ≠ .lockedOut)
    (hbraking : (s.ex e).brakingToLock = false) :
    addLock e r s =
      if s.anyMoving e then enterBraking e .lockedOut none (brakeAxes e (lockPrepared e r s))
      else lockDown e (lockPrepared e r s) := by
  have hstays : enterLockedOut e (lockPrepared e r s) = lockDown e (lockPrepared e r s) := by
    have hlock : ((lockDown e (lockPrepared e r s)).ex e).lock = (s.ex e).lock.put r true := by
      rw [← lockPrepared_lock]
      simpa using congrArg Exhibit.lock (lockDown_own e (lockPrepared e r s))
    unfold enterLockedOut
    dsimp only
    rw [hlock, LockReasons.put_true_isEmpty]
    rfl
  rw [← hstays, ← lockPrepared_anyMoving e r s]
  unfold addLock
  dsimp only
  rw [if_neg (by simp [hinst, hretire, hnot]), if_neg (by simp [hstate, hbraking])]
  rfl

/-- Whatever else it does, a lockout reason added is among the reasons. -/
theorem addLock_lock : ((addLock e r s).ex e).lock = (s.ex e).lock.put r true := by
  cases hhas : (s.ex e).lock.has r with
  | true => rw [addLock_of_has e r s hhas, LockReasons.put_of_has hhas]
  | false =>
    by_cases hlocked : (s.ex e).state = .lockedOut ∨ (s.ex e).brakingToLock = true
    · rw [addLock_recorded e r s hinst hretire hhas hlocked, State.modEx_ex_same]
    · rw [not_or, Bool.not_eq_true] at hlocked
      rw [addLock_acts e r s hinst hretire hhas hlocked.1 hlocked.2]
      split
      · rw [enterBraking_brakeAxes_ex, ← lockPrepared_lock]
      · rw [← lockPrepared_lock]
        simpa using congrArg Exhibit.lock (lockDown_own e (lockPrepared e r s))

/-- A recorded or repeated lockout reason changes the exhibit's entry alone. -/
theorem addLock_keptBut_of_recorded
    (h : (s.ex e).lock.has r = true ∨ (s.ex e).state = .lockedOut ∨ (s.ex e).brakingToLock = true) :
    KeptBut [.exhibits] s (addLock e r s) := by
  cases hhas : (s.ex e).lock.has r with
  | true => rw [addLock_of_has e r s hhas]; exact .refl _ _
  | false =>
    rw [addLock_recorded e r s hinst hretire hhas (h.resolve_left (by simp [hhas]))]
    exact State.modEx_keptBut _ _ _

/-- With no axis moving a first lockout reason locks the exhibit out at once, de-energised (R24, R25). -/
theorem addLock_still (hempty : (s.ex e).lock = ⟨false, false⟩) (hstate : (s.ex e).state ≠ .lockedOut)
    (hbraking : (s.ex e).brakingToLock = false) (hstill : s.anyMoving e = false) :
    addLock e r s = lockDown e (lockPrepared e r s) := by
  rw [addLock_acts e r s hinst hretire (by rw [hempty]; cases r <;> rfl) hstate hbraking]
  exact if_neg (by simp [hstill])

/-- With an axis moving a first lockout reason brakes the exhibit toward LOCKED OUT (R24). -/
theorem addLock_moving (hempty : (s.ex e).lock = ⟨false, false⟩) (hstate : (s.ex e).state ≠ .lockedOut)
    (hbraking : (s.ex e).brakingToLock = false) (hmove : s.anyMoving e = true) :
    addLock e r s = enterBraking e .lockedOut none (brakeAxes e (lockPrepared e r s)) := by
  rw [addLock_acts e r s hinst hretire (by rw [hempty]; cases r <;> rfl) hstate hbraking]
  exact if_pos hmove

end

theorem lockPrepared_locked_own :
    ((lockDown e (lockPrepared e r s)).ex e).own =
      { (s.ex e).own.lockedBy r with state := .lockedOut, restTimer := none, target := none, heldAct := none,
                                     lockOrders := [] } := by
  rw [lockDown_own, lockPrepared_own]
  rfl

theorem lockPrepared_locked_ch (a : AxisRec) (ha : a ∈ (s.ex e).axes) :
    ((lockDown e (lockPrepared e r s)).ch a.channel).energised = false :=
  lockDown_ch e _ a (by rwa [lockPrepared_axes])

/-! ### Removing a lockout reason (R26) -/

theorem removeLock_of_not_has (h : (s.ex e).lock.has r = false) : removeLock e r s = s :=
  if_pos (by simp [h])

/-- A lockout reason removed from an exhibit that does not leave LOCKED OUT is gone from its set, and nothing
else is changed. -/
theorem removeLock_stays (hstay : (s.ex e).state ≠ .lockedOut ∨ (s.ex e).lock.has r = false ∨
      ((s.ex e).lock.put r false).isEmpty = false) :
    (removeLock e r s).ex e = { s.ex e with lock := (s.ex e).lock.put r false } ∧
      OtherExhibits e s (removeLock e r s) ∧ KeptBut [.exhibits] s (removeLock e r s) := by
  cases hhas : (s.ex e).lock.has r with
  | false =>
    rw [removeLock_of_not_has e r s hhas, LockReasons.put_of_not_has hhas]
    exact ⟨rfl, fun _ _ => rfl, .refl _ _⟩
  | true =>
    have hstays : ¬ ((s.ex e).state = .lockedOut ∧ ((s.ex e).lock.put r false).isEmpty = true) := by
      rintro ⟨hlocked, hempty⟩
      rcases hstay with h | h | h
      · exact h hlocked
      · rw [hhas] at h; exact absurd h (by decide)
      · rw [hempty] at h; exact absurd h (by decide)
    have heq : removeLock e r s = s.modEx e (fun x => { x with lock := x.lock.put r false }) := by
      unfold removeLock
      dsimp only
      rw [if_neg (by simp [hhas]), if_neg hstays]
    rw [heq]
    exact ⟨by simp, State.modEx_otherExhibits e s _, State.modEx_keptBut _ _ _⟩

/-- The last lockout reason removed from a LOCKED OUT exhibit lets it leave (R26). -/
theorem removeLock_leaves (hhas : (s.ex e).lock.has r = true)
    (hempty : ((s.ex e).lock.put r false).isEmpty = true) (hlocked : (s.ex e).state = .lockedOut) :
    removeLock e r s = leaveLockedOut e (s.modEx e (fun x => { x with lock := x.lock.put r false })) := by
  unfold removeLock
  dsimp only
  rw [if_neg (by simp [hhas]), if_pos ⟨hlocked, hempty⟩]

/-- An exhibit without axes and without a queued start leaves LOCKED OUT to READY. -/
theorem leaveLockedOut_ready (haxes : (s.ex e).axes = []) (hqueued : (s.ex e).queued = none) :
    leaveLockedOut e s = startRest e (enter e .ready s) := by
  have hready : readyContinue e (enter e .ready s) = (startRest e (enter e .ready s), false) := by
    simp [readyContinue, enter_ex, hqueued]
  simp [leaveLockedOut, haxes, toReady, readyNow, hready]

theorem leaveLockedOut_homing (haxes : (s.ex e).axes ≠ []) : leaveLockedOut e s = enterHoming e s :=
  if_neg (by simpa using haxes)

theorem startRest_keptBut : KeptBut [.exhibits] s (startRest e s) := by
  unfold startRest
  split
  · exact State.modEx_keptBut _ _ _
  · exact .refl _ _

/-- What starting the rest timer leaves of the exhibit's entry: all but the timer. -/
theorem startRest_ex : ∃ t, (startRest e s).ex e = { s.ex e with restTimer := t } := by
  unfold startRest
  split
  · exact ⟨_, State.modEx_ex_same ..⟩
  · exact ⟨_, rfl⟩

end

/-! ### LOCK OUT -/

/-- Completing a list of orders completes its last one last. -/
theorem completeAll_concat (l : List Nat) (k : Nat) (o : OrderOutcome) (s : State) :
    completeAll (l ++ [k]) o s = complete k o 0 (completeAll l o s) := by
  simp [completeAll]

theorem Lasts.after_completeAll {u s : State} (h : Lasts u s) (l : List Nat) (o : OrderOutcome) :
    Lasts u (completeAll l o s) :=
  h.after_foldl _ (fun s k => (Lasts.refl s).after_complete k o 0) l

theorem Lasts.after_lockPrepared {u s : State} (h : Lasts u s) (e : Nat) (r : LockReason) :
    Lasts u (lockPrepared e r s) :=
  ((((((h.after_modEx e _ ⟨rfl, rfl, id⟩).after_endRun e .stopped).after_endHomingOrder e
    .stopped).after_dropQueued e .stopped).after_endStopOrders e .stopped).after_withdraw e).after_modEx e _
    ⟨rfl, rfl, id⟩

theorem Lasts.after_lockEntered {u s : State} (h : Lasts u s) (e : Nat) : Lasts u (lockEntered e s) :=
  (((h.after_modEx e _ ⟨rfl, rfl, id⟩).after_deenergiseAxes e).after_returnAll e).after_enter e .lockedOut
    (by decide)

theorem lockEntered_outer (e : Nat) (s : State) : (lockEntered e s).outer = s.outer := by simp [lockEntered]

section
variable {h : OrderHead} {u : State}

/-- The state in which an accepted LOCK OUT of an exhibit that is not LOCKED OUT adds its reason. -/
def lockWaiting (h : OrderHead) (u : State) : State :=
  (accepted h .lockOut u).modEx (OrderHead.ex h) (fun x => { x with lockOrders := x.lockOrders ++ [h.slot.val] })

theorem lockWaiting_ex : (lockWaiting h u).ex (OrderHead.ex h) =
    { u.ex (OrderHead.ex h) with lockOrders := (u.ex (OrderHead.ex h)).lockOrders ++ [h.slot.val] } := by
  simp [lockWaiting]

theorem lockWaiting_anyMoving : (lockWaiting h u).anyMoving (OrderHead.ex h) = u.anyMoving (OrderHead.ex h) := by
  refine anyMoving_congr (s := u) ?_ ?_
  · rw [lockWaiting_ex]
  · exact fun _ => rfl

/-- What an accepted LOCK OUT of a LOCKED OUT exhibit comes to. -/
theorem postAndTake_lockOut_locked (hmay : MayOrderExhibit u h) (huntimed : Untimed h)
    (hlocked : (u.ex (OrderHead.ex h)).state = .lockedOut) :
    postAndTake h .lockOut u =
      complete h.slot.val .done 0 (addLock (OrderHead.ex h) .order (accepted h .lockOut u)) :=
  postAndTake_of_go hmay.1 rfl (takeRefusal_of_mayOrder hmay huntimed rfl rfl rfl) huntimed (by decide)
    (if_pos hlocked)

/-- What an accepted LOCK OUT of any other exhibit comes to. -/
theorem postAndTake_lockOut (hmay : MayOrderExhibit u h) (huntimed : Untimed h)
    (hnot : (u.ex (OrderHead.ex h)).state ≠ .lockedOut) :
    postAndTake h .lockOut u = addLock (OrderHead.ex h) .order (lockWaiting h u) :=
  postAndTake_of_go hmay.1 rfl (takeRefusal_of_mayOrder hmay huntimed rfl rfl rfl) huntimed (by decide)
    (if_neg hnot)

/-- A LOCK OUT that locks its exhibit out at once is DONE (R25, R44). -/
theorem lockOut_slotDone :
    SlotDone u (publish (lockDown (OrderHead.ex h) (lockPrepared (OrderHead.ex h) .order (lockWaiting h u))))
      h .lockOut 0 := by
  generalize hw : lockEntered (OrderHead.ex h) (lockPrepared (OrderHead.ex h) .order (lockWaiting h u)) = w
  have horders : (w.ex (OrderHead.ex h)).lockOrders =
      (u.ex (OrderHead.ex h)).lockOrders ++ [h.slot.val] := by
    have hown := lockEntered_own (OrderHead.ex h) (lockPrepared (OrderHead.ex h) .order (lockWaiting h u))
    rw [lockPrepared_own, hw] at hown
    simpa [Exhibit.lockedBy, lockWaiting_ex] using congrArg Exhibit.lockOrders hown
  have hlasts : Lasts (accepted h .lockOut u) w := by
    rw [← hw]
    exact (((Lasts.refl _).after_modEx _ _ ⟨rfl, rfl, id⟩).after_lockPrepared _ _).after_lockEntered _
  have houter : w.outer = (accepted h .lockOut u).outer := by
    rw [← hw, lockEntered_outer, lockPrepared_outer, lockWaiting, State.modEx_outer]
  rw [lockDown_eq, hw, endLockOrders, horders, completeAll_concat]
  refine slotDone_of_complete ?_ ?_
  · exact (((hlasts.after_modEx _ _ ⟨rfl, rfl, id⟩).after_completeAll _ _).take _).trans (accepted_take h _ u)
  · rw [outer_lastTaken (completeAll_outer ..)]
    exact outer_lastTaken houter

end

end Sys2Proof.Machine
end

section
/-! PROOFS. Causes acknowledged and cleared (R162, R163), and what leaves the cause sets and the calls alone. -/

namespace Sys2Proof.Machine

/-! ### The record of a cause -/

theorem causeRec_putCause (x : Exhibit) (r : CauseRec) (c : Cause) :
    (putCause r x).causeRec c = if c = r.cause then some r else x.causeRec c := by
  unfold Exhibit.causeRec putCause
  dsimp only
  rw [List.find?_append]
  by_cases hc : c = r.cause
  · have hnone : (x.causes.filter (fun q => q.cause != r.cause)).find? (fun q => q.cause == c) = none :=
      List.find?_eq_none.2 fun q hq => by
        have hne : q.cause ≠ r.cause := by simpa using (List.mem_filter.1 hq).2
        simpa [hc] using hne
    rw [hnone, if_pos hc]
    simp [hc]
  · have hsame : (x.causes.filter (fun q => q.cause != r.cause)).find? (fun q => q.cause == c) =
        x.causes.find? (fun q => q.cause == c) := by
      rw [List.find?_filter]
      congr 1
      funext q
      by_cases hq : q.cause = c
      · simp [hq, hc]
      · simp [hq]
    rw [hsame, if_neg hc]
    simp [Ne.symm hc]

theorem causeRec_dropCause (x : Exhibit) (d c : Cause) :
    (dropCause d x).causeRec c = if c = d then none else x.causeRec c := by
  unfold Exhibit.causeRec dropCause
  dsimp only
  rw [List.find?_filter]
  by_cases hc : c = d
  · subst hc
    simp
  · rw [if_neg hc]
    congr 1
    funext q
    by_cases hq : q.cause = c
    · simp [hq, hc]
    · simp [hq]

/-! ### Frames of the call unit -/

/-- The fields that the causes of calls change. -/
def callFields : List Field := [.exhibits, .calls, .beacons]

section
variable (s : State)

theorem State.modBeacon_keptBut (b : Nat) (f : Beacon → Beacon) : KeptBut [.beacons] s (s.modBeacon b f) := by
  intro g hg
  cases g <;> first | rfl | exact absurd List.mem_cons_self hg

theorem State.modCall_keptBut (n : Nat) (f : CallEntry → CallEntry) : KeptBut [.calls] s (s.modCall n f) := by
  intro g hg
  cases g <;> first | rfl | exact absurd List.mem_cons_self hg

theorem rechooseFor_keptBut (l : List Nat) : KeptBut [.beacons] s (rechooseFor l s) :=
  .foldl _ (fun u b => by
    split
    · exact State.modBeacon_keptBut u _ _
    · exact .refl _ _) _ _

theorem freeEntry_keptBut (n : Nat) : KeptBut [.calls, .beacons] s (freeEntry n s) := by
  unfold freeEntry
  split
  · exact .refl _ _
  · exact ((State.modCall_keptBut _ _ _).mono (by decide)).trans
      ((rechooseFor_keptBut _ _).mono (by decide))

theorem removeCause_keptBut (e : Nat) (c : Cause) : KeptBut callFields s (removeCause e c s) := by
  unfold removeCause
  split
  · exact .refl _ _
  · exact (State.modEx_keptBut _ _ _).mono (by decide)
  · exact ((State.modEx_keptBut _ _ _).mono (by decide)).trans ((freeEntry_keptBut _ _).mono (by decide))

theorem enterCall_keptBut (n e : Nat) (c : Cause) (p : Pending) : KeptBut callFields s (enterCall n e c p s) :=
  ((State.modCall_keptBut _ _ _).mono (by decide)).trans <|
    ((State.modEx_keptBut _ _ _).mono (by decide)).trans ((rechooseFor_keptBut _ _).mono (by decide))

theorem fillEntries_keptBut (k : Nat) : KeptBut callFields s (fillEntries k s) := by
  induction k generalizing s with
  | zero => exact .refl _ _
  | succ k ih =>
    unfold fillEntries
    split
    · dsimp only
      refine KeptBut.trans ?_ (ih _)
      split
      · exact (enterCall_keptBut _ _ _ _ _).trans (removeCause_keptBut _ _ _)
      · exact enterCall_keptBut _ _ _ _ _
    · exact .refl _ _

theorem clearCauses_keptBut (e : Nat) (cs : List Cause) : KeptBut callFields s (clearCauses e cs s) :=
  (KeptBut.foldl _ (fun u _ => KeptBut.foldl _ (fun v _ => removeCause_keptBut v _ _) cs u) [e] s).trans
    (fillEntries_keptBut _ _)

theorem ackEntry_keptBut (n : Nat) (src : AckSource) (tag : Byte) :
    KeptBut [.calls, .beacons] s (ackEntry n src tag s) := by
  unfold ackEntry
  split
  · exact .refl _ _
  · split
    · exact .refl _ _
    · refine (((State.modCall_keptBut s _ _).mono (by decide)).trans
        ((rechooseFor_keptBut _ _).mono (by decide))).trans (.foldl _ (fun u b => ?_) _ _)
      split
      · exact (State.modBeacon_keptBut u _ _).mono (by decide)
      · exact .refl _ _

theorem ackCause_keptBut (e : Nat) (src : AckSource) (c : Cause) : KeptBut callFields s (ackCause e src c s) := by
  unfold ackCause
  split
  · exact .refl _ _
  · exact (ackEntry_keptBut _ _ _ _).mono (by decide)
  · split
    · exact .refl _ _
    · exact (State.modEx_keptBut _ _ _).mono (by decide)

theorem ackCauses_keptBut (e : Nat) (src : AckSource) (cs : List Cause) :
    KeptBut callFields s (ackCauses e src cs s) :=
  .foldl _ (fun u c => ackCause_keptBut u e src c) cs s

theorem ackEntry_inner (n : Nat) (src : AckSource) (tag : Byte) : (ackEntry n src tag s).inner = s.inner := by
  unfold ackEntry
  split
  · rfl
  · split
    · rfl
    · exact (inner_foldl _ (fun u b => by split <;> simp) _ _).trans (by simp)

theorem ackCause_inner (e : Nat) (src : AckSource) (c : Cause) : (ackCause e src c s).inner = s.inner := by
  unfold ackCause
  split
  · rfl
  · exact ackEntry_inner ..
  · split
    · rfl
    · exact State.modEx_inner s e _ rfl

theorem ackCauses_inner (e : Nat) (src : AckSource) (cs : List Cause) :
    (ackCauses e src cs s).inner = s.inner :=
  inner_foldl _ (fun u c => ackCause_inner u e src c) cs s

end

/-! ### Causes cleared (R163) -/

section
variable (s : State)

/-- A cause taken out has no record, and every other cause keeps its own. -/
theorem removeCause_causeRec (e : Nat) (d : Cause) (j : Nat) (c : Cause) :
    ((removeCause e d s).ex j).causeRec c = if j = e ∧ c = d then none else (s.ex j).causeRec c := by
  have hdrop : ((s.modEx e (dropCause d)).ex j).causeRec c =
      if j = e ∧ c = d then none else (s.ex j).causeRec c := by
    by_cases hj : j = e
    · subst hj; simp [causeRec_dropCause]
    · simp [State.modEx_ex_other, hj]
  unfold removeCause
  split
  · next hnone =>
    split
    · next h => rw [h.1, h.2, hnone]
    · rfl
  · exact hdrop
  · rw [(freeEntry_keptBut _ _).ex (by decide), hdrop]

theorem foldl_removeCause_causeRec (e : Nat) (cs : List Cause) (c : Cause)
    (h : c ∈ cs ∨ (s.ex e).causeRec c = none) :
    ((cs.foldl (fun v d => removeCause e d v) s).ex e).causeRec c = none := by
  induction cs generalizing s with
  | nil => exact h.resolve_left (by simp)
  | cons d cs ih =>
    refine ih _ ?_
    rw [removeCause_causeRec]
    by_cases hc : c = d
    · simp [hc]
    · refine h.imp (fun hmem => (List.mem_cons.1 hmem).resolve_left hc) fun hnone => ?_
      simp [hnone]

/-- The first pending cause has a record. -/
theorem firstPending_causeRec {e : Nat} {c : Cause} {p : Pending} (h : firstPending s = some (e, c, p)) :
    (s.ex e).causeRec c ≠ none := by
  obtain ⟨j, -, hj⟩ := List.exists_of_findSome?_eq_some h
  obtain ⟨d, -, hd⟩ := List.exists_of_findSome?_eq_some hj
  split at hd
  · next q hrec =>
    simp only [Option.some.injEq, Prod.mk.injEq] at hd
    obtain ⟨rfl, rfl, -⟩ := hd
    simp [hrec]
  · exact absurd hd (by simp)

/-- Filling freed entries enters no cause that has no record. -/
theorem fillEntries_causeRec (k e : Nat) (c : Cause) (h : (s.ex e).causeRec c = none) :
    ((fillEntries k s).ex e).causeRec c = none := by
  induction k generalizing s with
  | zero => exact h
  | succ k ih =>
    unfold fillEntries
    split
    · next n j d p _ hfirst =>
      have hother : ¬ (e = j ∧ c = d) := by
        rintro ⟨rfl, rfl⟩
        exact firstPending_causeRec s hfirst h
      have hentered : ((enterCall n j d p s).ex e).causeRec c = none := by
        unfold enterCall
        dsimp only
        rw [(rechooseFor_keptBut _ _).ex (by decide)]
        by_cases hj : e = j
        · subst hj
          rw [State.modEx_ex_same, causeRec_putCause, if_neg (by simpa using hother)]
          exact h
        · rw [State.modEx_ex_other _ _ _ _ hj]
          exact h
      dsimp only
      refine ih _ ?_
      split
      · rw [removeCause_causeRec, if_neg hother, hentered]
      · exact hentered
    · exact h

/-- A cleared cause has no record (R163). -/
theorem clearCauses_causeRec (e : Nat) (cs : List Cause) (c : Cause) (hc : c ∈ cs) :
    ((clearCauses e cs s).ex e).causeRec c = none :=
  fillEntries_causeRec _ _ e c (foldl_removeCause_causeRec s e cs c (.inl hc))

end

/-! ### Calls and causes acknowledged (R162) -/

/-- A call table entry holds no call, or an acknowledged one. -/
def Answered (s : State) (n : Nat) : Prop := ∀ k, (s.callEntry n).call = some k → k.ack.isSome = true

section
variable (s : State)

/-- A call with an acknowledgement mark, which stops its climb (R162). -/
def Call.answered (c : Call) (m : AckMark) : Call := { c with ack := some m, escalation := none }

/-- What acknowledging a ringing call writes in the call table (R162). -/
theorem ackEntry_calls (n : Nat) (src : AckSource) (tag : Byte) {c : Call}
    (hcall : (s.callEntry n).call = some c) (hack : c.ack = none) :
    (ackEntry n src tag s).calls = (s.modCall n (fun x => { x with
      call := some (Call.answered c (ackMark s c.ex c.cause src tag)) })).calls := by
  simp only [ackEntry, hcall, hack]
  refine (KeptBut.trans (rechooseFor_keptBut _ _) (.foldl _ (fun u b => ?_) _ _)) .calls (by decide)
  split
  · exact State.modBeacon_keptBut u _ _
  · exact .refl _ _

/-- A call that does not ring is not acknowledged again. -/
theorem ackEntry_of_answered {n : Nat} (src : AckSource) (tag : Byte) (h : Answered s n) :
    ackEntry n src tag s = s := by
  unfold ackEntry
  split
  · rfl
  · next c hcall =>
    have hack := h c hcall
    split
    · rfl
    · next hnone => rw [hnone] at hack; exact absurd hack (by decide)

/-- The call of an entry once acknowledged does not ring, and no other call starts to. -/
theorem ackEntry_answered (n : Nat) (src : AckSource) (tag : Byte) (j : Nat) (h : j = n ∨ Answered s j) :
    Answered (ackEntry n src tag s) j := by
  by_cases hn : Answered s n
  · rw [ackEntry_of_answered s src tag hn]
    rcases h with rfl | h
    · exact hn
    · exact h
  · obtain ⟨c, hcall, hring⟩ : ∃ c, (s.callEntry n).call = some c ∧ c.ack = none := by
      simpa [Answered] using hn
    have hentry : (ackEntry n src tag s).callEntry j = (s.modCall n (fun x => { x with
        call := some (Call.answered c (ackMark s c.ex c.cause src tag)) })).callEntry j :=
      congrArg (lookup CallEntry.fresh · j) (ackEntry_calls s n src tag hcall hring)
    intro k hk
    rw [hentry] at hk
    by_cases hj : j = n
    · subst hj
      rw [State.modCall_callEntry_same] at hk
      rw [← Option.some.inj hk]
      rfl
    · rw [State.modCall_callEntry_other _ _ _ _ hj] at hk
      exact h.resolve_left hj k hk

/-- A cause is acknowledged, or not in the set, when its record is an answered call or an acknowledged pending
cause. -/
theorem unacknowledged_eq_false_iff (e : Nat) (c : Cause) :
    unacknowledged s e c = false ↔
      (∀ d p, (s.ex e).causeRec c = some ⟨d, .pending p⟩ → p.ack.isSome = true) ∧
      (∀ d n, (s.ex e).causeRec c = some ⟨d, .entered n⟩ → Answered s n) := by
  unfold unacknowledged Answered
  split
  · next h => simp [h]
  · next p h => simp [h]
  · next n h =>
    split
    · next hcall => simp [h, hcall]
    · next k hcall => simp [h, hcall]

/-- An acknowledged cause stands acknowledged, and no other cause loses its acknowledgement. -/
theorem ackCause_acknowledges (e : Nat) (src : AckSource) (d c : Cause)
    (h : c = d ∨ unacknowledged s e c = false) : unacknowledged (ackCause e src d s) e c = false := by
  have hentered (n : Nat) (hrec : ∃ q, (s.ex e).causeRec d = some ⟨q, .entered n⟩) :
      unacknowledged (ackEntry n src 0 s) e c = false := by
    obtain ⟨q, hrec⟩ := hrec
    rw [unacknowledged_eq_false_iff] at h ⊢
    rw [(ackEntry_keptBut s n src 0).ex (by decide)]
    refine ⟨fun q' p hp => ?_, fun q' m hm => ?_⟩
    · rcases h with rfl | h
      · rw [hrec] at hp; exact absurd hp (by simp)
      · exact h.1 q' p hp
    · refine ackEntry_answered s n src 0 m ?_
      rcases h with rfl | h
      · rw [hrec] at hm
        simp only [Option.some.injEq, CauseRec.mk.injEq, CauseState.entered.injEq] at hm
        exact .inl hm.2.symm
      · exact .inr (h.2 q' m hm)
  unfold ackCause
  split
  · next hnone =>
    rcases h with rfl | h
    · simp [unacknowledged, hnone]
    · exact h
  · next q n hrec => exact hentered n ⟨q, hrec⟩
  · next q p hrec =>
    split
    · next m hack =>
      rcases h with rfl | h
      · simp [unacknowledged, hrec, hack]
      · exact h
    · rw [unacknowledged_eq_false_iff, State.modEx_ex_same, causeRec_putCause]
      split
      · refine ⟨fun q' p' hp => ?_, fun q' n hn => ?_⟩
        · simp only [Option.some.injEq, CauseRec.mk.injEq, CauseState.pending.injEq] at hp
          rw [← hp.2]
          rfl
        · simp at hn
      · next hc => exact (unacknowledged_eq_false_iff s e c).1 (h.resolve_left hc)

/-- Every cause of a list stands acknowledged once the list has been (R162). -/
theorem ackCauses_acknowledges (e : Nat) (src : AckSource) (cs : List Cause) (c : Cause)
    (h : c ∈ cs ∨ unacknowledged s e c = false) : unacknowledged (ackCauses e src cs s) e c = false := by
  unfold ackCauses
  induction cs generalizing s with
  | nil => exact h.resolve_left (by simp)
  | cons d cs ih =>
    refine ih _ ?_
    by_cases hc : c = d
    · exact .inr (ackCause_acknowledges s e src d c (.inl hc))
    · exact h.imp (fun hmem => (List.mem_cons.1 hmem).resolve_left hc)
        fun hack => ackCause_acknowledges s e src d c (.inr hack)

end

/-! ### What leaves the causes and the calls alone -/

/-- The call table and every exhibit's cause set. -/
structure CauseSets where
  calls : Tab CallEntry
  causes : Nat → List CauseRec

/-- The call table and the cause sets of a state. -/
def State.causeSets (s : State) : CauseSets := ⟨s.calls, fun e => (s.ex e).causes⟩

/-- Whether a cause is acknowledged is read from the cause sets and the call table. -/
theorem unacknowledged_congr {s t : State} (h : t.causeSets = s.causeSets) (e : Nat) (c : Cause) :
    unacknowledged t e c = unacknowledged s e c := by
  have hcauses : (t.ex e).causes = (s.ex e).causes := congrFun (congrArg CauseSets.causes h) e
  have hcalls : ∀ n, t.callEntry n = s.callEntry n := fun n =>
    congrArg (lookup CallEntry.fresh · n) (congrArg CauseSets.calls h)
  simp [unacknowledged, Exhibit.causeRec, hcauses, hcalls]

/-- An exhibit's record of a cause is read from its cause set. -/
theorem causeRec_congr {s t : State} (h : t.causeSets = s.causeSets) {e : Nat} {c : Cause} :
    (t.ex e).causeRec c = (s.ex e).causeRec c := by
  have hcauses : (t.ex e).causes = (s.ex e).causes := congrFun (congrArg CauseSets.causes h) e
  rw [Exhibit.causeRec, hcauses, Exhibit.causeRec]

theorem causeSets_foldl {α : Type} (f : State → α → State) (h : ∀ s a, (f s a).causeSets = s.causeSets)
    (l : List α) (s : State) : (l.foldl f s).causeSets = s.causeSets := by
  induction l generalizing s with
  | nil => rfl
  | cons a l ih => rw [List.foldl_cons, ih, h]

section
variable (e : Nat) (o : OrderOutcome) (s : State)

theorem State.modEx_causeSets (f : Exhibit → Exhibit) (hf : (f (s.ex e)).causes = (s.ex e).causes) :
    (s.modEx e f).causeSets = s.causeSets := by
  have hcauses : (fun j => ((s.modEx e f).ex j).causes) = fun j => (s.ex j).causes := by
    funext j
    by_cases hj : j = e
    · subst hj; simpa using hf
    · rw [State.modEx_ex_other _ _ _ _ hj]
  simp [State.causeSets, hcauses]

theorem modAxes_causeSets (f : AxisRec → Channel → Channel) : (modAxes e f s).causeSets = s.causeSets :=
  causeSets_foldl _ (fun _ _ => by rfl) _ _

theorem complete_causeSets (k : Nat) (r : Word) : (complete k o r s).causeSets = s.causeSets := rfl

theorem completeAll_causeSets (ks : List Nat) : (completeAll ks o s).causeSets = s.causeSets :=
  causeSets_foldl _ (fun _ _ => by rfl) _ _

theorem completeOrigin_causeSets (p : Origin) (r : Word) : (completeOrigin p o r s).causeSets = s.causeSets := by
  cases p <;> rfl

theorem decUse_causeSets (r : Nat) : (decUse r s).causeSets = s.causeSets := by
  unfold decUse
  dsimp only
  split <;> rfl

theorem evaluate_causeSets (g : Nat) : (evaluate g s).causeSets = s.causeSets :=
  evaluate_induct (P := fun u => u.causeSets = s.causeSets) rfl fun _ r _ hu =>
    (State.modEx_causeSets r.ex _ (fun x => { x with units := x.units + r.units }) rfl).trans hu

theorem withdraw_causeSets : (withdraw e s).causeSets = s.causeSets := by
  unfold withdraw
  split
  · rfl
  · exact evaluate_causeSets _ _

theorem request_causeSets (n : Nat) (p : Purpose) : (request e n p s).1.causeSets = s.causeSets := by
  unfold request
  dsimp only
  split
  · exact withdraw_causeSets _ _
  · exact evaluate_causeSets _ _

theorem returnAll_causeSets : (returnAll e s).causeSets = s.causeSets := by
  unfold returnAll returnUnits
  split
  · rfl
  · exact (evaluate_causeSets _ _).trans
      (State.modEx_causeSets e s (fun x => { x with units := x.units - (s.ex e).units }) rfl)

theorem endRun_causeSets : (endRun e o s).causeSets = s.causeSets := by
  have hmod := State.modEx_causeSets e s (fun x => { x with run := none }) rfl
  unfold endRun
  split
  · rfl
  · dsimp only
    split
    · rw [decUse_causeSets, hmod]
    · rw [completeOrigin_causeSets, decUse_causeSets, hmod]

theorem dropQueued_causeSets : (dropQueued e o s).causeSets = s.causeSets := by
  unfold dropQueued
  split
  · rfl
  · rw [completeOrigin_causeSets, decUse_causeSets,
      State.modEx_causeSets e s (fun x => { x with queued := none }) rfl]

theorem endHomingOrder_causeSets : (endHomingOrder e o s).causeSets = s.causeSets := by
  unfold endHomingOrder
  split
  · rfl
  · rw [complete_causeSets, State.modEx_causeSets e s (fun x => { x with homingOrder := none }) rfl]

theorem endStopOrders_causeSets : (endStopOrders e o s).causeSets = s.causeSets := by
  rw [endStopOrders, completeAll_causeSets, State.modEx_causeSets e s (fun x => { x with stopOrders := [] }) rfl]

theorem endLockOrders_causeSets : (endLockOrders e o s).causeSets = s.causeSets := by
  rw [endLockOrders, completeAll_causeSets, State.modEx_causeSets e s (fun x => { x with lockOrders := [] }) rfl]

theorem lockPrepared_causeSets (r : LockReason) : (lockPrepared e r s).causeSets = s.causeSets := by
  rw [lockPrepared, State.modEx_causeSets e _ (fun x => { x with wakePending := false }) rfl,
    withdraw_causeSets, endStopOrders_causeSets, dropQueued_causeSets, endHomingOrder_causeSets,
    endRun_causeSets, State.modEx_causeSets e s (fun x => { x with lock := x.lock.put r true }) rfl]

theorem enter_causeSets (st : ExState) : (enter e st s).causeSets = s.causeSets :=
  State.modEx_causeSets e s (fun x => { x with
    state := st, restTimer := none, target := none, heldAct := none }) rfl

theorem enterBraking_causeSets (t : Target) (a : Option Activity) :
    (enterBraking e t a s).causeSets = s.causeSets :=
  State.modEx_causeSets e s (fun x => { x with
    state := .braking, restTimer := none, target := some t, heldAct := a }) rfl

theorem lockDown_causeSets : (lockDown e s).causeSets = s.causeSets := by
  rw [lockDown_eq, endLockOrders_causeSets, lockEntered, enter_causeSets, returnAll_causeSets, deenergiseAxes,
    modAxes_causeSets, State.modEx_causeSets e s (fun x => { x with wakePending := false }) rfl]

/-- A lockout reason added changes no cause set and no call. -/
theorem addLock_causeSets (r : LockReason) (hinst : (s.ex e).installed = true)
    (hretire : (s.ex e).retire = none) : (addLock e r s).causeSets = s.causeSets := by
  cases hhas : (s.ex e).lock.has r with
  | true => rw [addLock_of_has e r s hhas]
  | false =>
    by_cases hlocked : (s.ex e).state = .lockedOut ∨ (s.ex e).brakingToLock = true
    · rw [addLock_recorded e r s hinst hretire hhas hlocked]
      exact State.modEx_causeSets e s (fun x => { x with lock := x.lock.put r true }) rfl
    · rw [not_or, Bool.not_eq_true] at hlocked
      rw [addLock_acts e r s hinst hretire hhas hlocked.1 hlocked.2]
      split
      · rw [enterBraking_causeSets, brakeAxes, modAxes_causeSets, lockPrepared_causeSets]
      · rw [lockDown_causeSets, lockPrepared_causeSets]

end

end Sys2Proof.Machine
end

section
/-! PROOFS. LOCK OUT, and the keys (R24 to R26, R44, R82, R83). -/

namespace Sys2Proof.Machine

/-! ### Units returned where LOCKED OUT is entered -/

theorem completeAll_units (l : List Nat) (o : OrderOutcome) (s : State) (e : Nat) :
    ((completeAll l o s).ex e).units = (s.ex e).units := by
  unfold completeAll
  induction l generalizing s with
  | nil => rfl
  | cons k l ih => exact (ih _).trans rfl

section
variable (e : Nat) (s : State)

/-- De-energising leaves an exhibit's request as it is. -/
theorem deenergiseAxes_request : (deenergiseAxes e s).request e = s.request e := by
  have hgroup : ∀ g, (deenergiseAxes e s).group g = s.group g :=
    (modAxes_keptBut s e _).group (by decide)
  have hex : (deenergiseAxes e s).ex e = s.ex e := modAxes_ex ..
  simp [State.request, hgroup, hex]

/-- An exhibit with axes and no request holds no units in LOCKED OUT (R25). -/
theorem lockDown_units (haxes : (s.ex e).axes ≠ []) (hreq : s.request e = none) :
    ((lockDown e s).ex e).units = 0 := by
  have hreturned := returnAll_units e (deenergiseAxes e (s.modEx e (fun x => { x with wakePending := false })))
    (by rw [deenergiseAxes, modAxes_ex]; simpa using haxes)
    (by
      rw [deenergiseAxes_request]
      unfold State.request at hreq ⊢
      simpa [Exhibit.group] using hreq)
  rw [lockDown_eq, endLockOrders, completeAll_units, State.modEx_ex_same, lockEntered, enter_ex]
  exact hreturned

end

/-! ### LOCK OUT -/

section
variable {h : OrderHead} {s : State} (hmay : MayOrderExhibit (settle s) h) (huntimed : Untimed h)
include hmay huntimed

/-- LOCK OUT of a LOCKED OUT exhibit is DONE at once and records ORDER (R44). -/
theorem lockOut_recorded (hlocked : ((settle s).ex (OrderHead.ex h)).state = .lockedOut) :
    ∃ t, exec (.lockOut h) s = .next t ∧
      (t.ex (OrderHead.ex h)).lock = { ((settle s).ex (OrderHead.ex h)).lock with order := true } ∧
      SlotDone (settle s) t h .lockOut 0 ∧ OtherSlots h.slot.val (settle s) t ∧
      KeptBut (.exhibits :: orderFields) (settle s) t := by
  obtain ⟨-, ⟨-, hinst, hretire⟩, -⟩ := id hmay
  have hframe := addLock_keptBut_of_recorded (OrderHead.ex h) .order (accepted h .lockOut (settle s))
    hinst hretire (.inr (.inl hlocked))
  refine ⟨_, exec_orderCommand (postAndTake_lockOut_locked hmay huntimed hlocked),
    addLock_lock (OrderHead.ex h) .order (accepted h .lockOut (settle s)) hinst hretire, ?_,
    otherSlots_publish_complete fun j => hframe.slot (by decide) j, ?_⟩
  · refine slotDone_of_complete ?_ (outer_lastTaken (addLock_outer ..))
    rw [hframe.slot (by decide)]
    exact accepted_take h _ _
  · exact ((keptBut_accepted (by simp)).trans (hframe.mono (by simp))).publish_complete (by simp) _ _ _

omit huntimed in
/-- LOCK OUT of an exhibit with no lockout reason and no axis moving locks it out at once (R25, R44). -/
theorem lockOut_still (hempty : ((settle s).ex (OrderHead.ex h)).lock = ⟨false, false⟩)
    (hstate : ((settle s).ex (OrderHead.ex h)).state ≠ .lockedOut)
    (hbraking : ((settle s).ex (OrderHead.ex h)).brakingToLock = false)
    (hstill : (settle s).anyMoving (OrderHead.ex h) = false) :
    let t := publish (addLock (OrderHead.ex h) .order (lockWaiting h (settle s)))
    SlotDone (settle s) t h .lockOut 0 ∧ (t.ex (OrderHead.ex h)).state = .lockedOut ∧
      (t.ex (OrderHead.ex h)).restTimer = none ∧
      (∀ a ∈ ((settle s).ex (OrderHead.ex h)).axes, (t.ch a.channel).energised = false) ∧
      (((settle s).ex (OrderHead.ex h)).axes ≠ [] → (t.ex (OrderHead.ex h)).units = 0) := by
  obtain ⟨-, ⟨-, hinst, hretire⟩, -⟩ := id hmay
  intro t
  have ht : t = publish (lockDown (OrderHead.ex h)
      (lockPrepared (OrderHead.ex h) .order (lockWaiting h (settle s)))) := by
    refine congrArg publish (addLock_still _ _ _ ?_ ?_ ?_ ?_ ?_ ?_)
    · rw [lockWaiting_ex]; exact hinst
    · rw [lockWaiting_ex]; exact hretire
    · rw [lockWaiting_ex]; exact hempty
    · rw [lockWaiting_ex]; exact hstate
    · rw [lockWaiting_ex]; exact hbraking
    · rw [lockWaiting_anyMoving]; exact hstill
  have hown := lockPrepared_locked_own (OrderHead.ex h) .order (lockWaiting h (settle s))
  rw [ht]
  refine ⟨lockOut_slotDone, ?_, ?_, fun a ha => ?_, fun haxes => ?_⟩
  · simpa using congrArg Exhibit.state hown
  · simpa using congrArg Exhibit.restTimer hown
  · rw [publish_ch]
    refine lockPrepared_locked_ch (OrderHead.ex h) .order (lockWaiting h (settle s)) a ?_
    rwa [lockWaiting_ex]
  · rw [publish_ex]
    refine lockDown_units (OrderHead.ex h) (lockPrepared (OrderHead.ex h) .order (lockWaiting h (settle s))) ?_
      (lockPrepared_request ..)
    rw [lockPrepared_axes, lockWaiting_ex]
    exact haxes

omit huntimed in
/-- LOCK OUT of an exhibit with no lockout reason and an axis moving brakes it toward LOCKED OUT (R24, R44). -/
theorem lockOut_moving (hempty : ((settle s).ex (OrderHead.ex h)).lock = ⟨false, false⟩)
    (hstate : ((settle s).ex (OrderHead.ex h)).state ≠ .lockedOut)
    (hbraking : ((settle s).ex (OrderHead.ex h)).brakingToLock = false)
    (hmove : (settle s).anyMoving (OrderHead.ex h) = true) :
    let t := publish (addLock (OrderHead.ex h) .order (lockWaiting h (settle s)))
    (t.ex (OrderHead.ex h)).state = .braking ∧ (t.ex (OrderHead.ex h)).target = some .lockedOut ∧
      (t.ex (OrderHead.ex h)).run = none ∧
      ∀ a ∈ ((settle s).ex (OrderHead.ex h)).axes, ((settle s).ch a.channel).state = .moving →
        t.ch a.channel = { (settle s).ch a.channel with state := .braking } := by
  obtain ⟨-, ⟨-, hinst, hretire⟩, -⟩ := id hmay
  intro t
  have ht : t = publish (enterBraking (OrderHead.ex h) .lockedOut none (brakeAxes (OrderHead.ex h)
      (lockPrepared (OrderHead.ex h) .order (lockWaiting h (settle s))))) := by
    refine congrArg publish (addLock_moving _ _ _ ?_ ?_ ?_ ?_ ?_ ?_)
    · rw [lockWaiting_ex]; exact hinst
    · rw [lockWaiting_ex]; exact hretire
    · rw [lockWaiting_ex]; exact hempty
    · rw [lockWaiting_ex]; exact hstate
    · rw [lockWaiting_ex]; exact hbraking
    · rw [lockWaiting_anyMoving]; exact hmove
  have hrun := congrArg Exhibit.run (lockPrepared_own (OrderHead.ex h) .order (lockWaiting h (settle s)))
  rw [ht, publish_ex, enterBraking_brakeAxes_ex]
  refine ⟨rfl, rfl, by simpa [Exhibit.lockedBy] using hrun, fun a ha hmoving => ?_⟩
  have hch : (lockPrepared (OrderHead.ex h) .order (lockWaiting h (settle s))).ch a.channel =
      (settle s).ch a.channel := lockPrepared_ch ..
  rw [publish_ch, enterBraking_brakeAxes_ch, hch]
  · rw [lockPrepared_axes, lockWaiting_ex]
    exact ha
  · rw [hch]
    exact hmoving

/-- LOCK OUT of an exhibit that is not LOCKED OUT adds ORDER (R44). -/
theorem lockOut_adds (hnot : ((settle s).ex (OrderHead.ex h)).state ≠ .lockedOut) :
    let t := publish (addLock (OrderHead.ex h) .order (lockWaiting h (settle s)))
    exec (.lockOut h) s = .next t ∧
      (t.ex (OrderHead.ex h)).lock = { ((settle s).ex (OrderHead.ex h)).lock with order := true } ∧
      KeptBut exhibitFields (settle s) t := by
  obtain ⟨-, ⟨-, hinst, hretire⟩, -⟩ := id hmay
  refine ⟨exec_orderCommand (postAndTake_lockOut hmay huntimed hnot), ?_, ?_⟩
  · have hlock := addLock_lock (OrderHead.ex h) .order (lockWaiting h (settle s))
      (by rw [lockWaiting_ex]; exact hinst) (by rw [lockWaiting_ex]; exact hretire)
    rw [lockWaiting_ex] at hlock
    exact hlock
  · refine (keptBut_accepted (h := h) (b := .lockOut) (by decide)).trans (keptBut_of_outer ?_)
    simp [lockWaiting]

end

/-! ### A key's activation -/

@[simp] theorem Exhibit.own_brakingToLock (x : Exhibit) : x.own.brakingToLock = x.brakingToLock := rfl

section
variable (v : State) (i e : Nat)

/-- An exhibit whose key has been activated, its calls acknowledged. -/
def keyAcked (v : State) (i e : Nat) : State := ackCauses e .key allCauses (activated i v)

theorem keyAcked_own : ((keyAcked v i e).ex e).own = (v.ex e).own := inner_own (ackCauses_inner ..) e

theorem keyAcked_keptBut : KeptBut [.inputs, .exhibits, .calls, .beacons] v (keyAcked v i e) :=
  ((activated_keptBut i v).mono (by decide)).trans ((ackCauses_keptBut _ _ _ _).mono (by decide))

theorem keyAcked_ch (c : Nat) : (keyAcked v i e).ch c = v.ch c := (keyAcked_keptBut v i e).ch (by decide) c

theorem keyAcked_axes : ((keyAcked v i e).ex e).axes = (v.ex e).axes := inner_axes (ackCauses_inner ..) e

theorem keyAcked_state : ((keyAcked v i e).ex e).state = (v.ex e).state := by
  simpa using congrArg Exhibit.state (keyAcked_own v i e)

theorem keyAcked_lock : ((keyAcked v i e).ex e).lock = (v.ex e).lock := by
  simpa using congrArg Exhibit.lock (keyAcked_own v i e)

theorem keyAcked_installed : ((keyAcked v i e).ex e).installed = (v.ex e).installed := by
  simp [Exhibit.installed, keyAcked_state]

theorem keyAcked_retire : ((keyAcked v i e).ex e).retire = (v.ex e).retire := by
  simpa using congrArg Exhibit.retire (keyAcked_own v i e)

theorem keyAcked_brakingToLock : ((keyAcked v i e).ex e).brakingToLock = (v.ex e).brakingToLock := by
  simpa using congrArg Exhibit.brakingToLock (keyAcked_own v i e)

theorem keyAcked_anyMoving : (keyAcked v i e).anyMoving e = v.anyMoving e :=
  anyMoving_congr (keyAcked_axes v i e) (keyAcked_ch v i e)

theorem keyAcked_acknowledged (c : Cause) (hc : c ∈ allCauses) :
    unacknowledged (keyAcked v i e) e c = false := ackCauses_acknowledges _ e .key allCauses c (.inl hc)

end

theorem inputEvent_key {v : State} {i e : Nat} (howner : (v.inp i).owner = some e)
    (hclass : v.classOf i = some .key) : inputEvent i true v = addLock e .key (keyAcked v i e) := by
  have hevent : classEvent e i .key true (v.modInp i (fun x => { x with accepted := true })) =
      keyOn e (activated i v) := rfl
  rw [inputEvent_of_class i v true howner hclass, hevent, keyOn, keyAcked]

/-- A key's activation acknowledges every call and adds KEY, with the effects of a first reason (R82, R24, R25). -/
theorem key_adds {v : State} {i e : Nat} (howner : (v.inp i).owner = some e)
    (hclass : v.classOf i = some .key) (hinst : (v.ex e).installed = true) (hretire : (v.ex e).retire = none) :
    let x := v.ex e
    let t := inputEvent i true v
    t.inp i = { v.inp i with accepted := true, lastEvent := v.tick } ∧ OtherInputs i v t ∧
      (t.ex e).lock = { x.lock with key := true } ∧
      (∀ c ∈ allCauses, unacknowledged t e c = false) ∧ KeptBut (.inputs :: exhibitFields) v t ∧
      (x.lock.key = true ∨ x.state = .lockedOut → KeptBut [.inputs, .exhibits, .calls, .beacons] v t) ∧
      (x.lock = ⟨false, false⟩ → x.state ≠ .lockedOut → x.brakingToLock = false → v.anyMoving e = false →
        (t.ex e).state = .lockedOut ∧ (t.ex e).capture = x.capture ∧
        (∀ a ∈ x.axes, (t.ch a.channel).energised = false)) ∧
      (x.lock = ⟨false, false⟩ → x.state ≠ .lockedOut → x.brakingToLock = false → v.anyMoving e = true →
        (t.ex e).state = .braking ∧ (t.ex e).target = some .lockedOut) := by
  intro x t
  have ht : t = addLock e .key (keyAcked v i e) := inputEvent_key howner hclass
  have hinst' := (keyAcked_installed v i e).trans hinst
  have hretire' := (keyAcked_retire v i e).trans hretire
  have houter : t.outer = (activated i v).outer := by rw [ht]; simp [keyAcked]
  obtain ⟨hinp, hothers⟩ := inputs_of_activated i v houter
  refine ⟨hinp, hothers, ?_, fun c hc => ?_, ?_, fun hrecorded => ?_, fun hempty hstate hbraking hstill => ?_,
    fun hempty hstate hbraking hmove => ?_⟩
  · rw [ht, addLock_lock e .key _ hinst' hretire', keyAcked_lock]
    rfl
  · rw [ht, unacknowledged_congr (addLock_causeSets e _ .key hinst' hretire')]
    exact keyAcked_acknowledged v i e c hc
  · exact ((activated_keptBut i v).mono (by decide)).trans ((keptBut_of_outer houter).mono (by decide))
  · rw [ht]
    refine (keyAcked_keptBut v i e).trans
      ((addLock_keptBut_of_recorded e .key _ hinst' hretire' ?_).mono (by decide))
    rw [keyAcked_lock, keyAcked_state]
    exact hrecorded.imp_right .inl
  · rw [ht, addLock_still e .key _ hinst' hretire' (by rwa [keyAcked_lock]) (by rwa [keyAcked_state])
      (by rwa [keyAcked_brakingToLock]) (by rwa [keyAcked_anyMoving])]
    have hown := lockPrepared_locked_own e .key (keyAcked v i e)
    rw [keyAcked_own] at hown
    refine ⟨by simpa using congrArg Exhibit.state hown,
      by simpa [Exhibit.lockedBy] using congrArg Exhibit.capture hown, fun a ha => ?_⟩
    exact lockPrepared_locked_ch e .key _ a (by rwa [keyAcked_axes])
  · rw [ht, addLock_moving e .key _ hinst' hretire' (by rwa [keyAcked_lock]) (by rwa [keyAcked_state])
      (by rwa [keyAcked_brakingToLock]) (by rwa [keyAcked_anyMoving]), enterBraking_brakeAxes_ex]
    exact ⟨rfl, rfl⟩

/-! ### The last lockout reason removed in LOCKED OUT (R26) -/

section
variable (e : Nat) (r : LockReason) (s : State) (hhas : (s.ex e).lock.has r = true)
  (hempty : ((s.ex e).lock.put r false).isEmpty = true) (hlocked : (s.ex e).state = .lockedOut)
include hhas hempty hlocked

/-- An exhibit without axes is then READY, its rest timer perhaps started. -/
theorem removeLock_readies (haxes : (s.ex e).axes = []) (hqueued : (s.ex e).queued = none) :
    (∃ t, (removeLock e r s).ex e = { s.ex e with
      lock := (s.ex e).lock.put r false, state := .ready, restTimer := t, target := none, heldAct := none }) ∧
      OtherExhibits e s (removeLock e r s) ∧ KeptBut [.exhibits, .views, .notice] s (removeLock e r s) := by
  rw [removeLock_leaves e r s hhas hempty hlocked, leaveLockedOut_ready]
  · refine ⟨?_, ?_, ?_⟩
    · obtain ⟨t, ht⟩ := startRest_ex e (enter e .ready (s.modEx e
        (fun x => { x with lock := x.lock.put r false })))
      exact ⟨t, by rw [ht, enter_ex, State.modEx_ex_same]⟩
    · exact ((State.modEx_otherExhibits e s _).trans (enter_otherExhibits e _ _)).trans
        (startRest_otherExhibits e _)
    · exact ((State.modEx_keptBut _ _ _).mono (by decide)).trans <|
        (enter_keptBut _ _ _).trans ((startRest_keptBut _ _).mono (by decide))
  · simpa using haxes
  · simpa using hqueued

/-- An exhibit with axes and no hold reason then homes, where its group can serve the homing claim. -/
theorem removeLock_homes (haxes : (s.ex e).axes ≠ []) (hhold : (s.ex e).hold = ⟨false, false, false⟩)
    (hbudget : WithinBudget s e (homingClaim s e)) :
    Asked s (removeLock e r s) e (homingClaim s e) .homing ∧
      ((removeLock e r s).ex e).own = { (s.ex e).own with
        lock := (s.ex e).lock.put r false, axesSet := [], state := .homing, restTimer := none,
        target := none, heldAct := none } ∧
      KeptBut [.exhibits, .groups, .handed, .views, .notice] s (removeLock e r s) ∧
      (removeLock e r s).causeSets = s.causeSets := by
  generalize hw : s.modEx e (fun x => { x with lock := x.lock.put r false }) = w
  have hex : w.ex e = { s.ex e with lock := (s.ex e).lock.put r false } := by rw [← hw, State.modEx_ex_same]
  have hclaim : homingClaim w e = homingClaim s e :=
    homingClaim_congr (by rw [hex]) fun c => by rw [← hw, State.modEx_ch]
  have hwithin : WithinBudget w e (homingClaim w e) := by
    rw [hclaim, WithinBudget, @group_congr (s.ex e) _ (by rw [hex]), ← hw]
    exact hbudget
  have haxes' : (w.ex e).axes ≠ [] := by rwa [hex]
  have hhold' : (w.ex e).hold = ⟨false, false, false⟩ := by rwa [hex]
  obtain ⟨hasked, hown, hframe⟩ := enterHoming_asks e w haxes' hhold' hwithin
  rw [removeLock_leaves e r s hhas hempty hlocked, hw, leaveLockedOut_homing e w haxes']
  refine ⟨?_, ?_, ?_, ?_⟩
  · rw [← hclaim]
    exact hasked.since ⟨[], by rw [← hw]; simp⟩
  · rw [hown, hex]
    rfl
  · rw [← hw] at hframe ⊢
    exact ((State.modEx_keptBut s e _).mono (by decide)).trans hframe
  · have hentered : (homingEntered e w).causeSets = s.causeSets := by
      rw [homingEntered, enter_causeSets, State.modEx_causeSets e w (fun x => { x with axesSet := [] }) rfl, ← hw,
        State.modEx_causeSets e s (fun x => { x with lock := x.lock.put r false }) rfl]
    rw [enterHoming_within e w hhold' hwithin, request_causeSets, hentered]

end

/-! ### A key's release -/

section
variable (v : State) (i e : Nat)

/-- The causes that a key release clears (R83). -/
def releasedCauses : List Cause := [.guardTrip, .motionFault, .help]

/-- An exhibit whose last key is released, its capture record emptied and its causes cleared. -/
def keyCleared (v : State) (i e : Nat) : State :=
  clearCauses e releasedCauses
    ((deactivated i v).modEx e (fun x => { x with capture := none, laterFaults := 0 }))

theorem keyCleared_own :
    ((keyCleared v i e).ex e).own = { (v.ex e).own with capture := none, laterFaults := 0 } := by
  rw [keyCleared, inner_own (clearCauses_inner ..), State.modEx_ex_same]
  rfl

theorem keyCleared_keptBut : KeptBut [.inputs, .exhibits, .calls, .beacons] v (keyCleared v i e) :=
  ((deactivated_keptBut i v).mono (by decide)).trans <|
    ((State.modEx_keptBut _ _ _).mono (by decide)).trans ((clearCauses_keptBut _ _ _).mono (by decide))

theorem keyCleared_causeRec (c : Cause) (hc : c ∈ releasedCauses) :
    ((keyCleared v i e).ex e).causeRec c = none := clearCauses_causeRec _ e releasedCauses c hc

theorem keyCleared_axes : ((keyCleared v i e).ex e).axes = (v.ex e).axes := by
  simpa using congrArg Exhibit.axes (keyCleared_own v i e)

theorem keyCleared_state : ((keyCleared v i e).ex e).state = (v.ex e).state := by
  simpa using congrArg Exhibit.state (keyCleared_own v i e)

theorem keyCleared_lock : ((keyCleared v i e).ex e).lock = (v.ex e).lock := by
  simpa using congrArg Exhibit.lock (keyCleared_own v i e)

theorem keyCleared_hold : ((keyCleared v i e).ex e).hold = (v.ex e).hold := by
  simpa using congrArg Exhibit.hold (keyCleared_own v i e)

theorem keyCleared_queued : ((keyCleared v i e).ex e).queued = (v.ex e).queued := by
  simpa using congrArg Exhibit.queued (keyCleared_own v i e)

theorem keyCleared_capture : ((keyCleared v i e).ex e).capture = none := by
  simpa using congrArg Exhibit.capture (keyCleared_own v i e)

theorem keyCleared_laterFaults : ((keyCleared v i e).ex e).laterFaults = 0 := by
  simpa using congrArg Exhibit.laterFaults (keyCleared_own v i e)

theorem keyCleared_claim : homingClaim (keyCleared v i e) e = homingClaim v e :=
  homingClaim_congr (keyCleared_axes v i e) ((keyCleared_keptBut v i e).ch (by decide))

theorem keyCleared_group (g : Nat) : (keyCleared v i e).group g = v.group g :=
  (keyCleared_keptBut v i e).group (by decide) g

end

/-- The release of an exhibit's last key clears its records and removes KEY, and lets it leave LOCKED OUT where no
reason is left (R83, R26). -/
theorem key_removes {v : State} {i e : Nat} (howner : (v.inp i).owner = some e)
    (hclass : v.classOf i = some .key) :
    let x := v.ex e
    let w := v.modInp i (fun y => { y with accepted := false })
    let t := inputEvent i false v
    (w.keyActive e = true → t = w) ∧
    (w.keyActive e = false →
      (x.lock ≠ ⟨true, false⟩ ∨ x.state ≠ .lockedOut →
        (t.ex e).state = x.state ∧ (t.ex e).lock = { x.lock with key := false } ∧
        (t.ex e).capture = none ∧ (t.ex e).laterFaults = 0 ∧
        (∀ c ∈ [Cause.guardTrip, .motionFault, .help], (t.ex e).causeRec c = none) ∧
        KeptBut [.inputs, .exhibits, .calls, .beacons] v t) ∧
      (x.lock = ⟨true, false⟩ → x.state = .lockedOut → x.axes = [] → x.queued = none →
        (t.ex e).state = .ready ∧ (t.ex e).lock = ⟨false, false⟩ ∧ (t.ex e).capture = none ∧
        (∀ c ∈ [Cause.guardTrip, .motionFault, .help], (t.ex e).causeRec c = none)) ∧
      (x.lock = ⟨true, false⟩ → x.state = .lockedOut → x.axes ≠ [] →
        x.hold = ⟨false, false, false⟩ → WithinBudget v e (homingClaim v e) →
        (t.ex e).state = .homing ∧ (t.ex e).axesSet = [] ∧
        Asked v t e (homingClaim v e) .homing ∧ (t.ex e).lock = ⟨false, false⟩ ∧
        (t.ex e).capture = none ∧
        (∀ c ∈ [Cause.guardTrip, .motionFault, .help], (t.ex e).causeRec c = none))) := by
  intro x w t
  have ht : t = keyOff e w := inputEvent_of_class i v false howner hclass
  refine ⟨fun hactive => ht.trans (if_pos hactive), fun hquiet => ?_⟩
  have hremoved : t = removeLock e .key (keyCleared v i e) := ht.trans (if_neg (by simp [hquiet]))
  rw [hremoved]
  have hreasons (hlock : x.lock = ⟨true, false⟩) :
      ((keyCleared v i e).ex e).lock = ⟨true, false⟩ := (keyCleared_lock v i e).trans hlock
  have hstate := keyCleared_state v i e
  have hcapture := keyCleared_capture v i e
  have hlater := keyCleared_laterFaults v i e
  have hrec := keyCleared_causeRec v i e
  refine ⟨fun hstay => ?_, fun hlock hlocked haxes hqueued => ?_, fun hlock hlocked haxes hhold hbudget => ?_⟩
  · obtain ⟨hex, -, hframe⟩ := removeLock_stays e .key (keyCleared v i e) (by
      rw [keyCleared_state, keyCleared_lock]
      exact hstay.symm.imp_right LockReasons.left_of_ne)
    have hput := congrArg (·.put LockReason.key false) (keyCleared_lock v i e)
    rw [hex]
    generalize (keyCleared v i e).ex e = y at hstate hcapture hlater hrec hput ⊢
    exact ⟨hstate, hput, hcapture, hlater, hrec, (keyCleared_keptBut v i e).trans (hframe.mono (by decide))⟩
  · obtain ⟨⟨t, hex⟩, -, -⟩ := removeLock_readies e .key (keyCleared v i e) (by rw [hreasons hlock]; rfl)
      (by rw [hreasons hlock]; rfl) (by rwa [keyCleared_state]) (by rwa [keyCleared_axes])
      (by rwa [keyCleared_queued])
    rw [hex, hreasons hlock]
    generalize (keyCleared v i e).ex e = y at hcapture hrec ⊢
    exact ⟨rfl, rfl, hcapture, hrec⟩
  · obtain ⟨hasked, hown, -, hcauses⟩ := removeLock_homes e .key (keyCleared v i e)
      (by rw [hreasons hlock]; rfl) (by rw [hreasons hlock]; rfl) (by rwa [keyCleared_state])
      (by rwa [keyCleared_axes]) (by rwa [keyCleared_hold])
      (by
        rw [keyCleared_claim, WithinBudget, group_congr (keyCleared_axes v i e), keyCleared_group]
        exact hbudget)
    rw [hreasons hlock, keyCleared_own] at hown
    rw [keyCleared_claim] at hasked
    refine ⟨by simpa using congrArg Exhibit.state hown, by simpa using congrArg Exhibit.axesSet hown, ?_,
      by simpa [LockReasons.put] using congrArg Exhibit.lock hown,
      by simpa using congrArg Exhibit.capture hown, fun c hc => ?_⟩
    · refine hasked.since ⟨[], ?_⟩
      rw [List.append_nil]
      exact keyCleared_keptBut v i e .handed (by decide)
    · rw [causeRec_congr hcauses]
      exact keyCleared_causeRec v i e c hc

/-- Settles O27: LOCK OUT and a key add a reason, whose effect is that of R24 and R25; a key release clears what R83
names and removes its own. -/
theorem lockOutTakesOutOfService : Obligations.LockOutTakesOutOfService := by
  constructor
  · intro h s u e hmay huntimed
    by_cases hlocked : (u.ex e).state = .lockedOut
    · obtain ⟨t, hexec, hlock, hdone, hslots, hframe⟩ := lockOut_recorded hmay huntimed hlocked
      exact ⟨t, hexec, hlock, hframe.mono (by decide), fun _ => ⟨hdone, hslots, hframe⟩,
        fun _ hnot => absurd hlocked hnot, fun _ hnot => absurd hlocked hnot⟩
    · obtain ⟨hexec, hlock, hframe⟩ := lockOut_adds hmay huntimed hlocked
      exact ⟨_, hexec, hlock, hframe, fun h => absurd h hlocked,
        fun hempty hstate hbraking hstill => lockOut_still hmay hempty hstate hbraking hstill,
        fun hempty hstate hbraking hmove => lockOut_moving hmay hempty hstate hbraking hmove⟩
  · intro v i e x howner hclass hinst hretire
    exact ⟨key_adds howner hclass hinst hretire, key_removes howner hclass⟩

end Sys2Proof.Machine
end

section
/-! PROOFS. RETURN TO SERVICE and HOME EXHIBIT (R26, R30, R44 to R46). -/

namespace Sys2Proof.Machine

/-! ### A homing claim refused (R30, R139) -/

section
variable (e : Nat) (s : State)

/-- An exhibit whose homing claim is refused is LOCKED OUT by ORDER. -/
theorem homingRefused_own : ((homingRefused e s).ex e).own =
    { (s.ex e).own with
      homingOrder := none, queued := none, lock := { (s.ex e).lock with order := true }, wakePending := false,
      state := .lockedOut, restTimer := none, target := none, heldAct := none, lockOrders := [] } := by
  rw [homingRefused, lockDown_own, State.modEx_ex_same]
  have hdropped : ((dropQueued e .stopped (endHomingOrder e .overBudget s)).ex e).own =
      { (s.ex e).own with homingOrder := none, queued := none } := by
    rw [standing_own (dropQueued_standing ..), standing_own (endHomingOrder_standing ..)]
  generalize (dropQueued e .stopped (endHomingOrder e .overBudget s)).ex e = y at hdropped ⊢
  have hlock : y.lock = (s.ex e).lock := by simpa using congrArg Exhibit.lock hdropped
  rw [← hlock]
  exact congrArg (fun x : Exhibit => { x with
    lock := { y.lock with order := true }, wakePending := false, state := .lockedOut, restTimer := none,
    target := none, heldAct := none, lockOrders := [] }) hdropped

theorem homingRefused_ch (a : AxisRec) (ha : a ∈ (s.ex e).axes) :
    ((homingRefused e s).ch a.channel).energised = false := by
  refine lockDown_ch e _ a ?_
  rw [State.modEx_ex_same]
  have hdropped : ((dropQueued e .stopped (endHomingOrder e .overBudget s)).ex e).axes = (s.ex e).axes := by
    have hown := standing_own (dropQueued_standing e .stopped (endHomingOrder e .overBudget s))
    rw [standing_own (endHomingOrder_standing ..)] at hown
    simpa using congrArg Exhibit.axes hown
  exact hdropped ▸ ha

/-- Without hold reasons an exhibit whose homing claim is over its group's budget is LOCKED OUT by ORDER. -/
theorem enterHoming_over (hhold : (s.ex e).hold = ⟨false, false, false⟩)
    (hover : (s.group (s.ex e).group).budget < homingClaim s e) :
    ((enterHoming e s).ex e).state = .lockedOut ∧
      ((enterHoming e s).ex e).lock = { (s.ex e).lock with order := true } ∧
      ∀ a ∈ (s.ex e).axes, ((enterHoming e s).ch a.channel).energised = false := by
  have hrefused : enterHoming e s =
      homingRefused e (withdraw e (setNotice noticeExhibits (homingEntered e s))) := by
    rw [enterHoming_free e s (by rw [hhold]; rfl) (Nat.ne_of_gt (Nat.zero_lt_of_lt hover)),
      request_over e _ (by rwa [homingEntered_budget])]
    rfl
  have hown : ((withdraw e (setNotice noticeExhibits (homingEntered e s))).ex e).own =
      ((homingEntered e s).ex e).own := inner_own ((withdraw_inner ..).trans (setNotice_inner ..)) e
  rw [homingEntered_ex] at hown
  generalize withdraw e (setNotice noticeExhibits (homingEntered e s)) = w at hrefused hown
  have hlock : (w.ex e).lock = (s.ex e).lock := by simpa using congrArg Exhibit.lock hown
  have haxes : (w.ex e).axes = (s.ex e).axes := by simpa using congrArg Exhibit.axes hown
  have hlocked := homingRefused_own e w
  rw [hrefused]
  refine ⟨by simpa using congrArg Exhibit.state hlocked, ?_, fun a ha => homingRefused_ch e w a (haxes ▸ ha)⟩
  rw [← hlock]
  simpa using congrArg Exhibit.lock hlocked

/-! ### Homing entered beside a hold reason (R30) -/

/-- With a hold reason present HOMING is entered with its claim deferred, or the exhibit is HELD to home later. -/
theorem enterHoming_waits (hhold : (s.ex e).hold.isEmpty = false) :
    ((enterHoming e s).ex e).lock = (s.ex e).lock ∧
      ((enterHoming e s).ex e).homingOrder = (s.ex e).homingOrder ∧
      OtherExhibits e s (enterHoming e s) ∧
      (s.energised e = false → ((enterHoming e s).ex e).state = .homing) ∧
      (s.energised e = true → ((enterHoming e s).ex e).state = .held ∧
        ((enterHoming e s).ex e).heldAct = some .homing) ∧
      KeptBut enterFields s (enterHoming e s) := by
  cases hen : s.energised e with
  | false =>
    rw [enterHoming_deferred e s hhold hen, homingEntered_ex]
    exact ⟨rfl, rfl, (State.modEx_otherExhibits e s _).trans (enter_otherExhibits e _ _), fun _ => rfl,
      fun h => absurd h (by decide), homingEntered_keptBut e s⟩
  | true =>
    have hex : (enterHeld e .homing (s.modEx e (fun x => { x with axesSet := [] }))).ex e =
        { s.ex e with axesSet := [], state := .held, restTimer := none, target := none,
                      heldAct := some .homing } := by
      simp [enterHeld]
    rw [enterHoming_held e s hhold hen, hex]
    exact ⟨rfl, rfl, (State.modEx_otherExhibits e s _).trans (enterHeld_otherExhibits e _ _),
      fun h => absurd h (by decide), fun _ => ⟨rfl, rfl⟩,
      ((State.modEx_keptBut _ _ _).mono (by decide)).trans (enterHeld_keptBut _ _ _)⟩

end

/-! ### RETURN TO SERVICE -/

section
variable {h : OrderHead} {u : State}

/-- RETURN TO SERVICE is refused where it would let a faulted exhibit back (R44). -/
theorem postAndTake_returnToService_refused (hmay : MayOrderExhibit u h) (huntimed : Untimed h)
    (hlock : (u.ex (OrderHead.ex h)).lock = ⟨false, true⟩)
    (hcapture : (u.ex (OrderHead.ex h)).capture.isSome = true) :
    postAndTake h .returnToService u =
      refuseAtTake h.slot.val (hostFieldsOf h .returnToService) .state 0
        (postedAndTaken h .returnToService u) := by
  have hfull : ((u.ex (OrderHead.ex h)).lock.order && !(u.ex (OrderHead.ex h)).lock.key &&
      (u.ex (OrderHead.ex h)).capture.isSome) = true := by
    rw [hlock, hcapture]; rfl
  exact postAndTake_of_refuse hmay.1 rfl (takeRefusal_of_mayOrder hmay huntimed rfl rfl rfl) huntimed
    (if_pos hfull)

/-- What an accepted RETURN TO SERVICE comes to. -/
theorem postAndTake_returnToService (hmay : MayOrderExhibit u h) (huntimed : Untimed h)
    (hfree : (u.ex (OrderHead.ex h)).lock ≠ ⟨false, true⟩ ∨ (u.ex (OrderHead.ex h)).capture = none) :
    postAndTake h .returnToService u =
      complete h.slot.val .done (BitVec.ofNat 32 (u.ex (OrderHead.ex h)).lock.key.toNat)
        (removeLock (OrderHead.ex h) .order (accepted h .returnToService u)) := by
  have hgo : ¬ ((u.ex (OrderHead.ex h)).lock.order && !(u.ex (OrderHead.ex h)).lock.key &&
      (u.ex (OrderHead.ex h)).capture.isSome) = true := by
    rcases hfree with hlock | hcapture
    · generalize (u.ex (OrderHead.ex h)).lock = l at hlock
      obtain ⟨key, order⟩ := l
      cases key <;> cases order <;> simp_all
    · simp [hcapture]
  have hleft : ((u.ex (OrderHead.ex h)).lock.put .order false).size =
      (u.ex (OrderHead.ex h)).lock.key.toNat := by
    simp [LockReasons.put, LockReasons.size]
  rw [← hleft]
  exact postAndTake_of_go hmay.1 rfl (takeRefusal_of_mayOrder hmay huntimed rfl rfl rfl) huntimed (by decide)
    (if_neg hgo)

end

/-- The homing claim of an order's exhibit is the same once the order is accepted. -/
theorem accepted_claim (h : OrderHead) (b : OrderBody) (u : State) (e : Nat) :
    homingClaim (accepted h b u) e = homingClaim u e := homingClaim_congr rfl fun _ => rfl

/-- The order's fields and the exhibit's take a completed order's frame with them. -/
theorem exhibits_publish_complete {h : OrderHead} {b : OrderBody} {u v : State} {fs : List Field}
    (hv : KeptBut fs (accepted h b u) v) {gs : List Field} (hfs : fs ⊆ gs) (hgs : orderFields ⊆ gs)
    (o : OrderOutcome) (r : Word) : KeptBut gs u (publish (complete h.slot.val o r v)) :=
  ((keptBut_accepted hgs).trans (hv.mono hfs)).publish_complete hgs _ _ _

section
variable (e : Nat) (r : LockReason) (s : State) (hhas : (s.ex e).lock.has r = true)
  (hempty : ((s.ex e).lock.put r false).isEmpty = true) (hlocked : (s.ex e).state = .lockedOut)
  (haxes : (s.ex e).axes ≠ [])
include hhas hempty hlocked haxes

/-- With axes an exhibit that may leave LOCKED OUT enters HOMING, as far as its hold reasons and its claim let it. -/
theorem removeLock_entersHoming :
    removeLock e r s = enterHoming e (s.modEx e (fun x => { x with lock := x.lock.put r false })) := by
  rw [removeLock_leaves e r s hhas hempty hlocked, leaveLockedOut_homing]
  simpa using haxes

/-- A homing claim over the budget takes the exhibit back to LOCKED OUT by ORDER (R30). -/
theorem removeLock_over (hhold : (s.ex e).hold = ⟨false, false, false⟩)
    (hover : (s.group (s.ex e).group).budget < homingClaim s e) :
    ((removeLock e r s).ex e).state = .lockedOut ∧
      ((removeLock e r s).ex e).lock = { (s.ex e).lock.put r false with order := true } ∧
      ∀ a ∈ (s.ex e).axes, ((removeLock e r s).ch a.channel).energised = false := by
  rw [removeLock_entersHoming e r s hhas hempty hlocked haxes]
  generalize hw : s.modEx e (fun x => { x with lock := x.lock.put r false }) = w
  have hex : w.ex e = { s.ex e with lock := (s.ex e).lock.put r false } := by rw [← hw, State.modEx_ex_same]
  have hover' : (w.group (w.ex e).group).budget < homingClaim w e := by
    rw [@group_congr (s.ex e) _ (by rw [hex]), @homingClaim_congr s _ _ (by rw [hex])
      fun c => by rw [← hw, State.modEx_ch], ← hw, State.modEx_group]
    exact hover
  obtain ⟨hst, hlock, hch⟩ := enterHoming_over e w (by rwa [hex]) hover'
  rw [hex] at hlock hch
  exact ⟨hst, hlock, hch⟩

/-- With a hold reason present the exhibit defers its claim or is HELD to home later (R30). -/
theorem removeLock_waits (hhold : (s.ex e).hold.isEmpty = false) :
    ((removeLock e r s).ex e).lock = (s.ex e).lock.put r false ∧
      OtherExhibits e s (removeLock e r s) ∧
      (s.energised e = false → ((removeLock e r s).ex e).state = .homing) ∧
      (s.energised e = true → ((removeLock e r s).ex e).state = .held ∧
        ((removeLock e r s).ex e).heldAct = some .homing) ∧
      KeptBut enterFields s (removeLock e r s) := by
  rw [removeLock_entersHoming e r s hhas hempty hlocked haxes]
  generalize hw : s.modEx e (fun x => { x with lock := x.lock.put r false }) = w
  have hex : w.ex e = { s.ex e with lock := (s.ex e).lock.put r false } := by rw [← hw, State.modEx_ex_same]
  have hen : w.energised e = s.energised e := by
    unfold State.energised
    rw [hex, ← hw]
    rfl
  have hothers : OtherExhibits e s w := hw ▸ State.modEx_otherExhibits e s _
  have hframe : KeptBut enterFields s w := hw ▸ (State.modEx_keptBut _ _ _).mono (by decide)
  obtain ⟨hlock, -, hkept, hdeferred, hheld, hentered⟩ := enterHoming_waits e w (by rwa [hex])
  rw [hex] at hlock
  rw [hen] at hdeferred hheld
  exact ⟨hlock, hothers.trans hkept, hdeferred, hheld, hframe.trans hentered⟩

end

section
variable {h : OrderHead} {s : State} (hlock : ((settle s).ex (OrderHead.ex h)).lock = ⟨false, true⟩)
  (hlocked : ((settle s).ex (OrderHead.ex h)).state = .lockedOut)
include hlock hlocked

/-- RETURN TO SERVICE lets a LOCKED OUT exhibit leave where ORDER was its last lockout reason (R26, R30). -/
theorem return_leaves :
    let u := settle s
    let e := OrderHead.ex h
    let x := u.ex e
    let claim := homingClaim u e
    let t := publish (complete h.slot.val .done (BitVec.ofNat 32 x.lock.key.toNat)
      (removeLock e .order (accepted h .returnToService u)))
    (x.axes = [] → x.queued = none →
      (t.ex e).state = .ready ∧ (t.ex e).lock = ⟨false, false⟩ ∧ OtherExhibits e u t ∧
      OtherSlots h.slot.val u t ∧ KeptBut (.exhibits :: orderFields) u t) ∧
    (x.axes ≠ [] → x.hold = ⟨false, false, false⟩ → WithinBudget u e claim →
      (t.ex e).state = .homing ∧ (t.ex e).lock = ⟨false, false⟩ ∧ (t.ex e).axesSet = [] ∧
      Asked u t e claim .homing ∧ OtherSlots h.slot.val u t ∧
      KeptBut ([.exhibits, .groups, .handed] ++ orderFields) u t) ∧
    (x.axes ≠ [] → x.hold = ⟨false, false, false⟩ → (u.group x.group).budget < claim →
      (t.ex e).state = .lockedOut ∧ (t.ex e).lock = ⟨false, true⟩ ∧
      ∀ a ∈ x.axes, (t.ch a.channel).energised = false) ∧
    (x.axes ≠ [] → x.hold.isEmpty = false →
      (t.ex e).lock = ⟨false, false⟩ ∧ OtherExhibits e u t ∧ OtherSlots h.slot.val u t ∧
      (u.energised e = false → (t.ex e).state = .homing) ∧
      (u.energised e = true → (t.ex e).state = .held ∧ (t.ex e).heldAct = some .homing) ∧
      KeptBut (.exhibits :: orderFields) u t) := by
  intro u e x claim t
  have hhas : ((accepted h .returnToService u).ex e).lock.has .order = true := by
    rw [accepted_ex, hlock]; rfl
  have hempty : (((accepted h .returnToService u).ex e).lock.put .order false).isEmpty = true := by
    rw [accepted_ex, hlock]; rfl
  have hlocked' : ((accepted h .returnToService u).ex e).state = .lockedOut := hlocked
  have hfree : ((accepted h .returnToService u).ex e).lock.put .order false = ⟨false, false⟩ := by
    rw [accepted_ex, hlock]; rfl
  have hclaim : homingClaim (accepted h .returnToService u) e = claim := accepted_claim h _ u e
  refine ⟨fun haxes hqueued => ?_, fun haxes hhold hbudget => ?_, fun haxes hhold hover => ?_,
    fun haxes hhold => ?_⟩
  · obtain ⟨⟨m, hex⟩, hothers, hframe⟩ := removeLock_readies e .order _ hhas hempty hlocked' haxes hqueued
    have htex : t.ex e = _ := hex
    rw [htex]
    exact ⟨rfl, hfree, hothers, otherSlots_publish_complete (hframe.slot (by decide)),
      exhibits_publish_complete hframe (by decide) (by decide) _ _⟩
  · obtain ⟨hasked, hown, hframe, -⟩ := removeLock_homes e .order (accepted h .returnToService u) hhas hempty
      hlocked' haxes hhold (by rw [hclaim]; exact hbudget)
    rw [hclaim] at hasked
    rw [hfree] at hown
    refine ⟨by simpa [t] using congrArg Exhibit.state hown, by simpa [t] using congrArg Exhibit.lock hown,
      by simpa [t] using congrArg Exhibit.axesSet hown, ?_,
      otherSlots_publish_complete (hframe.slot (by decide)),
      exhibits_publish_complete hframe (by decide) (by decide) _ _⟩
    exact hasked
  · obtain ⟨hst, hl, hch⟩ := removeLock_over e .order (accepted h .returnToService u) hhas hempty
      hlocked' haxes hhold (by rw [hclaim]; exact hover)
    rw [hfree] at hl
    exact ⟨hst, hl, hch⟩
  · obtain ⟨hl, hothers, hdeferred, hheld, hframe⟩ := removeLock_waits e .order
      (accepted h .returnToService u) hhas hempty hlocked' haxes hhold
    rw [hfree] at hl
    exact ⟨hl, hothers, otherSlots_publish_complete (hframe.slot (by decide)), hdeferred, hheld,
      exhibits_publish_complete hframe (by decide) (by decide) _ _⟩

end

/-- Settles O28: the order removes ORDER; what follows is decided by the reasons left, the axes, the hold reasons
and the homing claim. -/
theorem returnToServiceRemovesOrder : Obligations.ReturnToServiceRemovesOrder := by
  intro h s u e x claim hmay huntimed
  refine ⟨fun hlock hcapture => ⟨_, exec_orderCommand
    (postAndTake_returnToService_refused hmay huntimed hlock hcapture),
    refusedOnly_of_refuseAtTake (by decide)⟩, fun hfree => ?_⟩
  refine ⟨_, exec_orderCommand (postAndTake_returnToService hmay huntimed hfree), ?_, ?_, fun hstay => ?_,
    fun hlock hlocked => return_leaves hlock hlocked⟩
  · refine slotDone_of_complete ?_ (outer_lastTaken (removeLock_outer ..))
    exact (((Lasts.refl _).after_removeLock _ _).take _).trans (accepted_take h _ u)
  · exact exhibits_publish_complete (keptBut_of_outer (removeLock_outer ..)) (by decide) (by decide) _ _
  · obtain ⟨hex, hothers, hframe⟩ := removeLock_stays e .order (accepted h .returnToService u)
      (hstay.symm.imp_right LockReasons.left_of_ne)
    exact ⟨hex, hothers, otherSlots_publish_complete (hframe.slot (by decide)),
      exhibits_publish_complete hframe (by decide) (by decide) _ _⟩

/-! ### HOME EXHIBIT -/

section
variable {h : OrderHead} {b : OrderBody} {u : State}

/-- An accepted order whose slot is left as the take wrote it is TAKEN (R185). -/
theorem slotWaits_of_slot {t : State} (hslot : t.slot h.slot.val = (accepted h b u).slot h.slot.val)
    (hlast : t.lastTaken = h.slot.val) : SlotWaits u t h b := by
  have htaken : (accepted h b u).slot h.slot.val = { (postedAndTaken h b u).slot h.slot.val with
      edit := ((postedAndTaken h b u).slot h.slot.val).edit + 2, acceptance := .accepted } := by
    simp [accepted, acceptOrder]
  unfold SlotWaits
  rw [hslot, htaken, postedAndTaken_slot]
  exact ⟨rfl, rfl, rfl, rfl, rfl, rfl, rfl, hlast⟩

/-- The state in which an accepted HOME EXHIBIT enters HOMING. -/
def homeWaiting (h : OrderHead) (u : State) : State :=
  (accepted h .home u).modEx (OrderHead.ex h) (fun x => { x with homingOrder := some ⟨h.slot.val, 0⟩ })

theorem homeWaiting_ex : (homeWaiting h u).ex (OrderHead.ex h) =
    { u.ex (OrderHead.ex h) with homingOrder := some ⟨h.slot.val, 0⟩ } := by
  simp [homeWaiting]

theorem homeWaiting_claim :
    homingClaim (homeWaiting h u) (OrderHead.ex h) = homingClaim u (OrderHead.ex h) :=
  homingClaim_congr (by rw [homeWaiting_ex]) fun _ => rfl

theorem homeWaiting_keptBut : KeptBut (.exhibits :: orderFields) u (homeWaiting h u) :=
  (keptBut_accepted (by simp)).trans ((State.modEx_keptBut _ _ _).mono (by simp))

theorem homeWaiting_otherExhibits : OtherExhibits (OrderHead.ex h) u (homeWaiting h u) :=
  State.modEx_otherExhibits (OrderHead.ex h) (accepted h .home u) _

/-- The slots and the frame of a HOME EXHIBIT that waits. -/
theorem home_waits {v : State} {fs gs : List Field} (hframe : KeptBut fs (homeWaiting h u) v)
    (hslots : Field.slots ∉ fs) (hlast : Field.lastTaken ∉ fs) (hfs : fs ⊆ gs)
    (hgs : (Field.exhibits :: orderFields) ⊆ gs) :
    SlotWaits u (publish v) h .home ∧ OtherSlots h.slot.val u (publish v) ∧ KeptBut gs u (publish v) := by
  refine ⟨slotWaits_of_slot (hframe.slot hslots _) (hframe .lastTaken hlast), fun j hj => ?_, ?_⟩
  · exact (hframe.slot hslots j).trans (accepted_slot_other h .home u hj)
  · exact (homeWaiting_keptBut.mono hgs).trans <| (hframe.mono hfs).trans <|
      (publish_keptBut v).mono (List.Subset.trans (by decide) hgs)

section
variable (hmay : MayOrderExhibit u h) (huntimed : Untimed h)
include hmay huntimed

/-- HOME EXHIBIT is refused outside READY (R45). -/
theorem postAndTake_home_refused (hnot : (u.ex (OrderHead.ex h)).state ≠ .ready) :
    postAndTake h .home u =
      refuseAtTake h.slot.val (hostFieldsOf h .home) .state 0 (postedAndTaken h .home u) :=
  postAndTake_of_refuse hmay.1 rfl (takeRefusal_of_mayOrder hmay huntimed rfl rfl rfl) huntimed (if_pos hnot)

/-- Without axes HOME EXHIBIT is done in READY (R45). -/
theorem postAndTake_home_none (hready : (u.ex (OrderHead.ex h)).state = .ready)
    (haxes : (u.ex (OrderHead.ex h)).axes = []) :
    postAndTake h .home u = complete h.slot.val .done 0 (accepted h .home u) :=
  postAndTake_of_go hmay.1 rfl (takeRefusal_of_mayOrder hmay huntimed rfl rfl rfl) huntimed (by decide)
    ((if_neg (not_not.2 hready)).trans (if_pos (List.isEmpty_iff.2 haxes)))

/-- With axes HOME EXHIBIT enters HOMING from READY (R45). -/
theorem postAndTake_home (hready : (u.ex (OrderHead.ex h)).state = .ready)
    (haxes : (u.ex (OrderHead.ex h)).axes ≠ []) :
    postAndTake h .home u = enterHoming (OrderHead.ex h) (homeWaiting h u) :=
  postAndTake_of_go hmay.1 rfl (takeRefusal_of_mayOrder hmay huntimed rfl rfl rfl) huntimed (by decide)
    ((if_neg (not_not.2 hready)).trans (if_neg (mt List.isEmpty_iff.1 haxes)))

end

end

/-- Settles O29: what HOME EXHIBIT comes to is decided by the state, the axes and the hold reasons. -/
theorem homeExhibitHomesAgain : Obligations.HomeExhibitHomesAgain := by
  intro h s u e claim hmay huntimed
  refine ⟨fun hnot => ?_, fun hready haxes => ?_, fun hready haxes hhold hbudget => ?_,
    fun hready haxes hhold hen => ?_⟩
  · exact ⟨_, exec_orderCommand (postAndTake_home_refused hmay huntimed hnot),
      refusedOnly_of_refuseAtTake (by decide)⟩
  · exact ⟨_, exec_orderCommand (postAndTake_home_none hmay huntimed hready haxes),
      slotDone_of_complete (accepted_take h _ u) rfl, otherSlots_publish_complete fun _ => rfl,
      (keptBut_accepted (by simp)).publish_complete (by simp) _ _ _⟩
  · obtain ⟨hasked, hown, hframe⟩ := enterHoming_asks e (homeWaiting h u) (by rwa [homeWaiting_ex])
      (by rwa [homeWaiting_ex])
      (by
        rw [homeWaiting_claim, WithinBudget, @group_congr (u.ex e) _ (by rw [homeWaiting_ex])]
        exact hbudget)
    rw [homeWaiting_ex] at hown
    rw [homeWaiting_claim] at hasked
    obtain ⟨hwaits, hslots, hkept⟩ := home_waits hframe (by decide) (by decide)
      (gs := [.exhibits, .groups, .handed] ++ orderFields) (by decide) (by decide)
    exact ⟨_, exec_orderCommand (postAndTake_home hmay huntimed hready haxes), hwaits,
      by simpa using congrArg Exhibit.state hown, by simpa using congrArg Exhibit.homingOrder hown,
      by simpa using congrArg Exhibit.axesSet hown, hasked, by simpa using congrArg Exhibit.restTimer hown,
      hslots, hkept⟩
  · obtain ⟨-, horder, hothers, -, hheld, hframe⟩ := enterHoming_waits e (homeWaiting h u)
      (by rwa [homeWaiting_ex])
    have hen' : (homeWaiting h u).energised e = true := by
      unfold State.energised at hen ⊢
      rw [homeWaiting_ex]
      exact hen
    rw [homeWaiting_ex] at horder
    obtain ⟨hwaits, hslots, hkept⟩ := home_waits hframe (by decide) (by decide)
      (gs := .exhibits :: orderFields) (by decide) (by decide)
    exact ⟨_, exec_orderCommand (postAndTake_home hmay huntimed hready haxes), hwaits, (hheld hen').1,
      (hheld hen').2, horder, homeWaiting_otherExhibits.trans hothers, hslots, hkept⟩

end Sys2Proof.Machine
end

section
/-! PROOFS. STOP EXHIBIT and the STOP press (R31, R47, R68, R71, R77, R127). -/

namespace Sys2Proof.Machine

/-! ### A queued start dropped (R75) -/

section
variable (s : State)

/-- The fields that the end of a run or of a queued start changes beside the exhibit's entry. -/
def namingFields : List Field := [.slots, .notice, .routines]

theorem State.modRoutine_keptBut (r : Nat) (f : Routine → Routine) :
    KeptBut [.routines] s (s.modRoutine r f) := by
  intro g hg
  cases g <;> first | rfl | exact absurd List.mem_cons_self hg

theorem decUse_keptBut (r : Nat) : KeptBut namingFields s (decUse r s) := by
  unfold decUse
  dsimp only
  split
  · exact ((State.modRoutine_keptBut s _ _).mono (by decide)).trans ((complete_keptBut _ _ _ _).mono (by decide))
  · exact (State.modRoutine_keptBut s _ _).mono (by decide)

theorem completeOrigin_keptBut (p : Origin) (o : OrderOutcome) (r : Word) :
    KeptBut namingFields s (completeOrigin p o r s) := by
  cases p with
  | press => exact .refl _ _
  | order k => exact (complete_keptBut k o r s).mono (by decide)

theorem dropQueued_keptBut (e : Nat) (o : OrderOutcome) :
    KeptBut (.exhibits :: namingFields) s (dropQueued e o s) := by
  unfold dropQueued
  split
  · exact .refl _ _
  · exact ((State.modEx_keptBut s e _).mono (by decide)).trans <|
      ((decUse_keptBut _ _).mono (by decide)).trans ((completeOrigin_keptBut _ _ _ _).mono (by decide))

/-- A queued start dropped is out of its exhibit's entry alone. -/
theorem dropQueued_ex (e : Nat) (o : OrderOutcome) :
    (dropQueued e o s).ex e = { s.ex e with queued := none } ∧ OtherExhibits e s (dropQueued e o s) := by
  unfold dropQueued
  split
  · next hnone => exact ⟨by rw [← hnone], fun _ _ => rfl⟩
  · next q _ =>
    have hkept : ∀ j, (completeOrigin q.origin o 0
        (decUse q.routine (s.modEx e (fun x => { x with queued := none })))).ex j =
        (s.modEx e (fun x => { x with queued := none })).ex j :=
      ((decUse_keptBut _ _).trans (completeOrigin_keptBut _ _ _ _)).ex (by decide)
    exact ⟨(hkept e).trans (State.modEx_ex_same ..),
      fun j hj => (hkept j).trans (State.modEx_ex_other _ _ _ _ hj)⟩

end

/-! ### A run stopped (R31) -/

section
variable (e : Nat) (s : State)

/-- A RUNNING exhibit whose run is ended, its request withdrawn and its queued start dropped, its axes as yet moving
or not. -/
def stopPrepared (e : Nat) (s : State) : State :=
  dropQueued e .stopped (withdraw e (endRun e .stopped s))

theorem stopPrepared_standing : (stopPrepared e s).standing =
    s.standing.change e (fun x => { x with run := none, queued := none }) := by
  rw [stopPrepared, dropQueued_standing, standing_of_inner (withdraw_inner ..), endRun_standing,
    Standing.change_change]

theorem stopPrepared_own :
    ((stopPrepared e s).ex e).own = { (s.ex e).own with run := none, queued := none } :=
  standing_own (stopPrepared_standing e s)

theorem stopPrepared_axes : ((stopPrepared e s).ex e).axes = (s.ex e).axes := by
  simpa using congrArg Exhibit.axes (stopPrepared_own e s)

theorem stopPrepared_ch (c : Nat) : (stopPrepared e s).ch c = s.ch c :=
  standing_ch (stopPrepared_standing e s) c

/-- A run stopped with an axis moving brakes the exhibit toward READY (R31, R127). -/
theorem stopRunning_moving (hmove : s.anyMoving e = true) :
    stopRunning e false s = enterBraking e .ready none (brakeAxes e (stopPrepared e s)) := by
  have hmove' : (stopPrepared e s).anyMoving e = true :=
    (anyMoving_congr (stopPrepared_axes e s) (stopPrepared_ch e s)).trans hmove
  exact if_pos hmove'

/-- What stopping a run leaves of the exhibit: BRAKING toward READY, without a run or a queued start, each moving
axis braking. -/
theorem stopRunning_brakes (hmove : s.anyMoving e = true) :
    ((stopRunning e false s).ex e).state = .braking ∧ ((stopRunning e false s).ex e).target = some .ready ∧
      ((stopRunning e false s).ex e).run = none ∧ ((stopRunning e false s).ex e).queued = none ∧
      ∀ a ∈ (s.ex e).axes, (s.ch a.channel).state = .moving →
        (stopRunning e false s).ch a.channel = { s.ch a.channel with state := .braking } := by
  have hown := stopPrepared_own e s
  rw [stopRunning_moving e s hmove, enterBraking_brakeAxes_ex]
  refine ⟨rfl, rfl, by simpa using congrArg Exhibit.run hown, by simpa using congrArg Exhibit.queued hown,
    fun a ha hmoving => ?_⟩
  have hch := stopPrepared_ch e s a.channel
  rw [← hch] at hmoving ⊢
  exact enterBraking_brakeAxes_ch _ e _ _ a (by rwa [stopPrepared_axes]) hmoving

end

/-! ### STOP EXHIBIT -/

/-- STOP EXHIBIT is refused in FAULTED, in LOCKED OUT and toward it (R47). -/
theorem stopRefused_of {s : State} {e : Nat}
    (h : (s.ex e).state = .faulted ∨ (s.ex e).state = .lockedOut ∨ (s.ex e).brakingToLock = true) :
    stopRefused s e = true := by
  unfold stopRefused
  rcases h with h | h | h
  · rw [h]
  · rw [h]
  · have hbraking : (s.ex e).state = .braking := by simp_all [Exhibit.brakingToLock]
    rw [hbraking]
    exact h

section
variable {h : OrderHead} {u : State} (hmay : MayOrderExhibit u h) (huntimed : Untimed h)
include hmay huntimed

theorem postAndTake_stop_refused (hrefused : stopRefused u (OrderHead.ex h) = true) :
    postAndTake h .stop u =
      refuseAtTake h.slot.val (hostFieldsOf h .stop) .state 0 (postedAndTaken h .stop u) :=
  postAndTake_of_refuse hmay.1 rfl (takeRefusal_of_mayOrder hmay huntimed rfl rfl rfl) huntimed
    (if_pos hrefused)

/-- What an accepted STOP EXHIBIT comes to. -/
theorem postAndTake_stop (hgo : stopRefused u (OrderHead.ex h) = false) :
    postAndTake h .stop u = stopExhibit (OrderHead.ex h) h.slot.val (accepted h .stop u) :=
  postAndTake_of_go hmay.1 rfl (takeRefusal_of_mayOrder hmay huntimed rfl rfl rfl) huntimed (by decide)
    (if_neg (Bool.eq_false_iff.1 hgo))

end

theorem stopExhibit_ready {e k : Nat} {s : State} (hready : (s.ex e).state = .ready) :
    stopExhibit e k s = complete k .done 0 (dropQueued e .stopped s) := by
  simp only [stopExhibit, hready]

/-- A RUNNING exhibit with an axis moving stops its run; the order waits for READY (R47). -/
theorem stopExhibit_running {e k : Nat} {s : State} (hrunning : (s.ex e).state = .running)
    (hmove : (awaitStop e k s).anyMoving e = true) :
    stopExhibit e k s = stopRunning e false (awaitStop e k s) := by
  have hbraking := (stopRunning_brakes e _ hmove).1
  simp only [stopExhibit, hrunning]
  exact if_pos hbraking

/-- In READY STOP EXHIBIT drops the queued start and is DONE (R47). -/
theorem stop_ready {h : OrderHead} {s : State} (hmay : MayOrderExhibit (settle s) h) (huntimed : Untimed h)
    (hready : ((settle s).ex (OrderHead.ex h)).state = .ready) :
    ∃ t, exec (.stopExhibit h) s = .next t ∧ SlotDone (settle s) t h .stop 0 ∧
      (t.ex (OrderHead.ex h)).state = .ready ∧ (t.ex (OrderHead.ex h)).queued = none ∧
      OtherExhibits (OrderHead.ex h) (settle s) t ∧
      KeptBut ([.exhibits, .routines] ++ orderFields) (settle s) t := by
  obtain ⟨hex, hothers⟩ := dropQueued_ex (accepted h .stop (settle s)) (OrderHead.ex h) .stopped
  have hgo : stopRefused (settle s) (OrderHead.ex h) = false := by simp only [stopRefused, hready]
  refine ⟨_, exec_orderCommand ((postAndTake_stop hmay huntimed hgo).trans (stopExhibit_ready hready)), ?_, ?_,
    ?_, hothers, ?_⟩
  · refine slotDone_of_complete ?_ (outer_lastTaken (dropQueued_outer ..))
    exact (((Lasts.refl _).after_dropQueued _ _).take _).trans (accepted_take h _ _)
  · rw [publish_ex, complete_ex, hex]
    exact hready
  · rw [publish_ex, complete_ex, hex]
  · exact exhibits_publish_complete (dropQueued_keptBut _ _ _) (by decide) (by decide) _ _

/-- In RUNNING with an axis moving STOP EXHIBIT ends the run and brakes toward READY (R47, R31). -/
theorem stop_running {h : OrderHead} {s : State} (hmay : MayOrderExhibit (settle s) h) (huntimed : Untimed h)
    (hrunning : ((settle s).ex (OrderHead.ex h)).state = .running)
    (hmove : (settle s).anyMoving (OrderHead.ex h) = true) :
    ∃ t, exec (.stopExhibit h) s = .next t ∧ (t.ex (OrderHead.ex h)).state = .braking ∧
      (t.ex (OrderHead.ex h)).target = some .ready ∧ (t.ex (OrderHead.ex h)).run = none ∧
      (t.ex (OrderHead.ex h)).queued = none ∧
      (∀ a ∈ ((settle s).ex (OrderHead.ex h)).axes, ((settle s).ch a.channel).state = .moving →
        t.ch a.channel = { (settle s).ch a.channel with state := .braking }) ∧
      KeptBut exhibitFields (settle s) t := by
  have hgo : stopRefused (settle s) (OrderHead.ex h) = false := by simp only [stopRefused, hrunning]
  generalize hw : awaitStop (OrderHead.ex h) h.slot.val (accepted h .stop (settle s)) = w
  have haxes : (w.ex (OrderHead.ex h)).axes = ((settle s).ex (OrderHead.ex h)).axes := by
    rw [← hw, awaitStop, State.modEx_ex_same, accepted_ex]
  have hch : ∀ c, w.ch c = (settle s).ch c := fun c => by rw [← hw, awaitStop, State.modEx_ch, accepted_ch]
  have hmove' : w.anyMoving (OrderHead.ex h) = true := (anyMoving_congr haxes hch).trans hmove
  have hstops : postAndTake h .stop (settle s) = stopRunning (OrderHead.ex h) false w := by
    rw [postAndTake_stop hmay huntimed hgo, ← hw]
    exact stopExhibit_running hrunning (hw ▸ hmove')
  obtain ⟨hstate, htarget, hrun, hqueued, hbrake⟩ := stopRunning_brakes _ w hmove'
  refine ⟨_, exec_orderCommand hstops, hstate, htarget, hrun, hqueued, fun a ha hmoving => ?_, ?_⟩
  · have hbraked := hbrake a (haxes ▸ ha) (by rwa [hch])
    rw [hch] at hbraked
    exact hbraked
  · refine (keptBut_accepted (h := h) (b := .stop) (by decide)).trans (keptBut_of_outer ?_)
    rw [publish_outer, stopRunning_outer, ← hw, awaitStop_outer]

/-! ### Presses that pass their bucket (R66 to R71) -/

section
variable (v : State) (i e : Nat)

/-- A press on input `i` counted, stamped and its token spent, its action still to be applied. -/
def pressPassed (v : State) (i e : Nat) : State :=
  let s := v.modInp i (fun x => { x with accepted := true })
  spendToken e i (s.modInp i (fun x => { x with presses := x.presses + 1, lastEvent := s.tick }))

@[simp] theorem pressPassed_ex (j : Nat) : (pressPassed v i e).ex j = v.ex j := rfl

theorem pressPassed_keptBut : KeptBut [.inputs] v (pressPassed v i e) := by
  unfold pressPassed spendToken
  exact (State.modInp_keptBut _ _ _).trans ((State.modInp_keptBut _ _ _).trans (State.modInp_keptBut _ _ _))

theorem pressPassed_inp_other {j : Nat} (hj : j ≠ i) : (pressPassed v i e).inp j = v.inp j := by
  simp [pressPassed, spendToken, State.modInp_inp_other, hj]

variable {v i e}

theorem pressPassed_inp {b : Bucket} (hbucket : (v.inp i).bucket = some b) :
    (pressPassed v i e).inp i = { v.inp i with
      accepted := true, presses := (v.inp i).presses + 1, lastEvent := v.tick,
      bucket := some (spent v e b) } := by
  simp only [pressPassed, spendToken, State.modInp_inp_same, hbucket]
  rfl

/-- A press that passes is judged by its action, unless that is HELP. -/
theorem inputEvent_press {b : Bucket} (hpass : PressPasses v i e b) (hact : (v.ex e).actionAt i ≠ .help) :
    inputEvent i true v =
      finishPress i (applyAction e i (pressPassed v i e)).2
        (pressRecord (v.modInp i (fun x => { x with accepted := true })) i
          (applyAction e i (pressPassed v i e)).2)
        (applyAction e i (pressPassed v i e)).1 := by
  obtain ⟨howner, hclass, hmode, hbucket, htokens⟩ := hpass
  have hjudged : buttonPress e i ((v.modInp i (fun x => { x with accepted := true })).modInp i
      (fun x => { x with presses := x.presses + 1, lastEvent := v.tick })) =
        applyAction e i (pressPassed v i e) := by
    have htokens' : (((v.modInp i (fun x => { x with accepted := true })).modInp i
        (fun x => { x with presses := x.presses + 1, lastEvent := v.tick })).inp i).tokens ≠ 0 := by
      simpa [Input.tokens, hbucket] using Nat.ne_of_gt htokens
    unfold buttonPress
    rw [if_neg (by simpa using hact), if_neg (by simpa using hmode), if_neg htokens']
    rfl
  have howner' : ((v.modInp i (fun x => { x with accepted := true })).inp i).owner = some e := by
    simpa using howner
  rw [inputEvent_of_class i v true howner hclass, ← hjudged]
  simp only [classEvent, press, howner']
  rfl

/-- The record of a press whose action is no START names no routine. -/
theorem pressRecord_of_other {m : MapEntry} (o : PressOutcome) (howner : (v.inp i).owner = some e)
    (hentry : (v.ex e).entryAt i = some m) (hact : m.action ≠ .start) :
    pressRecord (v.modInp i (fun x => { x with accepted := true })) i o = pressOf v i e o.code 255 := by
  simp [pressRecord, pressOf, howner, hentry, hact]

/-- A press whose action leaves the inputs alone is tallied by its outcome (R66). -/
theorem pressTaken_of_outcome {b : Bucket} {t w : State} {o : PressOutcome} {outcome routine : Nat}
    (hbucket : (v.inp i).bucket = some b) (hw : ∀ j, w.inp j = (pressPassed v i e).inp j)
    (ht : t = placeRecord (pressOf v i e outcome routine) (w.modInp i (tallyPress o)))
    (htally : ∀ x : Input, tallyPress o x = { x with
      acted := x.acted + (if outcome ≤ 3 then 1 else 0),
      declined := x.declined + (if outcome ≤ 3 then 0 else 1), suppressed := x.suppressed + 0 }) :
    PressTaken v (w.modInp i (tallyPress o)) t i e b outcome routine := by
  refine ⟨ht, ?_, fun j hj => ?_⟩
  · rw [State.modInp_inp_same, hw, pressPassed_inp hbucket, htally]
  · rw [State.modInp_inp_other _ _ _ _ hj, hw, pressPassed_inp_other v i e hj]

/-! ### The STOP press -/

section
variable {b : Bucket} {m : MapEntry} (hpass : PressPasses v i e b) (hentry : (v.ex e).entryAt i = some m)
  (hstop : m.action = .stop)
include hpass hentry hstop

/-- A STOP press is recorded with the outcome of its action (R77). -/
theorem inputEvent_stop {w : State} {o : PressOutcome} (ho : o ≠ .suppressed)
    (hpress : stopPress e (pressPassed v i e) = (w, o)) :
    inputEvent i true v = placeRecord (pressOf v i e o.code 255) (w.modInp i (tallyPress o)) := by
  have happly : applyAction e i (pressPassed v i e) = (w, o) := by
    simp only [applyAction, pressPassed_ex, hentry, hstop, hpress]
  rw [inputEvent_press hpass (by simp [Exhibit.actionAt, hentry, hstop]), happly,
    pressRecord_of_other o hpass.1 hentry (by simp [hstop])]
  exact if_neg ho

/-- A STOP press outside RUNNING is declined (R77). -/
theorem stopPress_declined (hnot : (v.ex e).state ≠ .running) :
    ∃ w, PressTaken v w (inputEvent i true v) i e b 5 255 ∧ KeptBut [.inputs] v w := by
  obtain ⟨-, -, -, hbucket, -⟩ := id hpass
  refine ⟨_, pressTaken_of_outcome hbucket (fun _ => rfl)
    (inputEvent_stop hpass hentry hstop (by decide) (if_neg hnot)) fun x => ?_,
    (pressPassed_keptBut v i e).trans (State.modInp_keptBut _ _ _)⟩
  simp [tallyPress]

/-- A STOP press in RUNNING with an axis moving ends the run and brakes toward READY (R77, R31). -/
theorem stopPress_acts (hrunning : (v.ex e).state = .running) (hmove : v.anyMoving e = true) :
    ∃ w, PressTaken v w (inputEvent i true v) i e b 1 255 ∧ (w.ex e).state = .braking ∧
      (w.ex e).target = some .ready ∧ (w.ex e).run = none ∧ (w.ex e).queued = none ∧
      (∀ a ∈ (v.ex e).axes, (v.ch a.channel).state = .moving →
        w.ch a.channel = { v.ch a.channel with state := .braking }) ∧
      KeptBut (.inputs :: exhibitFields) v w := by
  obtain ⟨-, -, -, hbucket, -⟩ := id hpass
  have hmove' : (pressPassed v i e).anyMoving e = true := hmove
  obtain ⟨hstate, htarget, hrun, hqueued, hbrake⟩ := stopRunning_brakes e (pressPassed v i e) hmove'
  have houter := stopRunning_outer e false (pressPassed v i e)
  have hpress : stopPress e (pressPassed v i e) = (stopRunning e false (pressPassed v i e), .acted) :=
    if_pos hrunning
  generalize stopRunning e false (pressPassed v i e) = w at *
  refine ⟨_, pressTaken_of_outcome (o := .acted) hbucket (fun j => outer_inp houter j)
    (inputEvent_stop hpass hentry hstop (by decide) hpress) fun x => ?_, hstate, htarget, hrun,
    hqueued, hbrake, ?_⟩
  · simp [tallyPress]
  · exact ((pressPassed_keptBut v i e).mono (by decide)).trans <|
      ((keptBut_of_outer houter).mono (by decide)).trans ((State.modInp_keptBut _ _ _).mono (by decide))

end

end

/-- Settles O30: the order and the press share what stopping a run does; the other states refuse or decline. -/
theorem stopExhibitEndsTheRun : Obligations.StopExhibitEndsTheRun := by
  constructor
  · intro h s u e hmay huntimed
    exact ⟨fun hrefused => ⟨_, exec_orderCommand
        (postAndTake_stop_refused hmay huntimed (stopRefused_of hrefused)), refusedOnly_of_refuseAtTake (by decide)⟩,
      fun hready => stop_ready hmay huntimed hready,
      fun hrunning hmove => stop_running hmay huntimed hrunning hmove⟩
  · intro v i e b m x hpass hentry hstop
    exact ⟨fun hnot => stopPress_declined hpass hentry hstop hnot,
      fun hrunning hmove => stopPress_acts hpass hentry hstop hrunning hmove⟩

end Sys2Proof.Machine
end

section
/-! PROOFS. The rest timer and the mats (R32 to R35, R79). -/

namespace Sys2Proof.Machine

/-! ### The rest timer due (R33) -/

section
variable (e : Nat) (s : State)

/-- A READY exhibit whose rest timer is due goes to RESTING (R33). -/
theorem restExpired_of_due (hready : (s.ex e).state = .ready) (hdue : dueNow s.tick (s.ex e).restTimer = true) :
    restExpired e s = enter e .resting (returnAll e (deenergiseAxes e s)) := if_pos ⟨hready, hdue⟩

theorem restExpired_of_not (hnot : (s.ex e).state ≠ .ready ∨ dueNow s.tick (s.ex e).restTimer = false) :
    restExpired e s = s := by
  refine if_neg ?_
  rintro ⟨hready, hdue⟩
  rcases hnot with h | h
  · exact h hready
  · rw [h] at hdue
    exact absurd hdue (by decide)

/-- What entering RESTING leaves of the exhibit: no timer, its axes de-energised, its units returned. -/
theorem restEntered_ex :
    let t := enter e .resting (returnAll e (deenergiseAxes e s))
    (t.ex e).state = .resting ∧ (t.ex e).restTimer = none ∧ (t.ex e).queued = (s.ex e).queued ∧
      (∀ a ∈ (s.ex e).axes, (t.ch a.channel).energised = false) ∧
      ((s.ex e).axes ≠ [] → s.request e = none → (t.ex e).units = 0) := by
  intro t
  have hex : t.ex e = _ := enter_ex ..
  have hown : ((returnAll e (deenergiseAxes e s)).ex e).own = (s.ex e).own := by
    rw [inner_own (returnAll_inner ..), deenergiseAxes, modAxes_ex]
  rw [hex]
  refine ⟨rfl, rfl, by simpa using congrArg Exhibit.queued hown, fun a ha => ?_, fun haxes hreq => ?_⟩
  · have hch : t.ch a.channel = (deenergiseAxes e s).ch a.channel := inner_ch (returnAll_inner ..) _
    rw [hch]
    exact deenergiseAxes_ch e s a ha
  · refine returnAll_units e (deenergiseAxes e s) ?_ ((deenergiseAxes_request e s).trans hreq)
    rw [deenergiseAxes, modAxes_ex]
    exact haxes

theorem restEntered_keptBut :
    KeptBut [.exhibits, .channels, .groups, .handed, .views, .notice] s
      (enter e .resting (returnAll e (deenergiseAxes e s))) :=
  ((modAxes_keptBut s e _).mono (by decide)).trans <|
    ((returnUnits_keptBut _ e _).mono (by decide)).trans ((enter_keptBut _ e _).mono (by decide))

end

/-! ### Notices that stand -/

section
variable {s : State} {n : Nat} (h : s.notice.getLsbD n = true)
include h

/-- An evaluation clears no notice (R181). -/
theorem evaluate_notice (g : Nat) : (evaluate g s).notice.getLsbD n = true := by
  refine evaluate_induct (P := fun u => u.notice.getLsbD n = true) h fun u r _ hu => ?_
  have hnotice : (book g r u).notice = u.notice ||| noticeExhibits := rfl
  simp [hnotice, hu]

theorem withdraw_notice (e : Nat) : (withdraw e s).notice.getLsbD n = true := by
  unfold withdraw
  split
  · exact h
  · exact evaluate_notice (by simp [setNotice, h]) _

end

/-! ### Waking (R34, R35) -/

section
variable (e : Nat) (s : State)

/-- A RESTING exhibit about to ask for its wake units. -/
def wakeAsking (e : Nat) (s : State) : State :=
  publishExhibit e ((withdraw e s).modEx e (fun x => { x with wakePending := true }))

theorem wakeAsking_own : ((wakeAsking e s).ex e).own = { (s.ex e).own with wakePending := true } := by
  rw [wakeAsking, publishExhibit_ex, State.modEx_ex_same]
  exact congrArg (fun x : Exhibit => { x with wakePending := true }) (inner_own (withdraw_inner e s) e)

theorem wakeAsking_axes : ((wakeAsking e s).ex e).axes = (s.ex e).axes := by
  simpa using congrArg Exhibit.axes (wakeAsking_own e s)

theorem wakeAsking_budget :
    ((wakeAsking e s).group ((wakeAsking e s).ex e).group).budget = (s.group (s.ex e).group).budget := by
  rw [group_congr (wakeAsking_axes e s)]
  exact withdraw_budget e s _

theorem wakeAsking_handed : ∃ l, (wakeAsking e s).handed = s.handed ++ l := withdraw_handed e s

theorem wakeAsking_keptBut : KeptBut [.exhibits, .groups, .handed, .views, .notice] s (wakeAsking e s) :=
  ((withdraw_keptBut s e).mono (by decide)).trans <|
    ((State.modEx_keptBut _ e _).mono (by decide)).trans ((publishExhibit_keptBut _ e).mono (by decide))

/-- The wake units of an exhibit with axes and no queued start (R35). -/
theorem wakeUnits_of_none (haxes : (s.ex e).axes ≠ []) (hqueued : (s.ex e).queued = none) :
    wakeUnits s e = if (s.ex e).rest.rehome then (s.ex e).allRunLoads else (s.ex e).holdUnits := by
  simp [wakeUnits, haxes, hqueued]

/-- Beside a hold reason nothing wakes (R34). -/
theorem wake_of_held (hhold : (s.ex e).hold.isEmpty = false) : wake e s = s := if_pos (.inr hhold)

section
variable (hresting : (s.ex e).state = .resting) (hhold : (s.ex e).hold = ⟨false, false, false⟩)
  (hpending : (s.ex e).wakePending = false)
include hresting hhold hpending

/-- A RESTING exhibit that wakes asks for its wake units where they are not zero. -/
theorem wake_asks (hunits : wakeUnits s e ≠ 0) :
    wake e s =
      if (request e (wakeUnits s e) .wake (wakeAsking e s)).2 then
        wakeRefused e (request e (wakeUnits s e) .wake (wakeAsking e s)).1
      else (request e (wakeUnits s e) .wake (wakeAsking e s)).1 := by
  unfold wake
  dsimp only
  rw [if_neg (by simp [hresting, hhold, HoldReasons.isEmpty]), if_neg (by simp [hpending]), if_neg hunits]
  rfl

/-- Wake units that the group can serve are asked for (R34, R35). -/
theorem wake_within (haxes : (s.ex e).axes ≠ []) (hbudget : WithinBudget s e (wakeUnits s e)) :
    ((wake e s).ex e).state = .resting ∧ ((wake e s).ex e).wakePending = true ∧
      Asked s (wake e s) e (wakeUnits s e) .wake ∧
      KeptBut [.exhibits, .groups, .handed, .views, .notice] s (wake e s) := by
  have hwithin : wakeUnits s e ≤ ((wakeAsking e s).group ((wakeAsking e s).ex e).group).budget := by
    rw [wakeAsking_budget]
    exact hbudget.2
  have hasks : wake e s = (request e (wakeUnits s e) .wake (wakeAsking e s)).1 := by
    rw [wake_asks e s hresting hhold hpending (Nat.pos_iff_ne_zero.1 hbudget.1), request_within e _ hwithin]
    rfl
  have hown : ((wake e s).ex e).own = { (s.ex e).own with wakePending := true } := by
    rw [hasks, inner_own (request_inner ..), wakeAsking_own]
  refine ⟨?_, by simpa using congrArg Exhibit.wakePending hown, ?_, ?_⟩
  · simpa [hresting] using congrArg Exhibit.state hown
  · rw [hasks]
    exact (request_asked e _ (by rwa [wakeAsking_axes]) hwithin).since (wakeAsking_handed e s)
  · rw [hasks]
    exact (wakeAsking_keptBut e s).trans ((request_keptBut _ _ _ _).mono (by decide))

/-- Wake units over the budget leave the exhibit RESTING, and the refusal is noticed (R35, R139). -/
theorem wake_over (hqueued : (s.ex e).queued = none)
    (hover : (s.group (s.ex e).group).budget < wakeUnits s e) :
    ((wake e s).ex e).state = .resting ∧ ((wake e s).ex e).wakePending = false ∧
      (wake e s).notice.getLsbD 3 = true := by
  have hrefused : wake e s = wakeRefused e (withdraw e (setNotice noticeExhibits (wakeAsking e s))) := by
    rw [wake_asks e s hresting hhold hpending (Nat.ne_of_gt (Nat.zero_lt_of_lt hover)),
      request_over e _ (by rwa [wakeAsking_budget])]
    rfl
  have hown : ((withdraw e (setNotice noticeExhibits (wakeAsking e s))).ex e).own =
      { (s.ex e).own with wakePending := true } :=
    (inner_own ((withdraw_inner ..).trans (setNotice_inner ..)) e).trans (wakeAsking_own e s)
  have hnotice : (withdraw e (setNotice noticeExhibits (wakeAsking e s))).notice.getLsbD 3 = true :=
    withdraw_notice (by simp [setNotice, noticeExhibits]) e
  generalize withdraw e (setNotice noticeExhibits (wakeAsking e s)) = w at hrefused hown hnotice
  have hnone : (w.ex e).queued = none := by simpa [hqueued] using congrArg Exhibit.queued hown
  have hstate : (w.ex e).state = .resting := by simpa [hresting] using congrArg Exhibit.state hown
  have hdropped : wakeRefused e w = w.modEx e (fun x => { x with wakePending := false }) := by
    simp [wakeRefused, dropQueued, hnone]
  rw [hrefused, hdropped, State.modEx_ex_same]
  exact ⟨hstate, rfl, hnotice⟩

end

end

/-! ### Mats (R79) -/

section
variable {v : State} {i e : Nat} (howner : (v.inp i).owner = some e) (hclass : v.classOf i = some .mat)
include howner hclass

theorem inputEvent_matOn : inputEvent i true v = matOn e (activated i v) :=
  inputEvent_of_class i v true howner hclass

theorem inputEvent_matOff : inputEvent i false v = matOff e (deactivated i v) :=
  inputEvent_of_class i v false howner hclass

/-- A mat's activation stops the rest timer of a READY exhibit (R79, R32). -/
theorem mat_stopsTimer (hready : (v.ex e).state = .ready) :
    (inputEvent i true v).ex e = { v.ex e with restTimer := none } ∧
      OtherExhibits e v (inputEvent i true v) ∧ KeptBut [.inputs, .exhibits] v (inputEvent i true v) := by
  have hstops : inputEvent i true v = (activated i v).modEx e (fun x => { x with restTimer := none }) := by
    rw [inputEvent_matOn howner hclass]
    simp only [matOn, activated_ex, hready]
  rw [hstops, State.modEx_ex_same]
  exact ⟨rfl, State.modEx_otherExhibits e (activated i v) _,
    ((activated_keptBut i v).mono (by decide)).trans ((State.modEx_keptBut _ _ _).mono (by decide))⟩

/-- A mat's activation wakes a RESTING exhibit (R79, R34). -/
theorem mat_wakes (hresting : (v.ex e).state = .resting) : inputEvent i true v = wake e (activated i v) := by
  rw [inputEvent_matOn howner hclass]
  simp only [matOn, activated_ex, hresting]

/-- Elsewhere, and beside a hold reason in RESTING, a mat's activation is recorded only (R79). -/
theorem mat_recorded (hother : ((v.ex e).state ≠ .ready ∧ (v.ex e).state ≠ .resting) ∨
      ((v.ex e).state = .resting ∧ (v.ex e).hold.isEmpty = false)) :
    KeptBut [.inputs] v (inputEvent i true v) := by
  have hrecorded : inputEvent i true v = activated i v := by
    rcases hother with ⟨hready, hresting⟩ | ⟨hresting, hhold⟩
    · rw [inputEvent_matOn howner hclass]
      unfold matOn
      split
      · next h => exact absurd h hready
      · next h => exact absurd h hresting
      · rfl
    · rw [mat_wakes howner hclass hresting, wake_of_held e (activated i v) hhold]
  rw [hrecorded]
  exact activated_keptBut i v

/-- The last mat's deactivation starts a READY exhibit's rest timer, where its delay is not zero (R79, R32). -/
theorem mat_startsTimer (hready : (v.ex e).state = .ready) (hquiet : (deactivated i v).matActive e = false) :
    (inputEvent i false v).ex e = { v.ex e with
        restTimer := if (v.ex e).rest.delay = 0 then (v.ex e).restTimer
          else some (after v.tick ((v.ex e).rest.delay * 1000)) } ∧
      OtherExhibits e v (inputEvent i false v) ∧ KeptBut [.inputs, .exhibits] v (inputEvent i false v) := by
  have hstarts : inputEvent i false v = startRest e (deactivated i v) :=
    (inputEvent_matOff howner hclass).trans (if_pos ⟨hready, hquiet⟩)
  rw [hstarts]
  refine ⟨?_, startRest_otherExhibits e (deactivated i v),
    ((deactivated_keptBut i v).mono (by decide)).trans ((startRest_keptBut _ _).mono (by decide))⟩
  by_cases hdelay : (v.ex e).rest.delay = 0
  · have hidle : startRest e (deactivated i v) = deactivated i v := if_neg fun h => h.1 hdelay
    rw [hidle, if_pos hdelay, deactivated_ex]
  · have hstarted : startRest e (deactivated i v) = (deactivated i v).modEx e
        (fun x => { x with restTimer := some (after v.tick (x.rest.delay * 1000)) }) :=
      if_pos ⟨hdelay, hquiet⟩
    rw [hstarted, if_neg hdelay, State.modEx_ex_same]
    rfl

/-- A mat's deactivation outside READY, or with another mat active, is recorded only (R79). -/
theorem mat_offRecorded (hother : (v.ex e).state ≠ .ready ∨ (deactivated i v).matActive e = true) :
    inputEvent i false v = deactivated i v := by
  rw [inputEvent_matOff howner hclass]
  refine if_neg ?_
  rintro ⟨hready, hquiet⟩
  rcases hother with h | h
  · exact h hready
  · rw [h] at hquiet
    exact absurd hquiet (by decide)

end

/-- Settles O48: the timer's expiry enters RESTING; a mat stops, wakes or starts by the exhibit's state. -/
theorem restTimerPutsToRest : Obligations.RestTimerPutsToRest := by
  constructor
  · intro e s u
    refine ⟨fun hready hdue => ?_, fun hnot => ?_⟩
    · obtain ⟨hstate, htimer, hqueued, hch, hunits⟩ := restEntered_ex e.val u
      refine ⟨publish (restExpired e.val u), rfl, ?_⟩
      rw [restExpired_of_due e.val u hready hdue]
      exact ⟨hstate, htimer, hqueued, hch, hunits,
        (restEntered_keptBut e.val u).trans ((publish_keptBut _).mono (by decide))⟩
    · have hexec : exec (.restTimerExpiry e) s = .next (publish (restExpired e.val u)) := rfl
      rw [hexec, restExpired_of_not e.val u hnot]
  · intro v i e x t units howner hclass
    have houter : t.outer = (activated i v).outer := by
      rw [show t = matOn e (activated i v) from inputEvent_matOn howner hclass, matOn_outer]
    refine ⟨inputs_of_activated i v houter, fun hready => mat_stopsTimer howner hclass hready,
      fun hother => mat_recorded howner hclass hother, fun hresting hhold hpending hqueued haxes => ?_, ?_⟩
    · have hwakes : t = wake e (activated i v) := mat_wakes howner hclass hresting
      have hunits : wakeUnits (activated i v) e = units := wakeUnits_of_none e (activated i v) haxes hqueued
      rw [hwakes, ← hunits]
      refine ⟨fun hbudget => ?_, fun hover => ?_⟩
      · obtain ⟨hstate, hwake, hasked, hframe⟩ := wake_within e (activated i v) hresting hhold hpending haxes hbudget
        exact ⟨hstate, hwake, hasked.since ⟨[], (List.append_nil _).symm⟩,
          ((activated_keptBut i v).mono (by decide)).trans (hframe.mono (by decide))⟩
      · exact wake_over e (activated i v) hresting hhold hpending hqueued hover
    · intro w
      refine ⟨fun hother => mat_offRecorded howner hclass hother, fun hready hquiet => ?_⟩
      obtain ⟨hex, hothers, hframe⟩ := mat_startsTimer howner hclass hready hquiet
      have hinputs : ∀ j, (inputEvent i false v).inp j = w.inp j := fun j => by
        rw [inputEvent_matOff howner hclass, outer_inp (matOff_outer ..)]
        rfl
      exact ⟨_, rfl, hinputs i, fun j hj => (hinputs j).trans (State.modInp_inp_other _ _ _ _ hj), hex, hothers,
        hframe⟩

end Sys2Proof.Machine
end

section
/-! PROOFS. POLL goes round the present mask with the lamp levels of the node polled (R49, R50, R51). -/

namespace Sys2Proof.Machine

/-! ### The next node polled -/

theorem addresses_eq : addresses = List.range' 1 32 := rfl

/-- The first address that passes a test: it is one of the 32, and no lower one passes. -/
theorem addresses_find?_eq_some {p : Nat → Bool} {n : Nat} :
    addresses.find? p = some n ↔ p n = true ∧ (1 ≤ n ∧ n ≤ 32) ∧ ∀ j, 1 ≤ j → j < n → p j = false := by
  rw [addresses_eq, List.find?_range'_eq_some]
  simp [List.mem_range'_1, Nat.lt_succ_iff]

theorem addresses_find?_eq_none {p : Nat → Bool} :
    addresses.find? p = none ↔ ∀ j, 1 ≤ j → j ≤ 32 → p j = false := by
  rw [addresses_eq, List.find?_eq_none]
  simp [List.mem_range'_1, Nat.lt_succ_iff]

theorem present_of_pos (m : Word) {n : Nat} (hn : 1 ≤ n) : present m n = m.getLsbD (n - 1) := by
  simp [present, hn]

/-- A mask that is not empty has a present address (R48). -/
theorem exists_present {m : Word} (hm : m ≠ 0) : ∃ n, 1 ≤ n ∧ n ≤ 32 ∧ present m n = true := by
  by_contra hnone
  refine hm (BitVec.eq_of_getLsbD_eq fun k hk => ?_)
  have habsent : present m (k + 1) ≠ true := fun hp => hnone ⟨k + 1, by omega, by omega, hp⟩
  simpa [present] using habsent

/-- With a node present one is polled next. -/
theorem exists_nextNode {m : Word} (pos : Nat) (hm : m ≠ 0) : ∃ n, nextNode m pos = some n := by
  unfold nextNode
  split
  · exact ⟨_, rfl⟩
  · obtain ⟨n, hpos, hle, hpresent⟩ := exists_present hm
    refine Option.ne_none_iff_exists'.1 fun hnone => ?_
    rw [addresses_find?_eq_none.1 hnone n hpos hle] at hpresent
    exact absurd hpresent (by decide)

theorem nextNode_empty (pos : Nat) : nextNode 0 pos = none := by
  have hnone (p : Nat → Bool) (hp : ∀ n, p n = true → present 0 n = true) : addresses.find? p = none :=
    addresses_find?_eq_none.2 fun j _ _ => Bool.eq_false_iff.2 fun hj => by simpa [present] using hp j hj
  unfold nextNode
  rw [hnone _ fun n hn => by simp_all, hnone _ fun n hn => hn]

/-- The next node polled is the lowest present address above the last, or the lowest present one (R49). -/
theorem nextNode_spec {m : Word} {pos n : Nat} (h : nextNode m pos = some n) :
    1 ≤ n ∧ n ≤ 32 ∧ m.getLsbD (n - 1) = true ∧
      ((pos < n ∧ ∀ j, pos < j → j < n → m.getLsbD (j - 1) = false) ∨
        ((∀ j, 1 ≤ j → pos < j → j ≤ 32 → m.getLsbD (j - 1) = false) ∧
          ∀ j, 1 ≤ j → j < n → m.getLsbD (j - 1) = false)) := by
  unfold nextNode at h
  split at h
  · next k hfind =>
    obtain rfl := Option.some.inj h
    obtain ⟨htest, ⟨hlow, hhigh⟩, hleast⟩ := addresses_find?_eq_some.1 hfind
    rw [Bool.and_eq_true, decide_eq_true_eq, present_of_pos m hlow] at htest
    refine ⟨hlow, hhigh, htest.2, .inl ⟨htest.1, fun j hj hjk => ?_⟩⟩
    have hj1 : 1 ≤ j := by omega
    simpa [hj, present_of_pos m hj1] using hleast j hj1 hjk
  · next hfind =>
    obtain ⟨htest, ⟨hlow, hhigh⟩, hleast⟩ := addresses_find?_eq_some.1 h
    rw [present_of_pos m hlow] at htest
    refine ⟨hlow, hhigh, htest, .inr ⟨fun j hj1 hj hj32 => ?_, fun j hj1 hjn => ?_⟩⟩
    · simpa [hj, present_of_pos m hj1] using addresses_find?_eq_none.1 hfind j hj1 hj32
    · rw [← present_of_pos m hj1]
      exact hleast j hj1 hjn

/-! ### The frame (R50) -/

/-- A sum of flags at their bit positions has each flag at its bit. -/
theorem sum_bitAt_testBit (f : Nat → Bool) (n : Nat) :
    ((List.range n).map (fun k => bitAt k (f k))).sum < 2 ^ n ∧
      ∀ k, k < n → (((List.range n).map (fun k => bitAt k (f k))).sum).testBit k = f k := by
  induction n with
  | zero => simp
  | succ n ih =>
    obtain ⟨hlt, hbits⟩ := ih
    rw [List.range_succ, List.map_append, List.sum_append, List.map_singleton, List.sum_singleton]
    generalize ((List.range n).map (fun k => bitAt k (f k))).sum = low at hlt hbits
    have hsum : low + bitAt n (f n) = 2 ^ n * (f n).toNat + low := by
      cases f n <;> simp [bitAt, Nat.add_comm]
    refine ⟨?_, fun k hk => ?_⟩
    · rw [hsum, Nat.pow_succ]
      have := Bool.toNat_le (f n)
      nlinarith
    · rw [hsum, Nat.testBit_two_pow_mul_add _ hlt]
      rcases Nat.lt_succ_iff_lt_or_eq.1 hk with hlow | rfl
      · simp [hlow, hbits k hlow]
      · cases f k <;> simp

/-- Each bit of the lamp byte is the lamp level at its input's position (R50). -/
theorem lampByte_getLsbD (s : State) (n k : Nat) (hk : k < 8) :
    (lampByte s n).getLsbD k = lampAt s (8 * (n - 1) + k) := by
  rw [lampByte, BitVec.getLsbD_ofNat, (sum_bitAt_testBit _ 8).2 k hk]
  simp [hk, inputOf]

theorem checkByte_sum (a b : Byte) : a + b + checkByte [a, b] = 0 := by
  simp [checkByte]

/-! ### POLL -/

theorem sendPoll_sends {u : State} {n : Nat} (hwindow : u.window = none)
    (hnext : nextNode u.linkMask u.pollPos = some n) :
    sendPoll u = { u with pollPos := n, window := some ⟨n, u.linkTimeout, []⟩,
                          linkTx := pollFrame n (lampByte u n) } := by
  simp only [sendPoll, hwindow, hnext]

theorem sendPoll_waits {u : State} (h : u.window.isSome = true ∨ u.linkMask = 0) : sendPoll u = u := by
  unfold sendPoll
  split
  · next hwindow hnext =>
    rcases h with h | h
    · simp [hwindow] at h
    · rw [h, nextNode_empty] at hnext
      exact absurd hnext (by simp)
  · rfl

theorem sendPoll_keptBut (u : State) : KeptBut [.pollPos, .window, .linkTx] u (sendPoll u) := by
  unfold sendPoll
  split
  · intro g hg
    cases g <;> first | rfl | exact absurd (by decide) hg
  · exact .refl _ _

/-- Settles O44: the search over the 32 addresses finds the next node, and the lamp byte holds one flag for each
of its inputs. -/
theorem pollGoesRound : Obligations.PollGoesRound := by
  intro s u
  refine ⟨fun hwindow hmask => ?_, fun hwaits => ?_⟩
  · obtain ⟨n, hnext⟩ := exists_nextNode u.pollPos hmask
    obtain ⟨hlow, hhigh, hpresent, hround⟩ := nextNode_spec hnext
    have hsent := sendPoll_sends hwindow hnext
    refine ⟨n, publish (sendPoll u), lampByte u n, checkByte [BitVec.ofNat 8 n, lampByte u n], rfl, hlow, hhigh,
      hpresent, hround, ?_, ?_, ?_, checkByte_sum _ _, fun k hk => lampByte_getLsbD u n k hk, ?_⟩
    · rw [publish_pollPos, hsent]
    · rw [publish_window, hsent]
    · rw [publish_linkTx, hsent]; rfl
    · exact ((sendPoll_keptBut u).mono (by decide)).trans ((publish_keptBut _).mono (by decide))
  · have hexec : exec .poll s = .next (publish (sendPoll u)) := rfl
    rw [hexec, sendPoll_waits hwaits]

end Sys2Proof.Machine
end

section
/-! PROOFS. What an event of the exhibits or of the input unit can do: a chain of single updates, none of which
clears a notice, undoes the take of a slot, or changes an input's record in the link controller (R48, R181). -/

namespace Sys2Proof.Machine

/-! ### A chain of updates -/

/-- What the link controller keeps of an input beside its accepted level (R48), with the input's owner. -/
def Input.line (x : Input) : Option Nat × Bool × Nat := (x.owner, x.debounced, x.agree)

/-- A state comes from another by single updates that the exhibits, the blocks they act on and the input unit make;
the accepted level is changed of the inputs in `A` alone. -/
inductive Worked (A : Set Nat) (u : State) : State → Prop
  | refl : Worked A u u
  | after_modEx {s} (h : Worked A u s) (e : Nat) (f : Exhibit → Exhibit) : Worked A u (s.modEx e f)
  | after_modCh {s} (h : Worked A u s) (c : Nat) (f : Channel → Channel) : Worked A u (s.modCh c f)
  | after_modRoutine {s} (h : Worked A u s) (r : Nat) (f : Routine → Routine) : Worked A u (s.modRoutine r f)
  | after_modGroup {s} (h : Worked A u s) (g : Nat) (f : Group → Group) : Worked A u (s.modGroup g f)
  | after_modCall {s} (h : Worked A u s) (n : Nat) (f : CallEntry → CallEntry) : Worked A u (s.modCall n f)
  | after_modBeacon {s} (h : Worked A u s) (b : Nat) (f : Beacon → Beacon) : Worked A u (s.modBeacon b f)
  | after_handed {s} (h : Worked A u s) (l : List Handed) : Worked A u { s with handed := l }
  | after_cues {s} (h : Worked A u s) (l : Tab (Option Tick)) : Worked A u { s with cues := l }
  | after_notice {s} (h : Worked A u s) (n : BitVec 6) : Worked A u (setNotice n s)
  | after_complete {s} (h : Worked A u s) (k : Nat) (o : OrderOutcome) (r : Word) : Worked A u (complete k o r s)
  | after_publish {s} (h : Worked A u s) : Worked A u (publish s)
  | after_publishExhibit {s} (h : Worked A u s) (e : Nat) : Worked A u (publishExhibit e s)
  | after_modInp {s} (h : Worked A u s) (i : Nat) (f : Input → Input) (hline : ∀ x, (f x).line = x.line)
      (hlevel : i ∈ A ∨ ∀ x, (f x).accepted = x.accepted) : Worked A u (s.modInp i f)
  | after_journal {s} (h : Worked A u s) (pages : Tab Page) (cur last : Option Nat) (seq : Half)
      (linger : Option Tick) : Worked A u { s with
        pages := pages, curPage := cur, lastPage := last, nextSeq := seq, linger := linger }

/-- The fields that a chain of these updates may change. -/
def eventFields : List Field := exhibitFields ++ [.inputs, .pages, .curPage, .lastPage, .nextSeq, .linger]

namespace Worked

variable {A : Set Nat}

/-! ### What a chain keeps -/

section
variable {u t : State} (h : Worked A u t)
include h

/-- No notice is cleared (R181). -/
theorem notice {n : Nat} (hn : u.notice.getLsbD n = true) : t.notice.getLsbD n = true := by
  induction h with
  | refl => exact hn
  | after_notice _ _ ih => simp [setNotice, ih]
  | after_complete _ _ _ _ ih => simp [ih]
  | after_publish _ ih => exact publish_notice_of _ _ ih
  | after_publishExhibit _ _ ih => simp [publishExhibit, ih]
  | _ => assumption

/-- What a take wrote in each slot stands. -/
theorem take (j : Nat) : (t.slot j).take = (u.slot j).take := by
  induction h with
  | refl => rfl
  | after_complete _ k o r ih => exact (complete_take k o r _ j).trans ih
  | _ => assumption

/-- The link controller's record of each input stands but for the accepted level. -/
theorem line (j : Nat) : (t.inp j).line = (u.inp j).line := by
  induction h with
  | refl => rfl
  | @after_modInp s _ i f hline _ ih =>
    by_cases hj : j = i
    · subst hj; rw [State.modInp_inp_same, hline, ih]
    · rw [State.modInp_inp_other _ _ _ _ hj, ih]
  | _ => assumption

/-- The accepted level of an input outside the set stands. -/
theorem accepted {j : Nat} (hj : j ∉ A) : (t.inp j).accepted = (u.inp j).accepted := by
  induction h with
  | refl => rfl
  | @after_modInp s _ i f _ hlevel ih =>
    by_cases hji : j = i
    · subst hji; rw [State.modInp_inp_same, hlevel.resolve_left hj, ih]
    · rw [State.modInp_inp_other _ _ _ _ hji, ih]
  | _ => assumption

/-- Every field but those of the exhibits, the input unit and the journal stands. -/
theorem keptBut : KeptBut eventFields u t := by
  have hstep : ∀ {s v : State} {fs : List Field}, KeptBut eventFields u s → KeptBut fs s v →
      fs ⊆ eventFields → KeptBut eventFields u v := fun hu hv hsub => hu.trans (hv.mono hsub)
  induction h with
  | refl => exact .refl _ _
  | after_modEx _ e f ih => exact hstep ih (State.modEx_keptBut _ e f) (by decide)
  | after_modCh _ c f ih => exact hstep ih (State.modCh_keptBut _ c f) (by decide)
  | after_modRoutine _ r f ih => exact hstep ih (State.modRoutine_keptBut _ r f) (by decide)
  | after_modGroup _ g f ih => exact hstep ih (State.modGroup_keptBut _ g f) (by decide)
  | after_modCall _ n f ih => exact hstep ih (State.modCall_keptBut _ n f) (by decide)
  | after_modBeacon _ b f ih => exact hstep ih (State.modBeacon_keptBut _ b f) (by decide)
  | after_handed _ l ih => exact hstep ih (with_handed_keptBut _ l) (by decide)
  | after_cues _ l ih =>
    refine ih.trans fun f hf => ?_
    cases f <;> first | rfl | exact absurd (by decide) hf
  | after_notice _ n ih => exact hstep ih (setNotice_keptBut n _) (by decide)
  | after_complete _ k o r ih => exact hstep ih (complete_keptBut k o r _) (by decide)
  | after_publish _ ih => exact hstep ih (publish_keptBut _) (by decide)
  | after_publishExhibit _ e ih => exact hstep ih (publishExhibit_keptBut _ e) (by decide)
  | after_modInp _ i f _ _ ih => exact hstep ih (State.modInp_keptBut _ i f) (by decide)
  | after_journal _ p c l q g ih =>
    refine ih.trans fun f hf => ?_
    cases f <;> first | rfl | exact absurd (by decide) hf

end

/-- A fold of operations that lengthen a chain. -/
theorem after_foldl {α : Type} {u s : State} (h : Worked A u s) (f : State → α → State) (l : List α)
    (hf : ∀ {s} a, Worked A u s → Worked A u (f s a)) : Worked A u (l.foldl f s) := by
  induction l generalizing s with
  | nil => exact h
  | cons a l ih => exact ih (hf a h)

/-! ### The load arbiter -/

section
variable {u s : State} (h : Worked A u s) (e : Nat)
include h

theorem after_evaluate (g : Nat) : Worked A u (evaluate g s) :=
  evaluate_induct h fun _ r _ hu => (((hu.after_modGroup g _).after_modEx r.ex _).after_notice _).after_handed _

theorem after_withdraw : Worked A u (withdraw e s) := by
  unfold withdraw
  split
  · exact h
  · exact ((h.after_modGroup _ _).after_notice _).after_evaluate _

theorem after_request (n : Nat) (p : Purpose) : Worked A u (request e n p s).1 := by
  unfold request
  dsimp only
  split
  · exact (h.after_notice _).after_withdraw e
  · exact ((h.after_modGroup _ _).after_notice _).after_evaluate _

theorem after_returnUnits (n : Nat) : Worked A u (returnUnits e n s) := by
  unfold returnUnits
  split
  · exact h
  · exact (((h.after_modEx e _).after_modGroup _ _).after_notice _).after_evaluate _

theorem after_returnRun : Worked A u (returnRun e s) := h.after_returnUnits e _

theorem after_returnAll : Worked A u (returnAll e s) := h.after_returnUnits e _

/-! ### The call unit -/

theorem after_rechooseFor (l : List Nat) : Worked A u (rechooseFor l s) :=
  h.after_foldl _ _ fun b hu => by
    split
    · exact hu.after_modBeacon b _
    · exact hu

theorem after_enterCall (n : Nat) (c : Cause) (p : Pending) : Worked A u (enterCall n e c p s) :=
  ((h.after_modCall n _).after_modEx e _).after_rechooseFor _

theorem after_removeCause (c : Cause) : Worked A u (removeCause e c s) := by
  unfold removeCause
  split
  · exact h
  · exact h.after_modEx e _
  · unfold freeEntry
    split
    · exact h.after_modEx e _
    · exact ((h.after_modEx e _).after_modCall _ _).after_rechooseFor _

omit h in
theorem after_fillEntries (k : Nat) {s : State} (h : Worked A u s) : Worked A u (fillEntries k s) := by
  induction k generalizing s with
  | zero => exact h
  | succ k ih =>
    unfold fillEntries
    split
    · dsimp only
      split
      · exact ih ((h.after_enterCall _ _ _ _).after_removeCause _ _)
      · exact ih (h.after_enterCall _ _ _ _)
    · exact h

theorem after_clearCausesOf (es : List Nat) (cs : List Cause) : Worked A u (clearCausesOf es cs s) :=
  after_fillEntries _ (h.after_foldl _ es fun e hu => hu.after_foldl _ cs fun c hv => hv.after_removeCause e c)

theorem after_clearCauses (cs : List Cause) : Worked A u (clearCauses e cs s) := h.after_clearCausesOf [e] cs

theorem after_raiseCause (c : Cause) (v : Nat) : Worked A u (raiseCause e c v s) := by
  unfold raiseCause
  dsimp only
  split
  · split
    · exact h.after_enterCall ..
    · exact h.after_modEx e _
  · exact h.after_modEx e _
  · split
    · exact h
    · exact (h.after_modCall _ _).after_rechooseFor _

theorem after_ackEntry (n : Nat) (src : AckSource) (tag : Byte) : Worked A u (ackEntry n src tag s) := by
  unfold ackEntry
  split
  · exact h
  · split
    · exact h
    · refine ((h.after_modCall n _).after_rechooseFor _).after_foldl _ _ fun b hu => ?_
      split
      · exact hu.after_modBeacon b _
      · exact hu

theorem after_ackCauses (src : AckSource) (cs : List Cause) : Worked A u (ackCauses e src cs s) := by
  refine h.after_foldl _ cs fun c hu => ?_
  unfold ackCause
  split
  · exact hu
  · exact hu.after_ackEntry _ _ _
  · split
    · exact hu
    · exact hu.after_modEx e _

/-! ### The axis channels -/

theorem after_modAxes (f : AxisRec → Channel → Channel) : Worked A u (modAxes e f s) :=
  h.after_foldl _ _ fun _ hu => hu.after_modCh _ _

theorem after_brakeAxes : Worked A u (brakeAxes e s) := h.after_modAxes e _

theorem after_tripAxes : Worked A u (tripAxes e s) := h.after_modAxes e _

theorem after_releaseAxes : Worked A u (releaseAxes e s) := h.after_modAxes e _

theorem after_energiseAxes : Worked A u (energiseAxes e s) := h.after_modAxes e _

theorem after_deenergiseAxes : Worked A u (deenergiseAxes e s) := h.after_modAxes e _

/-! ### Single fields of an exhibit -/

theorem after_modRun (f : Run → Run) : Worked A u (modRun e f s) := h.after_modEx e _

theorem after_markSet (l : List Nat) : Worked A u (markSet e l s) := h.after_modEx e _

theorem after_pulseCue (c : Nat) : Worked A u (pulseCue c s) := by
  unfold pulseCue
  split
  · exact h
  · exact h.after_cues _

/-! ### Entering a state -/

theorem after_enter (st : ExState) : Worked A u (enter e st s) :=
  (h.after_modEx e _).after_publishExhibit e

theorem after_enterBraking (t : Target) (a : Option Activity) : Worked A u (enterBraking e t a s) :=
  (h.after_modEx e _).after_publishExhibit e

theorem after_enterHeld (a : Activity) : Worked A u (enterHeld e a s) :=
  (h.after_modEx e _).after_publishExhibit e

theorem after_startRest : Worked A u (startRest e s) := by
  unfold startRest
  split
  · exact h.after_modEx e _
  · exact h

/-! ### Endings -/

theorem after_completeOrigin (o : Origin) (out : OrderOutcome) (r : Word) :
    Worked A u (completeOrigin o out r s) := by
  cases o with
  | press => exact h
  | order k => exact h.after_complete k out r

theorem after_completeAll (l : List Nat) (o : OrderOutcome) : Worked A u (completeAll l o s) :=
  h.after_foldl _ l fun k hk => hk.after_complete k o 0

theorem after_incUse (r : Nat) : Worked A u (incUse r s) := h.after_modRoutine r _

theorem after_decUse (r : Nat) : Worked A u (decUse r s) := by
  unfold decUse
  dsimp only
  split
  · exact (h.after_modRoutine r _).after_complete ..
  · exact h.after_modRoutine r _

theorem after_endRun (o : OrderOutcome) : Worked A u (endRun e o s) := by
  have hended := fun r => (h.after_modEx e (fun x => { x with run := none })).after_decUse r
  unfold endRun
  split
  · exact h
  · next r _ =>
    dsimp only
    split
    · exact hended r.routine
    · exact (hended r.routine).after_completeOrigin ..

theorem after_dropQueued (o : OrderOutcome) : Worked A u (dropQueued e o s) := by
  unfold dropQueued
  split
  · exact h
  · exact ((h.after_modEx e _).after_decUse _).after_completeOrigin ..

theorem after_setQueued (q : Queued) : Worked A u (setQueued e q s) := by
  have hset := (h.after_modEx e (fun x => { x with queued := some q })).after_incUse q.routine
  unfold setQueued
  dsimp only
  split
  · exact hset
  · exact (hset.after_decUse _).after_completeOrigin ..

theorem after_endHomingOrder (o : OrderOutcome) : Worked A u (endHomingOrder e o s) := by
  unfold endHomingOrder
  split
  · exact h
  · exact (h.after_modEx e _).after_complete ..

theorem after_endStopOrders (o : OrderOutcome) : Worked A u (endStopOrders e o s) :=
  (h.after_modEx e _).after_completeAll _ o

theorem after_endLockOrders (o : OrderOutcome) : Worked A u (endLockOrders e o s) :=
  (h.after_modEx e _).after_completeAll _ o

theorem after_lockDown : Worked A u (lockDown e s) :=
  ((((h.after_modEx e _).after_deenergiseAxes e).after_returnAll e).after_enter e
    .lockedOut).after_endLockOrders e .done

/-! ### Faults -/

theorem after_firstFault (r : FaultReport) : Worked A u (firstFault e r s) := by
  unfold firstFault
  extract_lets s1 s2 s3 s4 s5
  have h1 : Worked A u s1 := h.after_modEx e _
  have h2 : Worked A u s2 := h1.after_tripAxes e
  have h3 : Worked A u s3 :=
    ((h2.after_endRun e .faulted).after_endHomingOrder e .faulted).after_endStopOrders e .faulted
  have h4 : Worked A u s4 := (h3.after_releaseAxes e).after_dropQueued e .faulted
  have h5 : Worked A u s5 := (h4.after_withdraw e).after_returnRun e
  exact h5.after_raiseCause e _ _

theorem after_takeFault (r : FaultReport) : Worked A u (takeFault e r s) := by
  unfold takeFault
  dsimp only
  split
  · exact h
  · split
    · exact h.after_modEx e _
    · split
      · exact (h.after_firstFault e r).after_lockDown e
      · exact ((h.after_firstFault e r).after_enter e .faulted).after_endLockOrders e .faulted

theorem after_energiseFault : Worked A u (energiseFault e s) := by
  unfold energiseFault
  split
  · exact h.after_takeFault e _
  · exact h

theorem after_checkFault (b : Bool) (r : FaultReport) : Worked A u (checkFault e b r s) := by
  unfold checkFault
  dsimp only
  split
  · split
    · exact (h.after_takeFault e r).after_takeFault e _
    · exact h.after_takeFault e r
  · exact h.after_takeFault e r

/-! ### Runs -/

theorem after_formWaypoint : Worked A u (formWaypoint e s) := by
  unfold formWaypoint
  split
  · exact h
  · exact (h.after_modEx e _).after_modRun e _

theorem after_arrivedAll : Worked A u (arrivedAll e s).1 := by
  unfold arrivedAll
  split
  · exact h
  · exact (h.after_returnRun e).after_modRun e _

theorem after_completeAtGrant : Worked A u (completeAtGrant e s) := by
  unfold completeAtGrant
  split
  · exact h
  · split
    · exact (h.after_modRun e _).after_completeOrigin ..
    · exact h

theorem after_startRunAxes (r : Run) (l : List AxisRec) : Worked A u (startRunAxes e r l s) :=
  ((h.after_foldl _ l fun _ hu => hu.after_modCh _ _).after_modRun e _).after_publishExhibit e

theorem after_waypointGranted (b : Bool) : Worked A u (waypointGranted e b s).1 := by
  unfold waypointGranted
  split
  · exact h
  · extract_lets s1 s2 axes
    have h2 : Worked A u s2 := ((h.after_modRun e _).after_pulseCue _).after_completeAtGrant e
    split
    · exact h2.after_checkFault e b _
    · next s3 _ _ =>
      have h3 : Worked A u s3 := h2.after_startRunAxes e _ axes
      split
      · dsimp only
        exact h3.after_energiseFault e
      · split
        · exact h3.after_arrivedAll e
        · exact h3

theorem after_beginOnce : Worked A u (beginOnce e s).1 := by
  unfold beginOnce
  split
  · exact h
  · dsimp only
    split
    · exact (h.after_formWaypoint e).after_waypointGranted e false
    · exact (h.after_formWaypoint e).after_request e _ _

theorem after_beginRun (r : Nat) (o : Origin) (b : Bool) : Worked A u (beginRun e r o b s) :=
  (h.after_modEx e _).after_enter e .running

theorem after_beginQueued (q : Queued) : Worked A u (beginQueued e q s) :=
  (h.after_modEx e _).after_beginRun e _ _ _

theorem after_readyContinue : Worked A u (readyContinue e s).1 := by
  unfold readyContinue
  split
  · split
    · exact h.after_beginQueued e _
    · exact h.after_startRest e
  · exact h.after_startRest e

theorem after_runRefused : Worked A u (runRefused e s) :=
  ((h.after_endRun e .overBudget).after_releaseAxes e).after_enter e .ready

theorem after_beginWaypoint : Worked A u (beginWaypoint e s).1 := by
  have hbegun := h.after_beginOnce e
  unfold beginWaypoint
  split
  · next heq => simpa [heq] using hbegun
  · next heq => simpa [heq] using hbegun
  · next s1 heq =>
    rw [heq] at hbegun
    have hready := (hbegun.after_runRefused e).after_readyContinue e
    split
    · next heq2 => simpa [heq2] using hready
    · next s2 heq2 =>
      rw [heq2] at hready
      have hagain := hready.after_beginOnce e
      split
      · next heq3 => simpa [heq3] using hagain
      · next heq3 => simpa [heq3] using hagain
      · next s3 heq3 =>
        rw [heq3] at hagain
        exact (hagain.after_runRefused e).after_readyContinue e

theorem after_finishRun : Worked A u (finishRun e s).1 :=
  ((h.after_endRun e .done).after_enter e .ready).after_readyContinue e

theorem after_advanceRun : Worked A u (advanceRun e s).1 := by
  unfold advanceRun
  split
  · exact h
  · extract_lets n
    split
    · exact h.after_modRun e _
    · split
      · exact h.after_modRun e _
      · split
        · exact h.after_modRun e _
        · exact h.after_finishRun e

theorem after_afterDwell : Worked A u (afterDwell e s).1 := by
  unfold afterDwell
  split
  · exact h
  · dsimp only
    split
    · exact (h.after_modRun e _).after_modRun e _
    · exact (h.after_modRun e _).after_advanceRun e

theorem after_dwellChain (n : Nat) : Worked A u (dwellChain n e s) := by
  induction n generalizing s with
  | zero => exact h
  | succ n ih =>
    have hdwelt := h.after_afterDwell e
    unfold dwellChain
    split
    · next heq => simpa [heq] using hdwelt
    · next s1 heq =>
      rw [heq] at hdwelt
      have hbegun := hdwelt.after_beginWaypoint e
      split
      · next heq2 => simpa [heq2] using hbegun
      · next s2 heq2 =>
        rw [heq2] at hbegun
        exact ih hbegun

theorem after_goWaypoint : Worked A u (goWaypoint e s) := by
  have hbegun := h.after_beginWaypoint e
  unfold goWaypoint
  split
  · next heq => simpa [heq] using hbegun
  · next heq =>
    rw [heq] at hbegun
    exact hbegun.after_dwellChain e _

theorem after_readyNow : Worked A u (readyNow e s) := by
  have hready := h.after_readyContinue e
  unfold readyNow
  split
  · next heq => simpa [heq] using hready
  · next heq =>
    rw [heq] at hready
    exact hready.after_goWaypoint e

theorem after_toReady : Worked A u (toReady e s) := (h.after_enter e .ready).after_readyNow e

/-! ### Homing -/

theorem after_homingEnd : Worked A u (homingEnd e s) :=
  ((h.after_returnRun e).after_endHomingOrder e .done).after_toReady e

theorem after_homeAxes (b : Bool) (l : List AxisRec) : Worked A u (homeAxes e b l s) := by
  unfold homeAxes
  split
  · exact h.after_checkFault e b _
  · have hstarted := ((h.after_markSet e (homeActiveSlots s l)).after_foldl
      (fun u a => u.modCh a.channel (fun c =>
        if c.state = .stopped ∧ c.kind = some .homing then resumeMove a c else startHoming a c))
      l fun _ hu => hu.after_modCh _ _).after_publishExhibit e
    dsimp only
    split
    · exact hstarted.after_homingEnd e
    · exact hstarted

theorem after_homingGranted : Worked A u (homingGranted e s) := by
  unfold homingGranted
  dsimp only
  split
  · exact ((h.after_energiseAxes e).after_releaseAxes e).after_homeAxes e _ _
  · exact (h.after_releaseAxes e).after_homeAxes e _ _

theorem after_homingRefused : Worked A u (homingRefused e s) :=
  (((h.after_endHomingOrder e .overBudget).after_dropQueued e .stopped).after_modEx e _).after_lockDown e

theorem after_askHoming : Worked A u (askHoming e s) := by
  unfold askHoming
  extract_lets x claim
  split
  · exact h.after_homingGranted e
  · split
    · exact (h.after_request e _ _).after_homingRefused e
    · exact h.after_request e _ _

theorem after_enterHoming : Worked A u (enterHoming e s) := by
  have hunset := h.after_modEx e (fun x => { x with axesSet := [] })
  unfold enterHoming
  dsimp only
  split
  · exact (hunset.after_enter e .homing).after_askHoming e
  · split
    · exact hunset.after_enterHeld e .homing
    · exact hunset.after_enter e .homing

theorem after_leaveLockedOut : Worked A u (leaveLockedOut e s) := by
  unfold leaveLockedOut
  split
  · exact h.after_toReady e
  · exact h.after_enterHoming e

theorem after_removeLock (r : LockReason) : Worked A u (removeLock e r s) := by
  have hremoved := h.after_modEx e (fun x => { x with lock := x.lock.put r false })
  unfold removeLock
  dsimp only
  split
  · exact h
  · split
    · exact hremoved.after_leaveLockedOut e
    · exact hremoved

/-! ### Wakes, resumptions and holds -/

omit h in
theorem after_goBegun {x : State × Begun} (hx : Worked A u x.1) : Worked A u (goBegun e x) := by
  unfold goBegun
  split
  · exact hx.after_dwellChain e _
  · exact hx

theorem after_wakeGranted : Worked A u (wakeGranted e s) := by
  have henergised := (h.after_modEx e (fun x => { x with wakePending := false })).after_energiseAxes e
  unfold wakeGranted
  dsimp only
  split
  · exact ((henergised.after_modEx e _).after_enter e .homing).after_homeAxes e _ _
  · split
    · exact after_goBegun e
        (((henergised.after_beginQueued e _).after_formWaypoint e).after_waypointGranted e true)
    · exact ((henergised.after_enter e .ready).after_startRest e).after_energiseFault e

theorem after_wake : Worked A u (wake e s) := by
  have hpending := ((h.after_withdraw e).after_modEx e
    (fun x => { x with wakePending := true })).after_publishExhibit e
  unfold wake
  dsimp only
  split
  · exact h
  · split
    · exact h
    · split
      · exact hpending.after_wakeGranted e
      · split
        · exact ((hpending.after_request e _ _).after_modEx e _).after_dropQueued e _
        · exact hpending.after_request e _ _

theorem after_resumeGranted : Worked A u (resumeGranted e s).1 := by
  unfold resumeGranted
  split
  · exact h
  · split
    · exact h.after_waypointGranted e false
    · dsimp only
      split
      · exact h.after_takeFault e _
      · exact (h.after_foldl _ _ fun _ hu => hu.after_modCh _ _).after_modRun e _

theorem after_resumeMovement (r : Run) : Worked A u (resumeMovement e r s) := by
  unfold resumeMovement
  split
  · exact after_goBegun e (h.after_arrivedAll e)
  · split
    · exact h.after_modRun e _
    · dsimp only
      split
      · exact after_goBegun e ((h.after_modRun e _).after_resumeGranted e)
      · split
        · exact (((h.after_modRun e _).after_request e _ _).after_runRefused e).after_readyNow e
        · exact (h.after_modRun e _).after_request e _ _

theorem after_resumeHoming : Worked A u (resumeHoming e s) := h.after_homeAxes e _ _

theorem after_leaveHeld : Worked A u (leaveHeld e s) := by
  unfold leaveHeld
  dsimp only
  split
  · exact h
  · have hhoming := h.after_enter e .homing
    split
    · exact hhoming.after_resumeHoming e
    · split
      · exact (hhoming.after_request e _ _).after_homingRefused e
      · exact hhoming.after_request e _ _
  · have hrunning := h.after_enter e .running
    split
    · exact hrunning
    · split
      · exact hrunning
      · exact hrunning.after_modRun e _
      · exact hrunning
      · exact hrunning.after_resumeMovement e _

theorem after_pauseRun : Worked A u (pauseRun e s) :=
  (((h.after_withdraw e).after_returnRun e).after_modRun e _).after_enterHeld e .running

theorem after_holdEffect : Worked A u (holdEffect e s) := by
  unfold holdEffect
  dsimp only
  split
  · split
    · exact (h.after_brakeAxes e).after_enterBraking e _ _
    · split
      · exact (h.after_withdraw e).after_enterHeld e _
      · exact h.after_withdraw e
  · split
    · exact (h.after_brakeAxes e).after_enterBraking e _ _
    · exact h.after_pauseRun e
  · split
    · exact (h.after_withdraw e).after_modEx e _
    · exact h
  · exact h

theorem after_releaseEffect : Worked A u (releaseEffect e s) := by
  unfold releaseEffect
  dsimp only
  split
  · split
    · exact h
    · exact h.after_askHoming e
  · exact h.after_leaveHeld e
  · split
    · exact h
    · exact h.after_readyNow e
  · split
    · exact h
    · exact h.after_wake e
  · exact h

/-! ### What is handed, and the end of an event -/

theorem after_takeGrant (p : Purpose) : Worked A u (takeGrant e p s) := by
  cases p with
  | waypoint =>
    simp only [takeGrant]
    split
    · exact after_goBegun e (h.after_waypointGranted e false)
    · exact h
  | homing =>
    simp only [takeGrant]
    split
    · exact h.after_homingGranted e
    · exact h
  | resume =>
    simp only [takeGrant]
    split
    · exact after_goBegun e (h.after_resumeGranted e)
    · split
      · exact h.after_resumeHoming e
      · exact h
  | wake =>
    simp only [takeGrant]
    split
    · exact h.after_wakeGranted e
    · exact h

theorem after_deliver (d : Handed) : Worked A u (deliver d s) := by
  cases d with
  | grant e p => exact h.after_takeGrant e p
  | overrun e r => exact h.after_takeFault e r

omit h in
theorem after_settleLoop (n : Nat) {s : State} (h : Worked A u s) : Worked A u (settleLoop n s) := by
  induction n generalizing s with
  | zero => exact h
  | succ n ih =>
    unfold settleLoop
    split
    · exact h
    · next d r _ => exact ih ((h.after_handed r).after_deliver d).after_publish

theorem after_settle : Worked A u (settle s) := after_settleLoop _ h

theorem after_closeEvent : Worked A u (closeEvent s) := h.after_settle.after_publish

/-! ### Runs started and stopped, and lockouts (R24, R31, R103) -/

theorem after_startRun (r : Nat) (o : Origin) (b : Bool) : Worked A u (startRun e r o b s) :=
  ((h.after_incUse r).after_beginRun e r o b).after_goWaypoint e

theorem after_stepWaiting : Worked A u (stepWaiting e s) := by
  have hadvanced := h.after_advanceRun e
  unfold stepWaiting
  split
  · next heq => simpa [heq] using hadvanced
  · next heq =>
    rw [heq] at hadvanced
    exact hadvanced.after_goWaypoint e

theorem after_stopRunning (keep : Bool) : Worked A u (stopRunning e keep s) := by
  unfold stopRunning
  extract_lets s1 s2
  have h1 : Worked A u s1 := (h.after_endRun e .stopped).after_withdraw e
  have h2 : Worked A u s2 := by
    unfold s2
    split
    · exact h1
    · exact h1.after_dropQueued e .stopped
  split
  · exact (h2.after_brakeAxes e).after_enterBraking e _ _
  · exact ((h2.after_returnRun e).after_releaseAxes e).after_toReady e

theorem after_addLock (r : LockReason) : Worked A u (addLock e r s) := by
  unfold addLock
  extract_lets x s1 s2 s3 s4
  have h1 : Worked A u s1 := h.after_modEx e _
  have h2 : Worked A u s2 := (h1.after_endRun e .stopped).after_endHomingOrder e .stopped
  have h3 : Worked A u s3 := (h2.after_dropQueued e .stopped).after_endStopOrders e .stopped
  have h4 : Worked A u s4 := (h3.after_withdraw e).after_modEx e _
  split
  · exact h
  · split
    · exact h1
    · split
      · exact (h4.after_brakeAxes e).after_enterBraking e _ _
      · unfold enterLockedOut
        dsimp only
        split
        · exact (h4.after_lockDown e).after_leaveLockedOut e
        · exact h4.after_lockDown e

theorem after_addHold (r : HoldReason) : Worked A u (addHold e r s) := by
  unfold addHold
  dsimp only
  split
  · exact h
  · exact (h.after_modEx e _).after_holdEffect e

theorem after_removeHold (r : HoldReason) : Worked A u (removeHold e r s) := by
  unfold removeHold
  dsimp only
  split
  · exact h
  · split
    · exact (h.after_modEx e _).after_releaseEffect e
    · exact h.after_modEx e _

end

end Worked

end Sys2Proof.Machine
end

section
/-! PROOFS. What an event of a station input can do, and the levels of a node's inputs handed one by one (R56,
R58, R59, R64 to R68, R79 to R83). -/

namespace Sys2Proof.Machine

/-! ### The journal and the presses -/

namespace Worked

section
variable {A : Set Nat} {u s : State} (h : Worked A u s) (e i : Nat)
include h

theorem after_writeRecord (k : Nat) (r : PressRec) : Worked A u (writeRecord k r s) := by
  have hwritten : Worked A u (s.modPage k (fun p =>
      { p with recs := store p.recs p.count r, count := p.count + 1 })) :=
    h.after_journal _ s.curPage s.lastPage s.nextSeq s.linger
  unfold writeRecord
  dsimp only
  split
  · exact (hwritten.after_journal _ _ _ _ _).after_notice _
  · exact hwritten

theorem after_placeRecord (r : PressRec) : Worked A u (placeRecord r s) := by
  have hnumbered := h.after_journal s.pages s.curPage s.lastPage (s.nextSeq + 1) s.linger
  unfold placeRecord
  dsimp only
  split
  · exact hnumbered.after_writeRecord _ _
  · split
    · exact (hnumbered.after_journal _ _ _ _ _).after_writeRecord _ _
    · exact hnumbered

theorem after_finishPress (o : PressOutcome) (r : PressRec) : Worked A u (finishPress i o r s) := by
  have htallied : Worked A u (s.modInp i (tallyPress o)) :=
    h.after_modInp i _ (fun x => by cases o <;> rfl) (.inr fun x => by cases o <;> rfl)
  unfold finishPress
  dsimp only
  split
  · exact htallied
  · exact htallied.after_placeRecord r

theorem after_spendToken : Worked A u (spendToken e i s) := h.after_modInp i _ (fun _ => rfl) (.inr fun _ => rfl)

theorem after_stampEvent : Worked A u (stampEvent i s) := h.after_modInp i _ (fun _ => rfl) (.inr fun _ => rfl)

theorem after_busyStart (r : Nat) (p : BusyPolicy) : Worked A u (busyStart e r p s).1 := by
  cases p with
  | ignore => exact h
  | queue => exact h.after_setQueued e _
  | restart =>
    simp only [busyStart]
    split
    · exact (h.after_setQueued e _).after_stopRunning e true
    · exact h.after_setQueued e _

theorem after_startPress (r : Nat) (p : BusyPolicy) : Worked A u (startPress e r p s).1 := by
  have hqueued := h.after_setQueued e ⟨r, .press, false, false⟩
  have hbusy := h.after_busyStart e r p
  unfold startPress
  split
  · exact h
  · split
    · split
      · exact h.after_startRun e r _ _
      · exact hbusy
    · dsimp only
      split
      · exact hqueued.after_wake e
      · exact hqueued
    · exact hbusy
    · exact hbusy
    · exact hbusy
    · split
      · exact h
      · exact hbusy
    · exact h
    · exact h
    · exact h

theorem after_applyAction : Worked A u (applyAction e i s).1 := by
  unfold applyAction
  split
  · exact h
  · split
    · exact h.after_startPress e _ _
    · unfold stepPress
      split
      · exact h.after_stepWaiting e
      · exact h
    · unfold stopPress
      split
      · exact h.after_stopRunning e false
      · exact h
    · exact h
    · exact h

theorem after_buttonPress : Worked A u (buttonPress e i s).1 := by
  unfold buttonPress
  split
  · exact h.after_raiseCause e _ _
  · split
    · exact h
    · split
      · exact h
      · exact (h.after_spendToken e i).after_applyAction e i

theorem after_press : Worked A u (press i s) := by
  have hcounted : Worked A u (s.modInp i (fun x => { x with presses := x.presses + 1, lastEvent := s.tick })) :=
    h.after_modInp i _ (fun _ => rfl) (.inr fun _ => rfl)
  unfold press
  dsimp only
  split
  · exact hcounted.after_finishPress i _ _
  · exact (hcounted.after_buttonPress _ i).after_finishPress i _ _

/-! ### Mats, guards and keys -/

theorem after_matOn : Worked A u (matOn e s) := by
  unfold matOn
  split
  · exact h.after_modEx e _
  · exact h.after_wake e
  · exact h

theorem after_matOff : Worked A u (matOff e s) := by
  unfold matOff
  split
  · exact h.after_startRest e
  · exact h

theorem after_guardOff : Worked A u (guardOff e s) := by
  unfold guardOff
  split
  · exact h
  · exact h.after_removeHold e _

theorem after_tripOn : Worked A u (tripOn e s) := by
  unfold tripOn
  split
  · exact h.after_addHold e .guard
  · exact (h.after_takeFault e _).after_addHold e .guard

theorem after_keyOn : Worked A u (keyOn e s) := (h.after_ackCauses e _ _).after_addLock e _

theorem after_keyOff : Worked A u (keyOff e s) := by
  unfold keyOff
  split
  · exact h
  · exact ((h.after_modEx e _).after_clearCauses e _).after_removeLock e _

theorem after_classEvent (c : InputClass) (lvl : Bool) : Worked A u (classEvent e i c lvl s) := by
  have hstamped := h.after_stampEvent i
  unfold classEvent
  split
  · exact h
  · exact h.after_press i
  · exact h
  · exact hstamped.after_matOn e
  · exact h.after_matOff e
  · exact hstamped.after_addHold e .guard
  · exact h.after_guardOff e
  · exact hstamped.after_tripOn e
  · exact h.after_guardOff e
  · exact hstamped.after_keyOn e
  · exact h.after_keyOff e

omit h in
/-- An event of a station input is a chain from the state in which its level has been set. -/
theorem after_levelSet (lvl : Bool)
    (hset : Worked A u (s.modInp i (fun x => { x with accepted := lvl }))) : Worked A u (inputEvent i lvl s) := by
  unfold inputEvent
  dsimp only
  split
  · exact hset.after_classEvent _ i _ lvl
  · split
    · exact hset.after_press i
    · exact hset

theorem after_inputEvent (lvl : Bool) (hi : i ∈ A) : Worked A u (inputEvent i lvl s) :=
  after_levelSet i lvl (h.after_modInp i _ (fun _ => rfl) (.inl hi))

end

end Worked

/-- The event of an input's changed level leaves that level accepted. -/
theorem closeEvent_inputEvent_accepted (i : Nat) (lvl : Bool) (s : State) :
    ((closeEvent (inputEvent i lvl s)).inp i).accepted = lvl := by
  have hworked : Worked ∅ (s.modInp i (fun x => { x with accepted := lvl })) (closeEvent (inputEvent i lvl s)) :=
    (Worked.after_levelSet i lvl .refl).after_closeEvent
  rw [hworked.accepted (Set.notMem_empty i), State.modInp_inp_same]

/-! ### Reading an input's record -/

section
variable {x y : Input} (h : y.line = x.line)
include h

theorem Input.line_owner : y.owner = x.owner := congrArg Prod.fst h

theorem Input.line_debounced : y.debounced = x.debounced := congrArg (fun l => l.2.1) h

theorem Input.line_agree : y.agree = x.agree := congrArg (fun l => l.2.2) h

end

theorem KeptBut.node {fs : List Field} {s t : State} (h : KeptBut fs s t) (hf : Field.nodes ∉ fs) (n : Nat) :
    t.node n = s.node n :=
  congrArg (lookup Node.fresh · n) (h .nodes hf : t.nodes = s.nodes)

/-! ### The inputs of a node -/

/-- The inputs of a node are those whose number divided by 8 names it. -/
theorem mem_inputsOf {n i : Nat} (hn : 1 ≤ n) : i ∈ inputsOf n ↔ i / 8 + 1 = n := by
  simp only [inputsOf, inputOf, List.mem_map, List.mem_range]
  constructor
  · rintro ⟨k, hk, rfl⟩
    omega
  · intro hi
    exact ⟨i % 8, by omega, by omega⟩

theorem inputsOf_nodup (n : Nat) : (inputsOf n).Nodup :=
  List.nodup_range.map fun j k h => by simpa [inputOf] using h

theorem nodeOf_inputOf {n k : Nat} (hn : 1 ≤ n) (hk : k < 8) : (8 * (n - 1) + k) / 8 + 1 = n := by
  omega

theorem inputOf_mem {n k : Nat} (hn : 1 ≤ n) (hk : k < 8) : 8 * (n - 1) + k ∈ inputsOf n :=
  (mem_inputsOf hn).2 (nodeOf_inputOf hn hk)

/-- A change of each input of a list. -/
theorem foldl_modInp_inp (f : Nat → Input → Input) (l : List Nat) (hl : l.Nodup) (s : State) (j : Nat) :
    (l.foldl (fun u i => u.modInp i (f i)) s).inp j = if j ∈ l then f j (s.inp j) else s.inp j := by
  induction l generalizing s with
  | nil => rfl
  | cons i l ih =>
    obtain ⟨hi, hl⟩ := List.nodup_cons.1 hl
    rw [List.foldl_cons, ih hl]
    by_cases hj : j = i
    · subst hj; simp [hi]
    · simp [hj, State.modInp_inp_other]

theorem foldl_modInp_keptBut (f : Nat → Input → Input) (l : List Nat) (s : State) :
    KeptBut [.inputs] s (l.foldl (fun u i => u.modInp i (f i)) s) :=
  .foldl _ (fun u i => State.modInp_keptBut u i (f i)) l s

/-- A change of each input of a node reaches those inputs alone. -/
theorem foldl_inputsOf_inp {n : Nat} (hn : 1 ≤ n) (f : Nat → Input → Input) (s : State) (j : Nat) :
    ((inputsOf n).foldl (fun u i => u.modInp i (f i)) s).inp j =
      if j / 8 + 1 = n then f j (s.inp j) else s.inp j := by
  rw [foldl_modInp_inp f _ (inputsOf_nodup n)]
  simp only [mem_inputsOf hn]

/-! ### Levels handed -/

/-- One level is handed when it is not the accepted one. -/
theorem handLevels_single (f : State → Nat → Bool) (i : Nat) (s : State) : handLevels f [i] s =
    if (s.inp i).accepted = f s i then s else closeEvent (inputEvent i (f s i) s) := by
  by_cases hsame : (s.inp i).accepted = f s i <;> simp [handLevels, hsame]

/-- One input of the list is handed before the others. -/
theorem handLevels_cons (f : State → Nat → Bool) (i : Nat) (is : List Nat) (s : State) :
    handLevels f (i :: is) s = handLevels f is (handLevels f [i] s) := rfl

/-- The last input of the list is handed after the others. -/
theorem handLevels_concat (f : State → Nat → Bool) (is : List Nat) (i : Nat) (s : State) :
    handLevels f (is ++ [i]) s = handLevels f [i] (handLevels f is s) := List.foldl_append

/-- The levels of a list of inputs handed change no other accepted level. -/
theorem Worked.after_handLevels {A : Set Nat} {u s : State} (h : Worked A u s) (f : State → Nat → Bool)
    (is : List Nat) (his : ∀ i ∈ is, i ∈ A) : Worked A u (handLevels f is s) := by
  induction is generalizing s with
  | nil => exact h
  | cons i is ih =>
    rw [handLevels_cons, handLevels_single]
    refine ih ?_ fun j hj => his j (List.mem_cons_of_mem i hj)
    split
    · exact h
    · exact (h.after_inputEvent i _ (his i List.mem_cons_self)).after_closeEvent

theorem handLevels_worked (f : State → Nat → Bool) (is : List Nat) (s : State) :
    Worked {i | i ∈ is} s (handLevels f is s) :=
  Worked.refl.after_handLevels f is fun _ hi => hi

/-- One level handed is accepted. -/
theorem handLevels_single_accepted (f : State → Nat → Bool) (i : Nat) (s : State) :
    ((handLevels f [i] s).inp i).accepted = f s i := by
  rw [handLevels_single]
  split
  · assumption
  · exact closeEvent_inputEvent_accepted i _ s

/-- While their node is ANSWERING the inputs handed accept their debounced levels (R57, R60). -/
theorem handLevels_accepted {is : List Nat} {s : State} {i : Nat} (hi : i ∈ is)
    (hanswers : (s.node (nodeOf i)).state = .answering) :
    ((handLevels formLevel is s).inp i).accepted = (s.inp i).debounced := by
  induction is generalizing s with
  | nil => exact absurd hi List.not_mem_nil
  | cons j is ih =>
    have hstep := handLevels_worked formLevel [j] s
    rw [handLevels_cons]
    by_cases hlater : i ∈ is
    · rw [ih hlater (by rw [hstep.keptBut.node (by decide), hanswers]), Input.line_debounced (hstep.line i)]
    · obtain rfl : i = j := (List.mem_cons.1 hi).resolve_right hlater
      rw [(handLevels_worked formLevel is _).accepted hlater, handLevels_single_accepted]
      exact if_pos hanswers

/-- The levels of a node's inputs are handed one event each (R64). -/
theorem levelsHanded_handLevels (n : Nat) (s : State) : LevelsHanded n s (handLevels formLevel (inputsOf n) s) := by
  refine ⟨fun k => handLevels formLevel ((List.range k).map (inputOf n)) s, rfl, rfl, fun k _ => ?_⟩
  dsimp only
  rw [List.range_succ, List.map_append, List.map_singleton, handLevels_concat, handLevels_single]
  rfl

end Sys2Proof.Machine
end

section
/-! PROOFS. REPLY_TIMEOUT: a miss of a node, and the third in a row (R52, R53, R55, R57, R58, R61). -/

namespace Sys2Proof.Machine

/-! ### The link controller's single updates -/

section
variable (s : State)

theorem State.modNode_keptBut (n : Nat) (f : Node → Node) : KeptBut [.nodes] s (s.modNode n f) := by
  intro g hg
  cases g <;> first | rfl | exact absurd List.mem_cons_self hg

theorem with_window_keptBut (w : Option Window) : KeptBut [.window] s { s with window := w } := by
  intro g hg
  cases g <;> first | rfl | exact absurd List.mem_cons_self hg

/-- The state with no reply window open (R51). -/
def State.closed (s : State) : State := { s with window := none }

@[simp] theorem State.closed_window : s.closed.window = none := rfl
@[simp] theorem State.closed_node (n : Nat) : s.closed.node n = s.node n := rfl
@[simp] theorem State.closed_inp (i : Nat) : s.closed.inp i = s.inp i := rfl
@[simp] theorem State.closed_depth : s.closed.depth = s.depth := rfl
@[simp] theorem State.closed_notice : s.closed.notice = s.notice := rfl

theorem State.closed_keptBut : KeptBut [.window] s s.closed := with_window_keptBut s none

/-- A frame of an effect in which the window is closed, with the views written. -/
theorem KeptBut.publish_of_closed {fs : List Field} {u v : State} (h : KeptBut fs u.closed v)
    (hwindow : Field.window ∈ fs) (hviews : viewFields ⊆ fs) : KeptBut fs u (publish v) :=
  (u.closed_keptBut.mono (by simpa using hwindow)).trans (h.trans ((publish_keptBut v).mono hviews))

/-- Writing the views leaves the LINK notice as it is (R181). -/
theorem publish_notice_link : (publish s).notice.getLsbD 5 = s.notice.getLsbD 5 := by
  have hlink (b : Bool) (c : BitVec 6) (hc : c.getLsbD 5 = false) : (noticeIf b c).getLsbD 5 = false := by
    cases b
    · exact BitVec.getLsbD_zero
    · exact hc
  have hviews (v w : Views) : (viewNotices v w).getLsbD 5 = false := by
    rw [viewNotices, BitVec.getLsbD_or, hlink _ _ rfl, hlink _ _ rfl]
    rfl
  rw [publish, BitVec.getLsbD_or, hviews, Bool.or_false]

theorem setNotice_noticeLink : (setNotice noticeLink s).notice.getLsbD 5 = true := by
  simp [setNotice, noticeLink]

end

/-! ### Levels formed (R57, R60) -/

section
variable {v : State} {i : Nat}

theorem formLevel_of_answering (h : (v.node (i / 8 + 1)).state = .answering) :
    formLevel v i = (v.inp i).debounced := if_pos h

variable (h : (v.node (i / 8 + 1)).state ≠ .answering)
include h

theorem formLevel_of_safe
    (hclass : v.classOf i = some .guardHold ∨ v.classOf i = some .guardTrip ∨ v.classOf i = some .mat) :
    formLevel v i = true := by
  rw [formLevel, nodeOf, if_neg h]
  rcases hclass with hclass | hclass | hclass <;> rw [hclass] <;> rfl

theorem formLevel_of_plain (hhold : v.classOf i ≠ some .guardHold) (htrip : v.classOf i ≠ some .guardTrip)
    (hmat : v.classOf i ≠ some .mat) : formLevel v i = (v.inp i).debounced := by
  rw [formLevel, nodeOf, if_neg h]
  unfold substitute
  split
  · exact absurd ‹_› hhold
  · exact absurd ‹_› htrip
  · exact absurd ‹_› hmat
  all_goals rfl

end

/-! ### NODE SILENT (R61) -/

section
variable (e : Nat) (s : State)

/-- A cause that is not in the set is put into it, entered or pending (R152). -/
theorem raiseCause_ex (c : Cause) (v : Nat) (hnone : (s.ex e).causeRec c = none) :
    ∃ st, ∀ j, (raiseCause e c v s).ex j = (s.modEx e (putCause ⟨c, st⟩)).ex j := by
  simp only [raiseCause, hnone]
  split
  · next n _ => exact ⟨.entered n, fun j => (rechooseFor_keptBut _ _).ex (by decide) j⟩
  · exact ⟨_, fun _ => rfl⟩

/-- Raising NODE SILENT puts it into the exhibit's cause set and takes no exhibit's out. -/
theorem raiseSilent_causeRec (j : Nat) : (((raiseSilent e s).ex j).causeRec .nodeSilent).isSome = true ↔
    j = e ∨ ((s.ex j).causeRec .nodeSilent).isSome = true := by
  unfold raiseSilent
  split
  · next hsome =>
    refine (or_iff_right_of_imp ?_).symm
    rintro rfl
    simp [hsome]
  · next hnone =>
    obtain ⟨st, hex⟩ := raiseCause_ex e s .nodeSilent Cause.nodeSilent.severity hnone
    rw [hex]
    by_cases hj : j = e
    · subst hj
      simp [causeRec_putCause]
    · simp [State.modEx_ex_other _ _ _ _ hj, hj]

/-- Every exhibit with an input on a node that falls SILENT has NODE SILENT. -/
theorem silentCauses_causeRec (n : Nat) (he : e ∈ ownersOn s n) :
    (((silentCauses n s).ex e).causeRec .nodeSilent).isSome = true := by
  have hfold (l : List Nat) (u : State) : (((l.foldl (fun u e => raiseSilent e u) u).ex e).causeRec
      .nodeSilent).isSome = true ↔ e ∈ l ∨ ((u.ex e).causeRec .nodeSilent).isSome = true := by
    induction l generalizing u with
    | nil => simp
    | cons a l ih => rw [List.foldl_cons, ih, raiseSilent_causeRec, List.mem_cons]; tauto
  exact (hfold _ s).2 (.inl he)

theorem mem_ownersOn {n i : Nat} (hi : i ∈ inputsOf n) (howner : (s.inp i).owner = some e) (he : e < 32) :
    e ∈ ownersOn s n := by
  simp only [ownersOn, List.mem_filter, List.mem_range, List.any_eq_true]
  exact ⟨he, i, hi, by simp [howner]⟩

theorem Worked.after_silentCauses {A : Set Nat} {u s : State} (h : Worked A u s) (n : Nat) :
    Worked A u (silentCauses n s) :=
  h.after_foldl _ _ fun e hu => by
    unfold raiseSilent
    split
    · exact hu
    · exact hu.after_raiseCause e _ _

end

/-! ### A node leaves ANSWERING (R58) -/

/-- A node that leaves ANSWERING, its inputs' levels not yet handed. -/
def nodeLeaving (n : Nat) (st : NodeState) (s : State) : State :=
  clearAgree n (setNotice noticeLink
    (s.modNode n (fun x => { x with state := st, missRun := 0, goodRun := 0 })))

section
variable {n : Nat} (st : NodeState) (s : State)

theorem nodeLeaves_eq : nodeLeaves n st s = handLevels formLevel (inputsOf n) (nodeLeaving n st s) := rfl

theorem clearAgree_keptBut : KeptBut [.inputs] s (clearAgree n s) := foldl_modInp_keptBut _ _ _

theorem nodeLeaving_keptBut : KeptBut [.nodes, .inputs, .notice] s (nodeLeaving n st s) :=
  ((State.modNode_keptBut s n _).mono (by decide)).trans <|
    ((setNotice_keptBut _ _).mono (by decide)).trans ((clearAgree_keptBut _).mono (by decide))

theorem nodeLeaving_node : (nodeLeaving n st s).node n =
    { s.node n with state := st, missRun := 0, goodRun := 0 } := by
  rw [nodeLeaving, (clearAgree_keptBut _).node (by decide), setNotice_node, State.modNode_node_same]

theorem nodeLeaving_node_other {j : Nat} (hj : j ≠ n) : (nodeLeaving n st s).node j = s.node j := by
  rw [nodeLeaving, (clearAgree_keptBut _).node (by decide), setNotice_node, State.modNode_node_other _ _ _ _ hj]

theorem nodeLeaving_inp (hn : 1 ≤ n) (i : Nat) : (nodeLeaving n st s).inp i =
    if i / 8 + 1 = n then { s.inp i with agree := 0 } else s.inp i := by
  rw [nodeLeaving, clearAgree, foldl_inputsOf_inp hn (fun _ x => { x with agree := 0 }), setNotice_inp,
    State.modNode_inp]

theorem nodeLeaving_notice : (nodeLeaving n st s).notice.getLsbD 5 = true := by
  rw [nodeLeaving, (clearAgree_keptBut _ .notice (by decide) : _ = _)]
  exact setNotice_noticeLink _

end

/-! ### A miss (R52) -/

/-- A node record after a miss, whatever its state. -/
def Node.missed (x : Node) : Node := { x with miss := x.miss + 1, goodRun := 0 }

section
variable {n : Nat} {s : State}

theorem applyMiss_of_not_answering (h : (s.node n).state ≠ .answering) :
    applyMiss n s = s.modNode n Node.missed := by
  unfold applyMiss
  dsimp only
  split
  · exact absurd ‹_› h
  · rfl
  · rfl

theorem applyMiss_of_few (h : (s.node n).state = .answering) (hfew : (s.node n).missRun < 2) :
    applyMiss n s = (s.modNode n Node.missed).modNode n (fun x => { x with missRun := x.missRun + 1 }) := by
  simp only [applyMiss, h]
  exact if_neg (by omega)

theorem applyMiss_of_third (h : (s.node n).state = .answering) (hthird : 2 ≤ (s.node n).missRun) :
    applyMiss n s = nodeSilent n (s.modNode n Node.missed) := by
  simp only [applyMiss, h]
  exact if_pos (by omega)

/-- A miss that does not make its node SILENT changes the node's record alone. -/
theorem applyMiss_keptBut (h : ¬ ((s.node n).state = .answering ∧ 2 ≤ (s.node n).missRun)) :
    KeptBut [.nodes] s (applyMiss n s) := by
  by_cases hanswers : (s.node n).state = .answering
  · rw [applyMiss_of_few hanswers (Nat.lt_of_not_le fun hthird => h ⟨hanswers, hthird⟩)]
    exact (State.modNode_keptBut s n _).trans (State.modNode_keptBut _ n _)
  · rw [applyMiss_of_not_answering hanswers]
    exact State.modNode_keptBut s n _

end

theorem one_le_of_present {m : Word} {n : Nat} (h : present m n = true) : 1 ≤ n := by
  simp only [present, Bool.and_eq_true, decide_eq_true_eq] at h
  exact h.1

section
variable {u : State} {w : Window} (hwindow : u.window = some w)
include hwindow

theorem windowCloses_of_absent (h : present u.linkMask w.node = false) : windowCloses u = u.closed := by
  simp [windowCloses, hwindow, h, State.closed]

theorem windowCloses_of_present (h : present u.linkMask w.node = true) :
    windowCloses u = applyMiss w.node u.closed := by
  simp [windowCloses, hwindow, h, State.closed]

end

/-! ### The third miss in a row (R58, R61) -/

section
variable {n : Nat} (s : State)

theorem nodeSilent_worked : Worked {i | i ∈ inputsOf n} (nodeLeaving n .silent s) (nodeSilent n s) :=
  (handLevels_worked formLevel (inputsOf n) (nodeLeaving n .silent s)).after_silentCauses n

theorem nodeSilent_keptBut : KeptBut (.nodes :: eventFields) s (nodeSilent n s) :=
  ((nodeLeaving_keptBut .silent s).mono (by decide)).trans ((nodeSilent_worked s).keptBut.mono (by simp))

theorem nodeSilent_node : (nodeSilent n s).node n =
    { s.node n with state := .silent, missRun := 0, goodRun := 0 } := by
  rw [(nodeSilent_worked s).keptBut.node (by decide), nodeLeaving_node]

theorem nodeSilent_node_other {j : Nat} (hj : j ≠ n) : (nodeSilent n s).node j = s.node j := by
  rw [(nodeSilent_worked s).keptBut.node (by decide), nodeLeaving_node_other _ _ hj]

/-- The inputs of the node keep their debounced levels with agreement counts of 0. -/
theorem nodeSilent_inp (hn : 1 ≤ n) {i : Nat} (hi : i ∈ inputsOf n) :
    ((nodeSilent n s).inp i).debounced = (s.inp i).debounced ∧ ((nodeSilent n s).inp i).agree = 0 := by
  have hline := (nodeSilent_worked (n := n) s).line i
  rw [Input.line_debounced hline, Input.line_agree hline, nodeLeaving_inp _ _ hn,
    if_pos ((mem_inputsOf hn).1 hi)]
  exact ⟨rfl, rfl⟩

/-- Each owner of an input on the node has NODE SILENT (R61). -/
theorem nodeSilent_causeRec (hn : 1 ≤ n) {i e : Nat} (hi : i ∈ inputsOf n) (howner : (s.inp i).owner = some e)
    (he : e < 32) : (((nodeSilent n s).ex e).causeRec .nodeSilent).isSome = true := by
  refine silentCauses_causeRec e _ n (mem_ownersOn e _ hi ?_ he)
  rw [nodeLeaves_eq, Input.line_owner ((handLevels_worked _ _ _).line i), nodeLeaving_inp _ _ hn,
    if_pos ((mem_inputsOf hn).1 hi)]
  exact howner

end

/-- A miss changes no other node and leaves the window as it is. -/
theorem applyMiss_others (n : Nat) (s : State) :
    (applyMiss n s).window = s.window ∧ ∀ j, j ≠ n → (applyMiss n s).node j = s.node j := by
  by_cases hanswers : (s.node n).state = .answering
  · by_cases hthird : 2 ≤ (s.node n).missRun
    · rw [applyMiss_of_third hanswers hthird]
      exact ⟨nodeSilent_keptBut _ .window (by decide), fun j hj => by
        rw [nodeSilent_node_other _ hj, State.modNode_node_other _ _ _ _ hj]⟩
    · rw [applyMiss_of_few hanswers (by omega)]
      exact ⟨rfl, fun j hj => by rw [State.modNode_node_other _ _ _ _ hj, State.modNode_node_other _ _ _ _ hj]⟩
  · rw [applyMiss_of_not_answering hanswers]
    exact ⟨rfl, fun j hj => State.modNode_node_other _ _ _ _ hj⟩

/-- Settles O46: a miss reaches the node's record alone, but the third in a row, whose levels and causes go through
the input unit's events. -/
theorem timeoutCountsAMiss : Obligations.TimeoutCountsAMiss := by
  refine ⟨?_, fun v i => ⟨formLevel_of_answering, fun h => ⟨formLevel_of_safe h, formLevel_of_plain h⟩⟩⟩
  intro s u
  refine ⟨fun hnone => ?_, fun w hwindow habsent => ?_, fun w hwindow hpresent => ?_⟩
  · have hexec : exec .replyTimeout s = .next (publish (windowCloses u)) := rfl
    rw [hexec, windowCloses, hnone]
  · refine ⟨publish (windowCloses u), rfl, ?_⟩
    rw [windowCloses_of_absent hwindow habsent]
    exact ⟨rfl, (KeptBut.refl _ _).publish_of_closed (by decide) (by decide)⟩
  · have hn := one_le_of_present hpresent
    have hexec : exec .replyTimeout s = .next (publish (applyMiss w.node u.closed)) := by
      rw [← windowCloses_of_present hwindow hpresent]
      rfl
    obtain ⟨hclosed, hothers⟩ := applyMiss_others w.node u.closed
    have hrecord (h : ¬ ((u.node w.node).state = .answering ∧ 2 ≤ (u.node w.node).missRun)) :
        (publish (applyMiss w.node u.closed)).notice.getLsbD 5 = u.notice.getLsbD 5 ∧
          KeptBut [.window, .nodes, .views, .notice] u (publish (applyMiss w.node u.closed)) := by
      have hkept := applyMiss_keptBut (s := u.closed) h
      refine ⟨?_, (hkept.mono (by decide)).publish_of_closed (by decide) (by decide)⟩
      rw [publish_notice_link, (hkept .notice (by decide) : _ = _), State.closed_notice]
    refine ⟨_, hexec, hclosed, hothers, fun hstate => ⟨?_, hrecord fun h => hstate h.1⟩,
      fun hstate hfew => ⟨?_, hrecord fun h => by omega⟩, fun hstate hthird => ?_⟩
    · rw [publish_node, applyMiss_of_not_answering (s := u.closed) hstate, State.modNode_node_same]
      rfl
    · rw [publish_node, applyMiss_of_few (s := u.closed) hstate hfew, State.modNode_node_same,
        State.modNode_node_same]
      rfl
    · rw [applyMiss_of_third (s := u.closed) hstate hthird]
      have hinp : ∀ i, (u.closed.modNode w.node Node.missed).inp i = u.inp i := fun _ => rfl
      have hnode : (u.closed.modNode w.node Node.missed).node w.node = (u.node w.node).missed :=
        State.modNode_node_same ..
      have hkept : KeptBut [.window, .nodes] u (u.closed.modNode w.node Node.missed) :=
        (u.closed_keptBut.mono (by decide)).trans ((State.modNode_keptBut _ _ _).mono (by decide))
      generalize u.closed.modNode w.node Node.missed = c at hinp hnode hkept
      refine ⟨?_, publish_notice_of _ _ ((nodeSilent_worked c).notice (nodeLeaving_notice _ _)), fun k hk => ?_,
        nodeLeaving w.node .silent c, _, levelsHanded_handLevels _ _, rfl,
        (hkept.mono (by decide)).trans ((nodeLeaving_keptBut _ _).mono (by decide)), fun i => ?_⟩
      · rw [publish_node, nodeSilent_node, hnode]
        rfl
      · have hi := inputOf_mem hn hk
        obtain ⟨hdebounced, hagree⟩ := nodeSilent_inp c hn hi
        rw [hinp] at hdebounced
        simp only [publish_inp, publish_ex]
        refine ⟨hdebounced, hagree, fun e howner he => nodeSilent_causeRec c hn hi ?_ he⟩
        rwa [hinp]
      · rw [nodeLeaving_inp _ _ hn, hinp]

end Sys2Proof.Machine
end

section
/-! PROOFS. REPLY: a good reply applied to its node's record, and its inputs' levels handed one by one (R51 to R53,
R56, R59, R64). -/

namespace Sys2Proof.Machine

/-! ### The bytes in the window (R51) -/

section
variable {u : State} {w : Window} {bs : List RxByte} (hwindow : u.window = some w)
include hwindow

theorem receiveReply_of_waiting (h : goodReply w.node ((w.bytes ++ bs).take 5) = none) :
    receiveReply bs u = { u with window := some { w with bytes := (w.bytes ++ bs).take 5 } } := by
  simp [receiveReply, hwindow, h]

variable {i st : Byte} (hgood : goodReply w.node ((w.bytes ++ bs).take 5) = some (i, st))
include hgood

theorem receiveReply_of_absent (h : present u.linkMask w.node = false) : receiveReply bs u = u.closed := by
  simp [receiveReply, hwindow, hgood, h, State.closed]

theorem receiveReply_of_present (h : present u.linkMask w.node = true) :
    receiveReply bs u = applyGood w.node i st u.closed := by
  simp [receiveReply, hwindow, hgood, h, State.closed]

end

/-! ### The node's record after a good reply (R52, R55) -/

/-- A node record after a good reply, whatever its state. -/
def Node.replied (st : Byte) (x : Node) : Node := { x with missRun := 0, status := st }

/-- A good reply noted in its node's record, with the LINK notice of a new status byte. -/
def noted (n : Nat) (st : Byte) (s : State) : State :=
  if (s.node n).status = st then s.modNode n (Node.replied st)
  else setNotice noticeLink (s.modNode n (Node.replied st))

section
variable {n : Nat} (st : Byte) (s : State)

theorem noted_keptBut : KeptBut [.nodes, .notice] s (noted n st s) := by
  unfold noted
  split
  · exact (State.modNode_keptBut s n _).mono (by decide)
  · exact ((State.modNode_keptBut s n _).mono (by decide)).trans ((setNotice_keptBut _ _).mono (by decide))

theorem noted_node : (noted n st s).node n = (s.node n).replied st := by
  unfold noted
  split <;> simp

theorem noted_node_other {j : Nat} (hj : j ≠ n) : (noted n st s).node j = s.node j := by
  unfold noted
  split
  · exact State.modNode_node_other _ _ _ _ hj
  · rw [setNotice_node, State.modNode_node_other _ _ _ _ hj]

end

/-- The bit position of a node's input. -/
theorem inputOf_mod (n : Nat) {k : Nat} (hk : k < 8) : (8 * (n - 1) + k) % 8 = k := by
  omega

/-! ### A node enters ANSWERING (R59) -/

/-- A node that enters ANSWERING with the raw levels of a reply, not yet handed. -/
def nodeEntering (n : Nat) (b : Byte) (s : State) : State :=
  (inputsOf n).foldl (fun u j => u.modInp j (fun x => { x with debounced := rawLevel b j, agree := 0 }))
    (setNotice noticeLink (s.modNode n (fun x => { x with state := .answering, missRun := 0, goodRun := 0 })))

section
variable {n : Nat} (b : Byte) (s : State)

/-- The entry and its levels; NODE SILENT is reviewed after them where the node was SILENT. -/
theorem nodeAnswers_eq : nodeAnswers n b s =
    if (s.node n).state = .silent then reviewCauses n (handLevels formLevel (inputsOf n) (nodeEntering n b s))
    else handLevels formLevel (inputsOf n) (nodeEntering n b s) := rfl

theorem nodeEntering_keptBut : KeptBut [.nodes, .inputs, .notice] s (nodeEntering n b s) :=
  ((State.modNode_keptBut s n _).mono (by decide)).trans <|
    ((setNotice_keptBut _ _).mono (by decide)).trans ((foldl_modInp_keptBut _ _ _).mono (by decide))

theorem nodeEntering_node : (nodeEntering n b s).node n =
    { s.node n with state := .answering, missRun := 0, goodRun := 0 } := by
  rw [nodeEntering, (foldl_modInp_keptBut _ _ _).node (by decide), setNotice_node, State.modNode_node_same]

theorem nodeEntering_node_other {j : Nat} (hj : j ≠ n) : (nodeEntering n b s).node j = s.node j := by
  rw [nodeEntering, (foldl_modInp_keptBut _ _ _).node (by decide), setNotice_node,
    State.modNode_node_other _ _ _ _ hj]

theorem nodeEntering_inp (hn : 1 ≤ n) (j : Nat) : (nodeEntering n b s).inp j =
    if j / 8 + 1 = n then { s.inp j with debounced := rawLevel b j, agree := 0 } else s.inp j := by
  rw [nodeEntering, foldl_inputsOf_inp hn (fun j x => { x with debounced := rawLevel b j, agree := 0 }),
    setNotice_inp, State.modNode_inp]

theorem nodeEntering_notice : (nodeEntering n b s).notice.getLsbD 5 = true := by
  rw [nodeEntering, (foldl_modInp_keptBut _ _ _ .notice (by decide) : _ = _)]
  exact setNotice_noticeLink _

theorem nodeAnswers_worked : Worked {j | j ∈ inputsOf n} (nodeEntering n b s) (nodeAnswers n b s) := by
  have hhanded := handLevels_worked formLevel (inputsOf n) (nodeEntering n b s)
  rw [nodeAnswers_eq]
  split
  · exact hhanded.after_clearCausesOf _ _
  · exact hhanded

theorem nodeAnswers_keptBut : KeptBut (.nodes :: eventFields) s (nodeAnswers n b s) :=
  ((nodeEntering_keptBut b s).mono (by decide)).trans ((nodeAnswers_worked b s).keptBut.mono (by simp))

theorem nodeAnswers_node (j : Nat) : (nodeAnswers n b s).node j = (nodeEntering n b s).node j :=
  (nodeAnswers_worked b s).keptBut.node (by decide) j

/-- Each input of the node has the raw level of the reply, debounced and accepted. -/
theorem nodeAnswers_inp (hn : 1 ≤ n) {k : Nat} (hk : k < 8) :
    ((nodeAnswers n b s).inp (8 * (n - 1) + k)).debounced = b.getLsbD k ∧
      ((nodeAnswers n b s).inp (8 * (n - 1) + k)).accepted = b.getLsbD k ∧
      ((nodeAnswers n b s).inp (8 * (n - 1) + k)).agree = 0 := by
  have hnode := nodeOf_inputOf hn hk
  have hentering : (nodeEntering n b s).inp (8 * (n - 1) + k) =
      { s.inp (8 * (n - 1) + k) with debounced := b.getLsbD k, agree := 0 } := by
    rw [nodeEntering_inp b s hn, if_pos hnode, rawLevel, inputOf_mod n hk]
  have hinp : ∀ j, (nodeAnswers n b s).inp j =
      (handLevels formLevel (inputsOf n) (nodeEntering n b s)).inp j := fun j => by
    rw [nodeAnswers_eq]
    split
    · exact outer_inp (reviewCauses_outer n _) j
    · rfl
  have hline := (nodeAnswers_worked (n := n) b s).line (8 * (n - 1) + k)
  refine ⟨?_, ?_, ?_⟩
  · rw [Input.line_debounced hline, hentering]
  · rw [hinp, handLevels_accepted (inputOf_mem hn hk) (by rw [nodeOf, hnode, nodeEntering_node]), hentering]
  · rw [Input.line_agree hline, hentering]

end

/-! ### Debouncing (R56) -/

/-- The inputs of a reply debounced together, their changes not yet handed. -/
def nodeDebounced (n : Nat) (b : Byte) (s : State) : State :=
  (inputsOf n).foldl (fun u j => u.modInp j (debounceInput s.depth (rawLevel b j))) s

section
variable {n : Nat} (b : Byte) (s : State)

theorem debounceInput_eq (depth : Nat) (raw : Bool) (x : Input) : debounceInput depth raw x =
    if raw = x.debounced then { x with agree := 0 }
    else if x.agree + 1 < depth then { x with agree := x.agree + 1 }
    else { x with debounced := raw, agree := 0 } := by
  unfold debounceInput
  split
  · rfl
  · split
    · rw [if_neg (by omega)]
    · rw [if_pos (by omega)]

theorem debounceNode_eq : debounceNode n b s = handLevels formLevel (inputsOf n) (nodeDebounced n b s) := rfl

theorem nodeDebounced_keptBut : KeptBut [.inputs] s (nodeDebounced n b s) := foldl_modInp_keptBut _ _ _

theorem nodeDebounced_inp (hn : 1 ≤ n) (j : Nat) : (nodeDebounced n b s).inp j =
    if j / 8 + 1 = n then debounceInput s.depth (rawLevel b j) (s.inp j) else s.inp j :=
  foldl_inputsOf_inp hn (fun j => debounceInput s.depth (rawLevel b j)) s j

theorem debounceNode_worked : Worked {j | j ∈ inputsOf n} (nodeDebounced n b s) (debounceNode n b s) :=
  handLevels_worked _ _ _

theorem debounceNode_keptBut : KeptBut eventFields s (debounceNode n b s) :=
  ((nodeDebounced_keptBut b s).mono (by decide)).trans (debounceNode_worked b s).keptBut

theorem debounceNode_accepted (hn : 1 ≤ n) {k : Nat} (hk : k < 8) (hanswers : (s.node n).state = .answering) :
    ((debounceNode n b s).inp (8 * (n - 1) + k)).accepted =
      ((debounceNode n b s).inp (8 * (n - 1) + k)).debounced := by
  rw [Input.line_debounced ((debounceNode_worked (n := n) b s).line _), debounceNode_eq,
    handLevels_accepted (inputOf_mem hn hk)]
  rw [nodeOf, nodeOf_inputOf hn hk, (nodeDebounced_keptBut b s).node (by decide), hanswers]

end

/-! ### A good reply applied (R52) -/

section
variable {n : Nat} {b st : Byte} {s : State}

theorem applyGood_of_unknown (h : (s.node n).state = .unknown) :
    applyGood n b st s = nodeAnswers n b (noted n st s) := by
  simp only [applyGood, h]
  rfl

theorem applyGood_of_answering (h : (s.node n).state = .answering) :
    applyGood n b st s = debounceNode n b (noted n st s) := by
  simp only [applyGood, h]
  rfl

theorem applyGood_of_silent_again (h : (s.node n).state = .silent) (hgood : 1 ≤ (s.node n).goodRun) :
    applyGood n b st s = nodeAnswers n b (noted n st s) := by
  simp only [applyGood, h]
  exact if_pos (by omega)

theorem applyGood_of_silent_first (h : (s.node n).state = .silent) (hgood : (s.node n).goodRun = 0) :
    applyGood n b st s = (noted n st s).modNode n (fun x => { x with goodRun := x.goodRun + 1 }) := by
  simp only [applyGood, h]
  exact if_neg (by omega)

/-- What a good reply comes to: the entry into ANSWERING, debouncing, or one more good reply. -/
theorem applyGood_cases (n : Nat) (b st : Byte) (s : State) :
    applyGood n b st s = nodeAnswers n b (noted n st s) ∨ applyGood n b st s = debounceNode n b (noted n st s) ∨
      applyGood n b st s = (noted n st s).modNode n (fun x => { x with goodRun := x.goodRun + 1 }) := by
  cases h : (s.node n).state with
  | unknown => exact .inl (applyGood_of_unknown h)
  | answering => exact .inr (.inl (applyGood_of_answering h))
  | silent =>
    rcases Nat.eq_zero_or_pos (s.node n).goodRun with hzero | hpos
    · exact .inr (.inr (applyGood_of_silent_first h hzero))
    · exact .inl (applyGood_of_silent_again h hpos)

theorem applyGood_keptBut (n : Nat) (b st : Byte) (s : State) :
    KeptBut (.nodes :: eventFields) s (applyGood n b st s) := by
  refine ((noted_keptBut (n := n) st s).mono (by decide)).trans ?_
  rcases applyGood_cases n b st s with h | h | h <;> rw [h]
  · exact nodeAnswers_keptBut b _
  · exact (debounceNode_keptBut b _).mono (by simp)
  · exact (State.modNode_keptBut _ n _).mono (by simp)

theorem applyGood_node_other {j : Nat} (hj : j ≠ n) : (applyGood n b st s).node j = s.node j := by
  rw [← noted_node_other st s hj]
  rcases applyGood_cases n b st s with h | h | h <;> rw [h]
  · rw [nodeAnswers_node, nodeEntering_node_other b _ hj]
  · exact (debounceNode_keptBut b _).node (by decide) j
  · exact State.modNode_node_other _ _ _ _ hj

end

/-! ### REPLY -/

/-- A node's inputs changed by their bit positions, once a good reply has been noted. -/
theorem changed_of_noted {n : Nat} (hn : 1 ≤ n) (st : Byte) {u v : State} (f : Nat → Input → Input)
    (hkept : KeptBut [.nodes, .inputs, .notice] (noted n st u.closed) v)
    (hinp : ∀ j, v.inp j = if j / 8 + 1 = n then f (j % 8) (u.inp j) else u.inp j) :
    KeptBut [.window, .nodes, .inputs, .notice] u v ∧ (∀ j, j / 8 + 1 ≠ n → v.inp j = u.inp j) ∧
      ∀ k, k < 8 → v.inp (8 * (n - 1) + k) = f k (u.inp (8 * (n - 1) + k)) := by
  refine ⟨?_, fun j hj => ?_, fun k hk => ?_⟩
  · exact (u.closed_keptBut.mono (by decide)).trans <|
      ((noted_keptBut st _).mono (by decide)).trans (hkept.mono (by decide))
  · rw [hinp, if_neg hj]
  · rw [hinp, if_pos (nodeOf_inputOf hn hk), inputOf_mod n hk]

/-- Settles O45: a good reply is noted in the node's record, and then the node's state decides whether its levels
are taken whole, debounced, or not at all. -/
theorem replyIsApplied : Obligations.ReplyIsApplied := by
  intro bs s u wide
  have hexec : exec (.reply bs) s = .next (publish (receiveReply bs u)) := rfl
  refine ⟨fun hnone => ?_, fun w hwindow hbad => ?_, fun w i st hwindow hgood => ⟨fun habsent => ?_,
    fun hpresent => ?_⟩⟩
  · rw [hexec, receiveReply, hnone]
  · refine ⟨_, hexec, ?_⟩
    rw [receiveReply_of_waiting hwindow hbad]
    exact ⟨rfl, ((with_window_keptBut u _).mono (by decide)).trans ((publish_keptBut _).mono (by decide))⟩
  · refine ⟨_, hexec, ?_⟩
    rw [receiveReply_of_absent hwindow hgood habsent]
    exact ⟨rfl, (KeptBut.refl _ _).publish_of_closed (by decide) (by decide)⟩
  · intro x handed
    have hn := one_le_of_present hpresent
    have hkept := applyGood_keptBut w.node i st u.closed
    have hnoted : (noted w.node st u.closed).node w.node = (u.node w.node).replied st := noted_node st u.closed
    have hinp (j : Nat) : (noted w.node st u.closed).inp j = u.inp j :=
      (noted_keptBut st u.closed).inp (by decide) j
    have hdepth : (noted w.node st u.closed).depth = u.depth := noted_keptBut st u.closed .depth (by decide)
    rw [receiveReply_of_present hwindow hgood hpresent] at hexec
    refine ⟨_, hexec, hkept .window (by decide), (hkept.mono (by decide)).publish_of_closed (by decide) (by decide),
      fun j hj => applyGood_node_other hj, fun henters => ?_, fun hunknown => ?_, fun hsilent hfirst => ?_,
      fun hanswers => ?_⟩
    · have happly : applyGood w.node i st u.closed = nodeAnswers w.node i (noted w.node st u.closed) :=
        henters.elim (applyGood_of_unknown (s := u.closed) ·) fun h =>
          applyGood_of_silent_again (s := u.closed) h.1 h.2
      rw [happly]
      refine ⟨?_, publish_notice_of _ _ ((nodeAnswers_worked _ _).notice (nodeEntering_notice _ _)),
        fun k hk => ?_⟩
      · rw [publish_node, nodeAnswers_node, nodeEntering_node, hnoted]
        rfl
      · simp only [publish_inp]
        exact nodeAnswers_inp i _ hn hk
    · have hstate : ((noted w.node st u.closed).node w.node).state ≠ .silent := by
        rw [hnoted, Node.replied, hunknown]
        decide
      have happly : applyGood w.node i st u.closed =
          handLevels formLevel (inputsOf w.node) (nodeEntering w.node i (noted w.node st u.closed)) := by
        rw [applyGood_of_unknown (s := u.closed) hunknown, nodeAnswers_eq, if_neg hstate]
      refine ⟨nodeEntering w.node i (noted w.node st u.closed), _, levelsHanded_handLevels _ _,
        congrArg publish happly, ?_⟩
      refine changed_of_noted (u := u) hn st (fun k y => { y with debounced := i.getLsbD k, agree := 0 })
        (nodeEntering_keptBut i _) fun j => ?_
      rw [nodeEntering_inp i _ hn, hinp]
      rfl
    · rw [applyGood_of_silent_first (s := u.closed) hsilent hfirst]
      refine ⟨?_, ?_⟩
      · rw [publish_node, State.modNode_node_same, hnoted, Node.replied, hfirst]
      · exact (((noted_keptBut st u.closed).mono (by decide)).trans
          ((State.modNode_keptBut _ _ _).mono (by decide))).publish_of_closed (by decide) (by decide)
    · have happly := applyGood_of_answering (b := i) (st := st) (s := u.closed) hanswers
      have hstate : ((noted w.node st u.closed).node w.node).state = .answering := by rw [hnoted]; exact hanswers
      rw [happly]
      have hkeeps := (nodeDebounced_keptBut (n := w.node) i (noted w.node st u.closed)).mono
        (by decide : _ ⊆ [Field.nodes, .inputs, .notice])
      obtain ⟨hframe, hothers, hchanged⟩ := changed_of_noted hn st
        (fun k => debounceInput u.depth (i.getLsbD k)) hkeeps fun j => by
          rw [nodeDebounced_inp i _ hn, hinp, hdepth]
          rfl
      refine ⟨?_, fun k hk => ?_, nodeDebounced w.node i (noted w.node st u.closed), _,
        levelsHanded_handLevels _ _, rfl, hframe, hothers, fun k hk => (hchanged k hk).trans (debounceInput_eq ..)⟩
      · rw [publish_node, (debounceNode_keptBut i _).node (by decide), hnoted]
        rfl
      · simp only [publish_inp]
        exact debounceNode_accepted i _ hn hk hstate

end Sys2Proof.Machine
end

section
/-! PROOFS. SET STATION LINK replaces the link settings (R54, R62). -/

namespace Sys2Proof.Machine

/-! ### The order's parameters -/

/-- A halfword is put together again from its bytes. -/
theorem byteOf_append_half (v : Half) : byteOf 1 v ++ byteOf 0 v = v :=
  (BitVec.extractLsb'_append_extractLsb'_eq_extractLsb' rfl).trans BitVec.extractLsb'_eq_self

/-- A word is put together again from its bytes. -/
theorem byteOf_append_word (v : Word) :
    ((byteOf 3 v ++ byteOf 2 v : Half) ++ (byteOf 1 v ++ byteOf 0 v : Half) : Word) = v := by
  have hhigh : (byteOf 3 v ++ byteOf 2 v : Half) = v.extractLsb' 16 16 :=
    BitVec.extractLsb'_append_extractLsb'_eq_extractLsb' rfl
  have hlow : (byteOf 1 v ++ byteOf 0 v : Half) = v.extractLsb' 0 16 :=
    BitVec.extractLsb'_append_extractLsb'_eq_extractLsb' rfl
  rw [hhigh, hlow]
  exact (BitVec.extractLsb'_append_extractLsb'_eq_extractLsb' rfl).trans BitVec.extractLsb'_eq_self

/-- SET STATION LINK is read from its slot as written. -/
theorem readOrder_setLink (h : OrderHead) (m : Word) (w : Half) (d : Byte) :
    readOrder (hostFieldsOf h (.setLink m w d)).kind (hostFieldsOf h (.setLink m w d)).params =
      some (.setLink m w d) := by
  simp [hostFieldsOf, kindCodeOf, readOrder, paramBytes, paramField, wordBytes, halfBytes, peekWord, peekHalf,
    byteOf_append_half]
  exact byteOf_append_word m

/-! ### Agreement counts cleared (R62) -/

theorem clearAgree_inp {n : Nat} (hn : 1 ≤ n) (s : State) (j : Nat) :
    (clearAgree n s).inp j = if j / 8 + 1 = n then { s.inp j with agree := 0 } else s.inp j :=
  foldl_inputsOf_inp hn (fun _ x => { x with agree := 0 }) s j

theorem foldl_clearAgree_agree (l : List Nat) (hl : ∀ n ∈ l, 1 ≤ n) (s : State) (j : Nat) :
    ((l.foldl (fun u n => clearAgree n u) s).inp j).agree = if j / 8 + 1 ∈ l then 0 else (s.inp j).agree := by
  induction l generalizing s with
  | nil => rfl
  | cons n l ih =>
    rw [List.foldl_cons, ih fun k hk => hl k (List.mem_cons_of_mem n hk), clearAgree_inp (hl n List.mem_cons_self)]
    by_cases hj : j / 8 + 1 = n
    · simp [hj]
    · simp [hj]

theorem mem_addresses {n : Nat} : n ∈ addresses ↔ 1 ≤ n ∧ n ≤ 32 := by
  simp only [addresses, List.mem_map, List.mem_range]
  constructor
  · rintro ⟨k, hk, rfl⟩
    omega
  · exact fun h => ⟨n - 1, by omega, by omega⟩

/-! ### The settings replaced (R62) -/

/-- The link settings replaced, no node's part in the mask changed yet. -/
def linkSet (m : Word) (timeout depth : Nat) (s : State) : State :=
  setNotice noticeLink (addresses.foldl (fun u n => clearAgree n u)
    { s with linkMask := m, linkTimeout := timeout, depth := depth })

section
variable (m : Word) (timeout depth : Nat) (s : State)

theorem applyLink_eq : applyLink m timeout depth s = eachEvent (remask s.linkMask m)
    (addresses.filter (fun n => present m n != present s.linkMask n)) (linkSet m timeout depth s) := rfl

/-- A mask that is repeated changes no node's part. -/
theorem applyLink_of_repeated (h : m = s.linkMask) :
    applyLink m timeout depth s = linkSet m timeout depth s := by
  rw [applyLink_eq, h, List.filter_eq_nil_iff.2 fun n _ => by simp]
  rfl

theorem linkSet_cleared : KeptBut [.inputs, .notice]
    { s with linkMask := m, linkTimeout := timeout, depth := depth } (linkSet m timeout depth s) :=
  (KeptBut.foldl _ (fun u n => (clearAgree_keptBut (n := n) u).mono (by decide)) _ _).trans
    ((setNotice_keptBut _ _).mono (by decide))

theorem linkSet_keptBut :
    KeptBut [.linkMask, .linkTimeout, .depth, .inputs, .notice] s (linkSet m timeout depth s) := by
  refine KeptBut.trans (t := { s with linkMask := m, linkTimeout := timeout, depth := depth }) (fun f hf => ?_)
    ((linkSet_cleared m timeout depth s).mono (by decide))
  cases f <;> first | rfl | exact absurd (by decide) hf

theorem linkSet_linkMask : (linkSet m timeout depth s).linkMask = m :=
  linkSet_cleared m timeout depth s .linkMask (by decide)

theorem linkSet_linkTimeout : (linkSet m timeout depth s).linkTimeout = timeout :=
  linkSet_cleared m timeout depth s .linkTimeout (by decide)

theorem linkSet_depth : (linkSet m timeout depth s).depth = depth :=
  linkSet_cleared m timeout depth s .depth (by decide)

theorem linkSet_notice : (linkSet m timeout depth s).notice.getLsbD 5 = true := setNotice_noticeLink _

theorem linkSet_agree {j : Nat} (hj : j < 256) : ((linkSet m timeout depth s).inp j).agree = 0 := by
  rw [linkSet, setNotice_inp, foldl_clearAgree_agree _ fun n hn => (mem_addresses.1 hn).1,
    if_pos (mem_addresses.2 ⟨by omega, by omega⟩)]

end

/-! ### The nodes of a new mask (R54) -/

/-- What the change of a node's part in the mask keeps: what takes wrote in the slots, notices, agreement counts of
0, and the fields outside the exhibits, the input unit and the node records. -/
structure Remasked (u t : State) : Prop where
  take : ∀ j, (t.slot j).take = (u.slot j).take
  notice : ∀ n, u.notice.getLsbD n = true → t.notice.getLsbD n = true
  agree : ∀ j, (u.inp j).agree = 0 → (t.inp j).agree = 0
  kept : KeptBut (.nodes :: eventFields) u t

namespace Remasked

theorem refl (u : State) : Remasked u u := ⟨fun _ => rfl, fun _ => id, fun _ => id, .refl _ _⟩

theorem of_worked {A : Set Nat} {u t : State} (h : Worked A u t) : Remasked u t where
  take := h.take
  notice _ := h.notice
  agree j hj := (Input.line_agree (h.line j)).trans hj
  kept := h.keptBut.mono (by simp)

theorem of_modNode (u : State) (n : Nat) (f : Node → Node) : Remasked u (u.modNode n f) where
  take _ := rfl
  notice _ := id
  agree _ := id
  kept := (State.modNode_keptBut u n f).mono (by simp)

theorem of_nodeLeaving {n : Nat} (hn : 1 ≤ n) (st : NodeState) (u : State) : Remasked u (nodeLeaving n st u) where
  take j := congrArg Slot.take ((nodeLeaving_keptBut st u).slot (by decide) j)
  notice k hk := by
    rw [nodeLeaving, (clearAgree_keptBut _ .notice (by decide) : _ = _)]
    simp [setNotice, hk]
  agree j hj := by
    rw [nodeLeaving_inp st u hn]
    split
    · rfl
    · exact hj
  kept := (nodeLeaving_keptBut st u).mono (by decide)

theorem trans {u s t : State} (h : Remasked u s) (k : Remasked s t) : Remasked u t where
  take j := (k.take j).trans (h.take j)
  notice n hn := k.notice n (h.notice n hn)
  agree j hj := k.agree j (h.agree j hj)
  kept := h.kept.trans k.kept

theorem of_remask (old new : Word) {n : Nat} (hn : 1 ≤ n) (u : State) : Remasked u (remask old new n u) := by
  unfold remask
  split
  · exact of_modNode u n _
  · split
    · split
      · exact refl u
      · exact (of_nodeLeaving hn .unknown u).trans (of_worked (handLevels_worked _ _ _))
      · exact (of_modNode u n _).trans (of_worked (A := ∅) ((Worked.refl.after_notice _).after_clearCausesOf _ _))
    · exact refl u

theorem of_applyLink (m : Word) (timeout depth : Nat) (u : State) :
    Remasked (linkSet m timeout depth u) (applyLink m timeout depth u) := by
  rw [applyLink_eq]
  refine eachEvent_induct _ _ _ (refl _) fun n t hn ht => ?_
  have hpos : 1 ≤ n := (mem_addresses.1 (List.mem_filter.1 hn).1).1
  exact (ht.trans (of_remask _ _ hpos t)).trans (of_worked (A := ∅) Worked.refl.after_closeEvent)

end Remasked

/-! ### SET STATION LINK -/

/-- A field that is the same leaves a frame's list. -/
theorem KeptBut.drop {fs : List Field} {f : Field} {s t : State} (h : KeptBut (f :: fs) s t)
    (hf : Field.kept f s t) : KeptBut fs s t := fun g hg => by
  by_cases hgf : g = f
  · exact hgf ▸ hf
  · exact h g (by simp [hgf, hg])

/-- What an accepted SET STATION LINK comes to. -/
theorem postAndTake_setLink {h : OrderHead} {m : Word} {w : Half} {d : Byte} {u : State}
    (hmay : MayOrderGallery u h) (huntimed : Untimed h) (hparams : paramsOk (.setLink m w d) = true) :
    postAndTake h (.setLink m w d) u = complete h.slot.val .done u.linkMask
      (applyLink m w.toNat d.toNat (accepted h (.setLink m w d) u)) := by
  obtain ⟨hopen, hsource⟩ := hmay
  refine postAndTake_of_go hopen (readOrder_setLink h m w d) ?_ huntimed (by simp [kindCodeOf]) rfl
  exact takeRefusal_none (readOrder_setLink h m w d) (exhibitCheck_gallery _ rfl (by simp) (by simp))
    ((accessAllowed_gallery _ _ rfl).trans hsource) hparams huntimed

/-- Settles O36: the settings are replaced with every agreement count cleared, and no event of a node that joins or
leaves the mask undoes that or the order's take. -/
theorem setStationLinkReplacesSettings : Obligations.SetStationLinkReplacesSettings := by
  intro h m w d s u hmay huntimed hlow hhigh hstep hdlow hdhigh
  have hparams : paramsOk (.setLink m w d) = true := by
    simp [paramsOk, inRange, hlow, hhigh, hstep, hdlow, hdhigh]
  have hset := linkSet_keptBut m w.toNat d.toNat (accepted h (.setLink m w d) u)
  have hmasked := Remasked.of_applyLink m w.toNat d.toNat (accepted h (.setLink m w d) u)
  refine ⟨publish (complete h.slot.val .done u.linkMask
      (applyLink m w.toNat d.toNat (accepted h (.setLink m w d) u))),
    exec_orderCommand (postAndTake_setLink hmay huntimed hparams),
    ?_, ?_, ?_, ?_, ?_, ?_, fun i hi => ?_, ?_, fun hsame _ => ?_⟩
  · refine slotDone_of_complete ((hmasked.take _).trans ?_) (port_lastTaken (applyLink_port ..))
    exact (congrArg Slot.take (hset.slot (by decide) _)).trans (accepted_take h _ u)
  · exact (hmasked.kept .linkMask (by decide)).trans (linkSet_linkMask ..)
  · exact (hmasked.kept .linkTimeout (by decide)).trans (linkSet_linkTimeout ..)
  · exact (hmasked.kept .depth (by decide)).trans (linkSet_depth ..)
  · exact (hmasked.kept .window (by decide)).trans (hset .window (by decide))
  · exact ((Worked.refl (A := ∅)).after_complete _ _ _).after_publish.notice (hmasked.notice 5 (linkSet_notice ..))
  · exact hmasked.agree i (linkSet_agree _ _ _ _ hi)
  · exact (((keptBut_accepted (by decide)).trans (hset.mono (by decide))).trans
      (hmasked.kept.mono (by decide))).publish_complete (by decide) _ _ _
  · rw [applyLink_of_repeated m _ _ (accepted h (.setLink m w d) u) hsame]
    refine ⟨otherSlots_publish_complete fun j => hset.slot (by decide) j, ?_⟩
    have hkept : KeptBut ([.linkTimeout, .depth, .inputs] ++ orderFields) (accepted h (.setLink m w d) u) _ :=
      (hset.drop ((linkSet_linkMask ..).trans hsame)).mono (by decide)
    exact ((keptBut_accepted (by decide)).trans hkept).publish_complete (by decide) _ _ _

end Sys2Proof.Machine
end

section
/-! PROOFS. The presses of a station input that no tally counts (R63, R66): every event counts a press and its
outcome together, so the count of the others stands until the input's record starts anew. -/

namespace Sys2Proof.Machine

/-! ### Presses that no tally counts -/

/-- The presses of an input beyond its acted, declined and suppressed ones, modulo 2^32. -/
def Input.untallied (x : Input) : Word := x.presses - (x.acted + x.declined + x.suppressed)

/-- The untallied presses of every input, among the outer fields, so that an operation that keeps these keeps
those. -/
def Outer.untallied (o : Outer) : Nat → Word := fun i => (lookup .fresh o.inputs i).untallied

/-- The tally law is that no input has an untallied press (R66). -/
theorem talliesAgree_iff (s : State) : TalliesAgree s ↔ s.outer.untallied = 0 := by
  rw [funext_iff]
  exact forall_congr' fun i => sub_eq_zero.symm

/-- What a change of one input's record does to the untallied presses. -/
theorem State.modInp_untallied (s : State) (k : Nat) (f : Input → Input) :
    (s.modInp k f).outer.untallied = Function.update s.outer.untallied k (f (s.inp k)).untallied := by
  funext j
  change ((s.modInp k f).inp j).untallied = _
  by_cases hj : j = k
  · subst hj; simp
  · rw [State.modInp_inp_other _ _ _ _ hj, Function.update_of_ne hj]; rfl

/-- A change of an input's record that leaves its tallies as they are keeps the untallied presses. -/
theorem State.modInp_untallied_of_same (s : State) (k : Nat) (f : Input → Input)
    (hf : (f (s.inp k)).untallied = (s.inp k).untallied) :
    (s.modInp k f).outer.untallied = s.outer.untallied := by
  rw [State.modInp_untallied, hf]
  exact Function.update_eq_self _ _

/-- A fold of operations that keep the untallied presses keeps them. -/
theorem untallied_foldl {α : Type} (f : State → α → State)
    (h : ∀ s a, (f s a).outer.untallied = s.outer.untallied) (l : List α) (s : State) :
    (l.foldl f s).outer.untallied = s.outer.untallied := by
  induction l generalizing s with
  | nil => rfl
  | cons a l ih => rw [List.foldl_cons, ih, h]

/-- Changes of the inputs of a list that leave the tallies as they are keep the untallied presses. -/
theorem foldl_modInp_untallied (f : Nat → Input → Input) (hf : ∀ i x, (f i x).untallied = x.untallied)
    (is : List Nat) (s : State) :
    (is.foldl (fun u i => u.modInp i (f i)) s).outer.untallied = s.outer.untallied :=
  untallied_foldl _ (fun u i => State.modInp_untallied_of_same u i (f i) (hf i _)) is s

/-- Events that keep the untallied presses keep them together. -/
theorem eachEvent_untallied (f : Nat → State → State)
    (hf : ∀ k s, (f k s).outer.untallied = s.outer.untallied) (ks : List Nat) (s : State) :
    (eachEvent f ks s).outer.untallied = s.outer.untallied :=
  untallied_foldl _ (fun s k => by rw [closeEvent_outer, hf]) _ _

/-! ### The journal (chapter 5) -/

@[simp] theorem writeRecord_untallied (k : Nat) (r : PressRec) (s : State) :
    (writeRecord k r s).outer.untallied = s.outer.untallied := by
  unfold writeRecord
  dsimp only
  split <;> rfl

@[simp] theorem placeRecord_untallied (r : PressRec) (s : State) :
    (placeRecord r s).outer.untallied = s.outer.untallied := by
  unfold placeRecord
  dsimp only
  split
  · exact writeRecord_untallied ..
  · split
    · exact writeRecord_untallied ..
    · rfl

@[simp] theorem lingerDue_untallied (s : State) : (lingerDue s).outer.untallied = s.outer.untallied := by
  unfold lingerDue
  split
  · split <;> rfl
  · rfl

@[simp] theorem giveBack_untallied (k : Nat) (s : State) :
    (giveBack k s).outer.untallied = s.outer.untallied := by
  unfold giveBack
  split <;> rfl

/-! ### Presses (R65, R66) -/

/-- A press counted is one untallied press more. -/
theorem Input.untallied_counted (x : Input) (now : Tick) :
    Input.untallied { x with presses := x.presses + 1, lastEvent := now } = x.untallied + 1 := by
  simp only [Input.untallied]
  ring

/-- Every outcome is in exactly one tally: one untallied press less. -/
theorem tallyPress_untallied (o : PressOutcome) (x : Input) : (tallyPress o x).untallied = x.untallied - 1 := by
  cases o <;> simp only [tallyPress, Input.untallied] <;> ring

@[simp] theorem spendToken_untallied (e i : Nat) (s : State) :
    (spendToken e i s).outer.untallied = s.outer.untallied := State.modInp_untallied_of_same _ _ _ rfl

@[simp] theorem stampEvent_untallied (i : Nat) (s : State) :
    (stampEvent i s).outer.untallied = s.outer.untallied := State.modInp_untallied_of_same _ _ _ rfl

@[simp] theorem refillDue_untallied (i : Nat) (s : State) :
    (refillDue i s).outer.untallied = s.outer.untallied := by
  unfold refillDue
  split
  · split
    · split
      · exact State.modInp_untallied_of_same _ _ _ rfl
      · rfl
    · rfl
  · rfl

/-- Deciding a press tallies nothing yet. -/
@[simp] theorem buttonPress_untallied (e i : Nat) (s : State) :
    (buttonPress e i s).1.outer.untallied = s.outer.untallied := by
  unfold buttonPress
  split
  · simp
  · split
    · rfl
    · split
      · rfl
      · rw [applyAction_outer, spendToken_untallied]

/-- A press that has been counted is tallied when it is finished (R66). -/
theorem finishPress_untallied {u : Nat → Word} {s : State} {i : Nat} (o : PressOutcome) (r : PressRec)
    (hcounted : s.outer.untallied = Function.update u i (u i + 1)) :
    (finishPress i o r s).outer.untallied = u := by
  have hone : (s.inp i).untallied = u i + 1 := (congrFun hcounted i).trans (Function.update_self ..)
  have htallied : (s.modInp i (tallyPress o)).outer.untallied = u := by
    rw [State.modInp_untallied, tallyPress_untallied, hone, add_sub_cancel_right, hcounted, Function.update_idem,
      Function.update_eq_self]
  unfold finishPress
  dsimp only
  split
  · exact htallied
  · rw [placeRecord_untallied, htallied]

/-- A press is counted and tallied at one event (R66). -/
@[simp] theorem press_untallied (i : Nat) (s : State) : (press i s).outer.untallied = s.outer.untallied := by
  have hcounted : (s.modInp i (fun x => { x with presses := x.presses + 1, lastEvent := s.tick })).outer.untallied =
      Function.update s.outer.untallied i (s.outer.untallied i + 1) := by
    rw [State.modInp_untallied, Input.untallied_counted]
    rfl
  unfold press
  dsimp only
  split
  · exact finishPress_untallied _ _ hcounted
  · exact finishPress_untallied _ _ ((buttonPress_untallied ..).trans hcounted)

/-! ### The other events of the input unit (chapter 4) -/

@[simp] theorem classEvent_untallied (e i : Nat) (c : InputClass) (lvl : Bool) (s : State) :
    (classEvent e i c lvl s).outer.untallied = s.outer.untallied := by
  unfold classEvent
  split <;> simp

/-- An event of a station input keeps the untallied presses. -/
@[simp] theorem inputEvent_untallied (i : Nat) (lvl : Bool) (s : State) :
    (inputEvent i lvl s).outer.untallied = s.outer.untallied := by
  have hlevel : (s.modInp i (fun x => { x with accepted := lvl })).outer.untallied = s.outer.untallied :=
    State.modInp_untallied_of_same _ _ _ rfl
  unfold inputEvent
  dsimp only
  split
  · rw [classEvent_untallied, hlevel]
  · split
    · rw [press_untallied, hlevel]
    · exact hlevel

/-! ### The station link (chapter 3) -/

@[simp] theorem State.modNode_untallied (s : State) (n : Nat) (f : Node → Node) :
    (s.modNode n f).outer.untallied = s.outer.untallied := rfl

@[simp] theorem handLevels_untallied (f : State → Nat → Bool) (is : List Nat) (s : State) :
    (handLevels f is s).outer.untallied = s.outer.untallied :=
  untallied_foldl _ (fun u i => by split <;> simp) _ _

@[simp] theorem clearAgree_untallied (n : Nat) (s : State) :
    (clearAgree n s).outer.untallied = s.outer.untallied :=
  foldl_modInp_untallied (fun _ x => { x with agree := 0 }) (fun _ _ => rfl) _ s

@[simp] theorem nodeLeaves_untallied (n : Nat) (st : NodeState) (s : State) :
    (nodeLeaves n st s).outer.untallied = s.outer.untallied := by
  simp [nodeLeaves]

@[simp] theorem nodeSilent_untallied (n : Nat) (s : State) :
    (nodeSilent n s).outer.untallied = s.outer.untallied := by
  simp [nodeSilent]

@[simp] theorem nodeAnswers_untallied (n : Nat) (b : Byte) (s : State) :
    (nodeAnswers n b s).outer.untallied = s.outer.untallied := by
  have hlevels : ∀ u : State, ((inputsOf n).foldl (fun u i =>
      u.modInp i (fun x => { x with debounced := rawLevel b i, agree := 0 })) u).outer.untallied =
        u.outer.untallied := foldl_modInp_untallied (fun i x => { x with debounced := rawLevel b i, agree := 0 })
          (fun _ _ => rfl) _
  unfold nodeAnswers
  dsimp only
  split <;> simp [hlevels]

theorem debounceInput_untallied (depth : Nat) (raw : Bool) (x : Input) :
    (debounceInput depth raw x).untallied = x.untallied := by
  unfold debounceInput
  split
  · rfl
  · split <;> rfl

@[simp] theorem debounceNode_untallied (n : Nat) (b : Byte) (s : State) :
    (debounceNode n b s).outer.untallied = s.outer.untallied :=
  (handLevels_untallied ..).trans <|
    foldl_modInp_untallied (fun i => debounceInput s.depth (rawLevel b i)) (fun _ _ => debounceInput_untallied ..) _ s

@[simp] theorem applyGood_untallied (n : Nat) (b st : Byte) (s : State) :
    (applyGood n b st s).outer.untallied = s.outer.untallied := by
  have hstatus : ∀ u : State, (if (s.node n).status = st then u else setNotice noticeLink u).outer.untallied =
      u.outer.untallied := fun u => by split <;> rfl
  unfold applyGood
  dsimp only
  split
  · simp [hstatus]
  · simp [hstatus]
  · split <;> simp [hstatus]

@[simp] theorem applyMiss_untallied (n : Nat) (s : State) :
    (applyMiss n s).outer.untallied = s.outer.untallied := by
  unfold applyMiss
  dsimp only
  split
  · split <;> simp
  · rfl
  · rfl

@[simp] theorem receiveReply_untallied (bs : List RxByte) (s : State) :
    (receiveReply bs s).outer.untallied = s.outer.untallied := by
  unfold receiveReply
  split
  · rfl
  · dsimp only
    split
    · split
      · exact applyGood_untallied ..
      · rfl
    · rfl

@[simp] theorem windowCloses_untallied (s : State) :
    (windowCloses s).outer.untallied = s.outer.untallied := by
  unfold windowCloses
  split
  · rfl
  · dsimp only
    split
    · exact applyMiss_untallied ..
    · rfl

@[simp] theorem remask_untallied (old new : Word) (n : Nat) (s : State) :
    (remask old new n s).outer.untallied = s.outer.untallied := by
  unfold remask
  split
  · rfl
  · split
    · split <;> simp
    · rfl

@[simp] theorem applyLink_untallied (m : Word) (t d : Nat) (s : State) :
    (applyLink m t d s).outer.untallied = s.outer.untallied := by
  have hagree : ∀ (l : List Nat) (u : State), (l.foldl (fun u n => clearAgree n u) u).outer.untallied =
      u.outer.untallied := untallied_foldl _ fun _ _ => clearAgree_untallied ..
  unfold applyLink
  dsimp only
  rw [eachEvent_untallied _ fun _ _ => remask_untallied .., setNotice_outer, hagree]
  rfl

/-! ### The attendant channel and the zones (chapter 9) -/

@[simp] theorem takeByte_untallied (s : State) (b : RxByte) :
    (takeByte s b).outer.untallied = s.outer.untallied := by
  have hjudge : ∀ (bs : List Byte) (u : State), (judgeFrame bs u).outer.untallied = u.outer.untallied := by
    intro bs u
    unfold judgeFrame matchAck
    split
    · split
      · dsimp only
        split
        · simp
        · rfl
      · rfl
    · rfl
  have hreceive : (receiveByte b s).outer.untallied = s.outer.untallied := by
    unfold receiveByte
    split
    · split <;> rfl
    · dsimp only
      split
      · rfl
      · split
        · rfl
        · split
          · exact hjudge ..
          · rfl
  unfold takeByte
  dsimp only
  split <;> simp [hreceive]

@[simp] theorem receiveBytes_untallied (bs : List RxByte) (s : State) :
    (receiveBytes bs s).outer.untallied = s.outer.untallied :=
  untallied_foldl _ takeByte_untallied _ _

@[simp] theorem applyZone_untallied (z : ZoneParams) (s : State) :
    (applyZone z s).outer.untallied = s.outer.untallied := by
  have hclaim : ∀ (l : List Nat) (u : State), (l.foldl (fun u a => claimAddr a u) u).outer = u.outer :=
    outer_foldl _ (fun _ _ => claimAddr_outer ..)
  unfold applyZone
  simp only [rechoose_outer, hclaim, giveUpUnnamed_outer]
  rfl

/-! ### The gallery mode -/

@[simp] theorem enterHalt_untallied (s : State) : (enterHalt s).outer.untallied = s.outer.untallied := by
  unfold enterHalt
  split
  · rfl
  · rw [holdGallery_outer]; rfl

@[simp] theorem setMode_untallied (m : GalleryMode) (s : State) :
    (setMode m s).outer.untallied = s.outer.untallied := by
  unfold setMode
  split
  · simp
  · split
    · rw [releaseGallery_outer]; rfl
    · rfl

end Sys2Proof.Machine
end

section
/-! PROOFS. The tally law through installation, orders, resets and host writes, and so through every step (R66). -/

namespace Sys2Proof.Machine

/-! ### Records that start anew (R63) -/

/-- A changed owner starts the input's tallies from 0. -/
theorem restartInput_untallied (o : Option Nat) (b : Option Bucket) (x : Input) :
    (restartInput o b x).untallied = 0 := by
  simp [restartInput, Input.untallied]

@[simp] theorem reform_untallied (i : Nat) (s : State) : (reform i s).outer.untallied = s.outer.untallied :=
  State.modInp_untallied_of_same _ _ _ rfl

/-- SET CLOCK moves the refill expiries alone (R190). -/
@[simp] theorem shiftClock_untallied (t : Tick) (s : State) :
    (shiftClock t s).outer.untallied = s.outer.untallied := by
  funext i
  change (lookup Input.fresh (mapTab (shiftInput (t - s.tick)) s.inputs) i).untallied = _
  rw [lookup_mapTab _ _ rfl]
  rfl

namespace TalliesAgree

section
variable {s : State} (h : TalliesAgree s) (e k : Nat)
include h

theorem of_untallied {t : State} (ht : t.outer.untallied = s.outer.untallied) : TalliesAgree t :=
  (talliesAgree_iff t).2 (ht.trans ((talliesAgree_iff s).1 h))

theorem of_outer {t : State} (ht : t.outer = s.outer) : TalliesAgree t := h.of_untallied (congrArg _ ht)

omit h in
/-- What a fold's steps keep, the fold keeps. -/
theorem after_foldl {α : Type} {s : State} (h : TalliesAgree s) (f : State → α → State)
    (hf : ∀ u a, TalliesAgree u → TalliesAgree (f u a)) (l : List α) : TalliesAgree (l.foldl f s) := by
  induction l generalizing s with
  | nil => exact h
  | cons a l ih => exact ih (hf s a h)

/-- An input whose owner changes has no untallied press. -/
theorem after_restart (i : Nat) (o : Option Nat) (b : Option Bucket) :
    TalliesAgree (reform i (s.modInp i (restartInput o b))) := by
  rw [talliesAgree_iff, reform_untallied, State.modInp_untallied, restartInput_untallied,
    (talliesAgree_iff s).1 h]
  exact Function.update_eq_self i 0

/-! ### Installation and retirement (chapter 1) -/

theorem after_claimAll (d : Head) (w : Walk) : TalliesAgree (claimAll e d w s) := by
  refine of_outer (after_foldl ?_ _ (fun u i hu => hu.after_restart i (some e) (fullBucket (u.ex e) i))
    (rangeInputs w.stations)) (modAxes_outer ..)
  exact h

theorem after_install (d : Head) (w : Walk) : TalliesAgree (install e k d w s) := by
  refine (h.after_claimAll e d w).of_outer ?_
  unfold install
  dsimp only
  split <;> simp

theorem after_retireExhibit : TalliesAgree (retireExhibit e k s) := by
  have hcleared : TalliesAgree (retireCleared e k s) := by
    rw [retireCleared, retireClears_eq]
    exact after_foldl (h.of_outer (by rw [emptied_outer, retireEndings_outer, State.modEx_outer])) _
      (fun u i hu => hu.after_restart i _ _) _
  refine hcleared.of_outer ?_
  rw [retireExhibit_eq, retirePrepared]
  split <;> simp

/-! ### The order unit (chapter 11) -/

theorem after_performOrder (d : HostFields) (b : OrderBody) : (performOrder k d b s).Gives TalliesAgree := by
  have ofOuter : ∀ {v : Verdict}, v.Gives (fun t => t.outer = s.outer) → v.Gives TalliesAgree :=
    fun hv => hv.imp fun _ => h.of_outer
  cases b with
  | bringUp o =>
    simp only [performOrder, bringUpOrder]
    split
    · trivial
    · split
      · trivial
      · exact h.after_install _ k _ _
  | retire => exact h.after_retireExhibit _ k
  | setAccess m => exact h.of_outer rfl
  | home => exact ofOuter (homeOrder_outer ..)
  | stop => exact ofOuter (stopOrder_outer ..)
  | hold => exact h.of_outer (addHold_outer ..)
  | release => exact h.of_outer (removeHold_outer ..)
  | lockOut => exact ofOuter (lockOrder_outer ..)
  | returnToService => exact ofOuter (returnOrder_outer ..)
  | setMode m =>
    simp only [performOrder, modeOrder]
    split
    · trivial
    · exact h.of_untallied (setMode_untallied ..)
  | setLamps p => exact h.of_outer rfl
  | setLink m t d => exact h.of_untallied (applyLink_untallied ..)
  | runRoutine r => exact ofOuter (runOrder_outer ..)
  | stepRun => exact ofOuter (stepOrder_outer ..)
  | commit r o =>
    simp only [performOrder, commitOrder, commitRecord]
    split
    · trivial
    · cases firstFit (stageByte s.mem o.toNat) s with
      | none => trivial
      | some f => exact h.of_untallied ((congrArg Outer.untallied (placeCopy_outer ..)).trans rfl)
  | clearRoutine r => exact ofOuter (clearRoutineOrder_outer ..)
  | setBudget g b => exact ofOuter (budgetOrder_outer ..)
  | setZone z =>
    simp only [performOrder, zoneOrder]
    split
    · trivial
    · exact h.of_untallied (applyZone_untallied ..)
  | raiseCall v => exact h.of_outer (raiseCause_outer ..)
  | ackCall c => exact h.of_outer (ackCauses_outer ..)
  | clearCall c => exact ofOuter (clearOrder_outer ..)
  | clearFault => exact ofOuter (faultOrder_outer ..)
  | setControl m => exact h
  | setClock t => exact h.of_untallied (shiftClock_untallied ..)
  | cancel n =>
    simp only [performOrder, cancelOrder]
    split <;> exact h

theorem after_captureDenial (d : HostFields) : TalliesAgree (captureDenial k d s) := by
  unfold captureDenial
  split <;> exact h

theorem after_refuseAtTake (d : HostFields) (a : Acceptance) (r : Word) :
    TalliesAgree (refuseAtTake k d a r s) := by
  unfold refuseAtTake
  dsimp only
  split
  · refine after_captureDenial ?_ k d
    exact h
  · exact h

theorem after_performDue (d : DueEntry) : TalliesAgree (performDue d s) := by
  unfold performDue
  split
  · exact h
  · next b _ =>
    split
    · exact h
    · split
      · refine after_captureDenial ?_ d.slot d.host
        exact h
      · have hgives := h.after_performOrder d.slot d.host b
        split
        · next hgo => rw [hgo] at hgives; exact hgives
        · exact h

theorem after_dueNext : TalliesAgree (dueNext s) := by
  unfold dueNext
  split
  · exact h
  · refine after_performDue ?_ _
    exact h

theorem after_dueEvent : TalliesAgree (dueEvent s) := by
  unfold dueEvent
  split
  · exact h
  · split
    · refine after_performDue ?_ _
      exact h
    · exact h

theorem after_evaluateDue : TalliesAgree (evaluateDue s) :=
  eachEvent_induct _ _ s h fun _ _ _ ht => ht.after_dueNext.of_outer (closeEvent_outer _)

theorem after_decideOrder (d : HostFields) : TalliesAgree (decideOrder k d s) := by
  unfold decideOrder
  split
  · exact h.after_refuseAtTake k d _ _
  · exact h.after_refuseAtTake k d _ _
  · next b _ _ =>
    split
    · unfold enterDue
      dsimp only
      split
      · refine after_evaluateDue ?_
        exact h
      · exact h
    · have hgives := after_performOrder (s := acceptOrder k s) (h.of_untallied rfl) k d b
      split
      · exact h.after_refuseAtTake k d _ _
      · next hgo =>
        rw [hgo] at hgives
        split
        · exact after_evaluateDue hgives
        · exact hgives

theorem after_takeSlot : TalliesAgree (takeSlot k s) := by
  refine after_decideOrder ?_ k _
  exact h

theorem after_postAndTake (d : OrderHead) (b : OrderBody) : TalliesAgree (postAndTake d b s) := by
  unfold postAndTake
  dsimp only
  split
  · exact h
  · refine after_takeSlot ?_ _
    exact h

theorem after_takeNext : TalliesAgree (takeNext s) := by
  unfold takeNext
  split
  · exact h
  · split
    · exact h
    · refine after_takeSlot ?_ _
      exact h

/-! ### Resets, registers and host writes -/

omit h in
theorem of_haltIfLow {s : State} (h : TalliesAgree s) : TalliesAgree (haltIfLow s) := by
  unfold haltIfLow
  split
  · exact h
  · exact h.of_untallied (enterHalt_untallied _)

omit h in
/-- Power-on leaves every input fresh (R191). -/
theorem of_powerOn : TalliesAgree (powerOn s) := of_haltIfLow fun _ => rfl

omit h in
/-- PART RESET leaves every input fresh (R191). -/
theorem of_partReset : TalliesAgree (partReset s) := of_haltIfLow fun _ => rfl

theorem after_writeControl (b : Byte) : TalliesAgree (writeControl b s) := by
  have hreset : TalliesAgree (if b.getLsbD 0 then partReset s else s) := by
    split
    · exact of_partReset
    · exact h
  unfold writeControl
  dsimp only
  split
  · exact hreset.of_untallied (enterHalt_untallied _)
  · exact hreset

theorem after_writeRegister (o : Nat) (b : Byte) : TalliesAgree (writeRegister o b s) := by
  unfold writeRegister
  split
  · split <;> exact h
  · exact h
  · exact h
  · exact h.after_writeControl b
  · exact h

theorem after_hostPost : TalliesAgree (hostPost k s) := by
  unfold hostPost
  split <;> exact h

theorem after_hostEmpty : TalliesAgree (hostEmpty k s) := by
  unfold hostEmpty
  split <;> exact h

theorem after_writeByte (a : Nat) (b : Byte) : TalliesAgree (writeByte a b s) := by
  unfold writeByte
  split
  · unfold writeSlotByte
    split
    · split
      · exact h.after_hostPost _
      · split
        · exact h.after_hostEmpty _
        · exact h
    · split <;> exact h
  · split
    · unfold writeJournalByte
      split
      · exact h.of_untallied (giveBack_untallied ..)
      · exact h
    · split
      · exact h
      · split
        · exact h.after_writeRegister _ b
        · exact h

theorem after_hostWriteOf (a : Nat) (d : HostData) : TalliesAgree (hostWriteOf a d s) := by
  cases d with
  | byte b => exact h.after_writeByte a b
  | half v => exact (h.after_writeByte a _).after_writeByte _ _

theorem after_haltPinLow : TalliesAgree (haltPinLow s) := by
  unfold haltPinLow
  split
  · exact of_untallied h (enterHalt_untallied _)
  · exact h

/-! ### Every command -/

theorem after_sendPoll : TalliesAgree (sendPoll s) := by
  unfold sendPoll
  split <;> exact h

theorem after_sendBeacon : TalliesAgree (sendBeacon s) := by
  unfold sendBeacon
  split
  · exact h
  · dsimp only
    split <;> exact h

theorem after_sendDark : TalliesAgree (sendDark s) := by
  unfold sendDark
  split
  · exact h
  · dsimp only
    split <;> exact h

theorem after_startPass : TalliesAgree (startPass s) := by
  unfold startPass
  split <;> exact h

theorem after_gapPasses : TalliesAgree (gapPasses s) := by
  unfold gapPasses
  split <;> exact h

theorem after_portEffect (c : Instr) : TalliesAgree (portEffect c s) := by
  cases c with
  | powerOn => exact of_powerOn
  | partReset => exact of_partReset
  | controlHalt => exact h.of_untallied (enterHalt_untallied _)
  | registerWrite o v => exact h.after_writeRegister _ v
  | hostWrite o d => exact h.after_hostWriteOf _ d
  | slotPost k => exact h.after_hostPost _
  | slotEmpty k => exact h.after_hostEmpty _
  | pageFree k => exact h.of_untallied (giveBack_untallied ..)
  | scanPass => exact h.after_startPass
  | take => exact h.after_takeNext
  | dueExpiry => exact h.after_dueEvent
  | galleryHaltLow => exact h.after_haltPinLow
  | poll => exact h.after_sendPoll
  | reply bs => exact h.of_untallied (receiveReply_untallied ..)
  | replyTimeout => exact h.of_untallied (windowCloses_untallied _)
  | refillExpiry i => exact h.of_untallied (refillDue_untallied ..)
  | lingerExpiry => exact h.of_untallied (lingerDue_untallied _)
  | restTimerExpiry e => exact h.of_outer (restExpired_outer ..)
  | grant => exact h.of_outer (deliverFirst_outer ..)
  | cuePulseEnd l => exact h.of_outer (cueEnd_outer ..)
  | motionTick c => exact h.of_outer (motionTickOf_outer ..)
  | homingTick c => exact h.of_outer (homingTickOf_outer ..)
  | brakingTick c => exact h.of_outer (brakingTickOf_outer ..)
  | deadlineOverrun c => exact h.of_outer (deliverFirst_outer ..)
  | dwellExpiry e => exact h.of_outer (dwellExpired_outer ..)
  | homeActive c => exact h.of_outer (homeOn_outer ..)
  | limitActive c => exact h.of_outer (limitOn_outer ..)
  | drvReadyActive c => exact h.of_outer (readyOn_outer ..)
  | drvFaultActive c => exact h.of_outer (faultOn_outer ..)
  | channelInputChange c i l => exact h.of_outer (sampleChange_outer ..)
  | escalationExpiry n => exact h.of_outer (escalate_outer ..)
  | holdExpiry e => exact h.of_outer (helpHoldDue_outer ..)
  | refreshExpiry b => exact h.of_outer (refreshDue_outer ..)
  | beacon => exact h.after_sendBeacon
  | dark => exact h.after_sendDark
  | ack c g t => exact h.of_untallied (receiveBytes_untallied ..)
  | badFrame bs => exact h.of_untallied (receiveBytes_untallied ..)
  | interbyteGap => exact h.after_gapPasses
  | _ => exact h

theorem after_effect (c : Instr) : TalliesAgree (effect c s) := by
  cases hc : c.order with
  | some o => rw [effect_of_order hc]; exact h.after_postAndTake _ _
  | none => rw [effect_of_no_order hc]; exact h.after_portEffect c

end

end TalliesAgree

/-- Settles O5: an event counts a press and its outcome together and a changed owner or a reset starts the tallies
from 0; nothing else touches them. -/
theorem stepKeepsTallies : Obligations.StepKeepsTallies := by
  intro s t h hstep
  obtain ⟨_, rfl⟩ | ⟨c, r, _, rfl⟩ := step_cases hstep
  · exact h
  · have hfound : TalliesAgree (found c { s with pending := r }) :=
      TalliesAgree.of_outer (s := { s with pending := r }) h (found_outer c _)
    exact (hfound.after_effect c).of_outer (publish_outer _)

end Sys2Proof.Machine
end

section
/-! PROOFS. Refill and cue pulse expiries, and the presses of unclaimed inputs and BUTTONs (R65 to R69, R78,
R106). -/

namespace Sys2Proof.Machine

/-! ### Expiries (R69, R106) -/

/-- A refill expiry that is due adds a token and keeps the cadence until the bucket is full (R69). -/
theorem refillDue_of_due {s : State} {i e : Nat} {b : Bucket} {x : Tick} (howner : (s.inp i).owner = some e)
    (hbucket : (s.inp i).bucket = some b) (hrefill : b.refill = some x) (hdue : isDue s.tick x = true) :
    refillDue i s = s.modInp i (fun y => { y with bucket := some ⟨b.tokens + 1,
      if b.tokens + 1 < capacityOf (s.ex e) then some (after x (refillMs (s.ex e))) else none⟩ }) := by
  simp [refillDue, howner, hbucket, hrefill, hdue]

/-- A refill expiry before its tick does nothing. -/
theorem refillDue_of_early {s : State} {i : Nat} {b : Bucket} {x : Tick} (hbucket : (s.inp i).bucket = some b)
    (hrefill : b.refill = some x) (hearly : isDue s.tick x = false) : refillDue i s = s := by
  unfold refillDue
  split
  · next hb =>
    obtain rfl : b = _ := Option.some.inj (hbucket.symm.trans hb)
    simp [hrefill, hearly]
  · rfl

/-- A command whose effect is one input's changed record. -/
theorem publish_modInp (u : State) (i : Nat) (f : Input → Input) :
    (publish (u.modInp i f)).inp i = f (u.inp i) ∧ OtherInputs i u (publish (u.modInp i f)) ∧
      KeptBut [.inputs, .views, .notice] u (publish (u.modInp i f)) :=
  ⟨State.modInp_inp_same .., fun _ hj => State.modInp_inp_other _ _ _ _ hj,
    ((State.modInp_keptBut u i f).mono (by decide)).trans ((publish_keptBut _).mono (by decide))⟩

/-- REFILL_EXPIRY acts at its tick alone (R69). -/
theorem refillExpiry_acts (s : State) (i : Fin 256) (e : Nat) (b : Bucket) (x : Tick)
    (howner : ((settle s).inp i.val).owner = some e) (hbucket : ((settle s).inp i.val).bucket = some b)
    (hrefill : b.refill = some x) :
    let u := settle s
    (isDue u.tick x = true →
      ∃ t, exec (.refillExpiry i) s = .next t ∧
        t.inp i.val = { u.inp i.val with bucket := some ⟨b.tokens + 1,
          if b.tokens + 1 < capacityOf (u.ex e) then some (after x (refillMs (u.ex e))) else none⟩ } ∧
        OtherInputs i.val u t ∧ KeptBut [.inputs, .views, .notice] u t) ∧
    (isDue u.tick x = false → exec (.refillExpiry i) s = .next (publish u)) := by
  have hexec : exec (.refillExpiry i) s = .next (publish (refillDue i.val (settle s))) := rfl
  refine ⟨fun hdue => ?_, fun hearly => ?_⟩
  · rw [hexec, refillDue_of_due howner hbucket hrefill hdue]
    exact ⟨_, rfl, publish_modInp ..⟩
  · rw [hexec, refillDue_of_early hbucket hrefill hearly]

theorem with_cues_keptBut (s : State) (l : Tab (Option Tick)) : KeptBut [.cues] s { s with cues := l } := by
  intro f hf
  cases f <;> first | rfl | exact absurd List.mem_cons_self hf

/-- The end tick of a cue line turns it off (R106). -/
theorem cuePulseEnd_acts (s : State) (l : Fin 8) :
    let u := settle s
    (dueNow u.tick (u.cue (l.val + 1)) = true →
      ∃ t, exec (.cuePulseEnd l) s = .next t ∧ t.cue (l.val + 1) = none ∧
        (∀ j, j ≠ l.val + 1 → t.cue j = u.cue j) ∧ KeptBut [.cues, .views, .notice] u t) ∧
    (dueNow u.tick (u.cue (l.val + 1)) = false → exec (.cuePulseEnd l) s = .next (publish u)) := by
  intro u
  have hexec : exec (.cuePulseEnd l) s = .next (publish (cueEnd (l.val + 1) u)) := rfl
  refine ⟨fun hdue => ?_, fun hearly => ?_⟩
  · rw [hexec, cueEnd, if_pos hdue]
    exact ⟨_, rfl, lookup_store_same .., fun j hj => lookup_store_other _ _ _ _ _ hj,
      ((with_cues_keptBut u _).mono (by decide)).trans ((publish_keptBut _).mono (by decide))⟩
  · rw [hexec, cueEnd, if_neg (by simp [hearly])]

/-! ### A press counted (R65 step 1) -/

/-- A press on input `i` counted and stamped, as yet undecided. -/
def pressCounted (i : Nat) (v : State) : State :=
  (v.modInp i (fun x => { x with accepted := true })).modInp i
    (fun x => { x with presses := x.presses + 1, lastEvent := v.tick })

section
variable {v : State} {i : Nat}

theorem pressCounted_keptBut (i : Nat) (v : State) : KeptBut [.inputs] v (pressCounted i v) :=
  (State.modInp_keptBut _ _ _).trans (State.modInp_keptBut _ _ _)

theorem pressCounted_inp (i : Nat) (v : State) :
    (pressCounted i v).inp i =
      { v.inp i with accepted := true, presses := (v.inp i).presses + 1, lastEvent := v.tick } := by
  simp [pressCounted]

theorem pressCounted_inp_other {j : Nat} (hj : j ≠ i) : (pressCounted i v).inp j = v.inp j := by
  simp [pressCounted, State.modInp_inp_other, hj]

/-- A counted press whose decision leaves the inputs alone is tallied by its outcome (R66). -/
theorem pressed_of_counted {w : State} {o : PressOutcome} {acted declined suppressed : Word}
    (hw : ∀ j, w.inp j = (pressCounted i v).inp j)
    (htally : ∀ x : Input, tallyPress o x = { x with
      acted := x.acted + acted, declined := x.declined + declined, suppressed := x.suppressed + suppressed }) :
    Pressed v (w.modInp i (tallyPress o)) i acted declined suppressed (v.inp i).bucket := by
  refine ⟨?_, fun j hj => ?_⟩
  · rw [State.modInp_inp_same, hw, pressCounted_inp, htally]
  · rw [State.modInp_inp_other _ _ _ _ hj, hw, pressCounted_inp_other hj]

/-! ### Unclaimed inputs (R65 step 3) -/

/-- A press of an unclaimed input is declined. -/
theorem inputEvent_unclaimed (howner : (v.inp i).owner = none) :
    inputEvent i true v = placeRecord ⟨0, i, 255, v.tick, 0, 7, 255, 0⟩
      ((pressCounted i v).modInp i (tallyPress .declinedUnclaimed)) := by
  have howner' : ((v.modInp i (fun x => { x with accepted := true })).inp i).owner = none := by
    simpa using howner
  simp only [inputEvent, howner, if_true, press, howner', pressRecord]
  rfl

/-! ### BUTTONs (R65 steps 2 and 4 to 6) -/

/-- The routine that a press record names: the mapped routine of a START, else 255 (R87). -/
def routineNamed (x : Exhibit) (i : Nat) : Nat :=
  match x.entryAt i with
  | none => 255
  | some m => if m.action = .start then m.routine else 255

/-- A press whose action is no START names no routine. -/
theorem routineNamed_of_other {x : Exhibit} (h : x.actionAt i ≠ .start) : routineNamed x i = 255 := by
  unfold routineNamed
  split
  · rfl
  · next m hm => exact if_neg (by simpa [Exhibit.actionAt, hm] using h)

variable {e : Nat}

theorem pressRecord_of_owner (howner : (v.inp i).owner = some e) (o : PressOutcome) :
    pressRecord (v.modInp i (fun x => { x with accepted := true })) i o =
      pressOf v i e o.code (routineNamed (v.ex e) i) := by
  have howner' : ((v.modInp i (fun x => { x with accepted := true })).inp i).owner = some e := by
    simpa using howner
  simp only [pressRecord, howner']
  rfl

section
variable (howner : (v.inp i).owner = some e) (hclass : v.classOf i = some .button)
include howner hclass

/-- A press on a BUTTON is finished with the outcome it is decided with. -/
theorem inputEvent_button {w : State} {o : PressOutcome} (hdecided : buttonPress e i (pressCounted i v) = (w, o)) :
    inputEvent i true v = finishPress i o (pressOf v i e o.code (routineNamed (v.ex e) i)) w := by
  have howner' : ((v.modInp i (fun x => { x with accepted := true })).inp i).owner = some e := by
    simpa using howner
  have hfinished : inputEvent i true v = finishPress i (buttonPress e i (pressCounted i v)).2
      (pressRecord (v.modInp i (fun x => { x with accepted := true })) i (buttonPress e i (pressCounted i v)).2)
      (buttonPress e i (pressCounted i v)).1 := by
    rw [inputEvent_of_class i v true howner hclass]
    simp only [classEvent, press, howner']
    rfl
  rw [hfinished, hdecided, pressRecord_of_owner howner]

/-- A HELP press raises its cause and spends no token (R78). -/
theorem inputEvent_help (hhelp : (v.ex e).actionAt i = .help) :
    inputEvent i true v = placeRecord (pressOf v i e 1 255)
      ((raiseCause e .help 2 (pressCounted i v)).modInp i (tallyPress .acted)) := by
  have hdecided : buttonPress e i (pressCounted i v) = (raiseCause e .help 2 (pressCounted i v), .acted) :=
    if_pos hhelp
  rw [inputEvent_button howner hclass hdecided, routineNamed_of_other (by simp [hhelp])]
  rfl

variable (hother : (v.ex e).actionAt i ≠ .help)
include hother

/-- A press that is not HELP is declined while the gallery is not OPEN. -/
theorem inputEvent_closed (hmode : v.mode ≠ .open) :
    inputEvent i true v = placeRecord (pressOf v i e 6 (routineNamed (v.ex e) i))
      ((pressCounted i v).modInp i (tallyPress .declinedClosed)) := by
  have hdecided : buttonPress e i (pressCounted i v) = (pressCounted i v, .declinedClosed) :=
    (if_neg hother).trans (if_pos hmode)
  rw [inputEvent_button howner hclass hdecided]
  rfl

/-- A press that finds no token is suppressed, without a record (R67). -/
theorem inputEvent_suppressed (hmode : v.mode = .open) (hempty : (v.inp i).tokens = 0) :
    inputEvent i true v = (pressCounted i v).modInp i (tallyPress .suppressed) := by
  have hempty' : ((pressCounted i v).inp i).tokens = 0 := by
    rw [pressCounted_inp]
    exact hempty
  have hdecided : buttonPress e i (pressCounted i v) = (pressCounted i v, .suppressed) :=
    (if_neg hother).trans ((if_neg (not_not.2 hmode)).trans (if_pos hempty'))
  rw [inputEvent_button howner hclass hdecided]
  rfl

end

/-- A NOTE press that passes its bucket is acted and has no effect of its own. -/
theorem inputEvent_note {b : Bucket} (hpass : PressPasses v i e b) (hnote : (v.ex e).actionAt i = .note) :
    inputEvent i true v = placeRecord (pressOf v i e 1 255) ((pressPassed v i e).modInp i (tallyPress .acted)) := by
  have happly : applyAction e i (pressPassed v i e) = (pressPassed v i e, .acted) := by
    unfold applyAction
    rw [pressPassed_ex]
    split
    · rfl
    · next m hm =>
      have haction : m.action = .note := by simpa [Exhibit.actionAt, hm] using hnote
      rw [haction]
  rw [inputEvent_press hpass (by simp [hnote]), happly, pressRecord_of_owner hpass.1,
    routineNamed_of_other (by simp [hnote])]
  rfl

end

/-! ### The HELP cause (R78, R152) -/

theorem KeptBut.callEntry {fs : List Field} {s t : State} (h : KeptBut fs s t) (hf : Field.calls ∉ fs) (n : Nat) :
    t.callEntry n = s.callEntry n :=
  congrArg (lookup CallEntry.fresh · n) (h .calls hf : t.calls = s.calls)

theorem raiseCause_keptBut (e : Nat) (c : Cause) (sev : Nat) (s : State) :
    KeptBut callFields s (raiseCause e c sev s) := by
  unfold raiseCause
  dsimp only
  split
  · split
    · exact enterCall_keptBut s _ _ _ _
    · exact (State.modEx_keptBut _ _ _).mono (by decide)
  · exact (State.modEx_keptBut _ _ _).mono (by decide)
  · split
    · exact .refl _ _
    · exact ((State.modCall_keptBut _ _ _).mono (by decide)).trans ((rechooseFor_keptBut _ _).mono (by decide))

/-- A raised cause is in its exhibit's cause set (R152). -/
theorem raiseCause_causeRec (e : Nat) (c : Cause) (sev : Nat) (s : State) :
    (((raiseCause e c sev s).ex e).causeRec c).isSome = true := by
  have hput (r : CauseRec) (hr : r.cause = c) : (((s.modEx e (putCause r)).ex e).causeRec c).isSome = true := by
    rw [State.modEx_ex_same, causeRec_putCause, if_pos hr.symm]
    rfl
  unfold raiseCause
  dsimp only
  split
  · split
    · rw [enterCall, (rechooseFor_keptBut _ _).ex (by decide)]
      exact hput _ rfl
    · exact hput _ rfl
  · exact hput _ rfl
  · next hrec =>
    split
    · simp [hrec]
    · rw [(rechooseFor_keptBut _ _).ex (by decide), State.modCall_ex, hrec]
      rfl

/-- The lowest entry without a call is the one that a cause enters. -/
theorem freeCall_of_lowest {s : State} {n : Nat} (hn : n < 48) (hfree : (s.callEntry n).call = none)
    (hlow : ∀ j, j < n → (s.callEntry j).call.isSome = true) : freeCall s = some n := by
  rw [freeCall, List.find?_range_eq_some]
  exact ⟨by simp [hfree], List.mem_range.2 hn, fun j hj => by simpa using hlow j hj⟩

/-- A cause that enters an entry is recorded there, and its call rings at tier 1 from now (R152). -/
theorem raiseCause_enters {s : State} {e n : Nat} {c : Cause} (sev : Nat)
    (hnone : (s.ex e).causeRec c = none) (hfree : freeCall s = some n) :
    ((raiseCause e c sev s).ex e).causeRec c = some ⟨c, .entered n⟩ ∧
      ((raiseCause e c sev s).callEntry n).call = some ⟨e, c, sev, 1, s.tick, s.tick,
        some (after s.tick ((s.zone (s.ex e).call.zone).t1 * 1000)), 0, none⟩ := by
  simp only [raiseCause, hnone, hfree, enterCall]
  refine ⟨?_, ?_⟩
  · rw [(rechooseFor_keptBut _ _).ex (by decide), State.modEx_ex_same, causeRec_putCause, if_pos rfl]
  · rw [(rechooseFor_keptBut _ _).callEntry (by decide), State.modEx_callEntry, State.modCall_callEntry_same]

/-! ### The presses of a BUTTON -/

section
variable {v : State} {i e : Nat} (howner : (v.inp i).owner = some e) (hclass : v.classOf i = some .button)
include howner hclass

/-- What a HELP press comes to: its record, its tally and its cause, which enters the lowest entry without a call. -/
theorem helpPress_raises (hhelp : (v.ex e).actionAt i = .help) :
    ∃ w, inputEvent i true v = placeRecord (pressOf v i e 1 255) w ∧ Pressed v w i 1 0 0 (v.inp i).bucket ∧
      KeptBut [.inputs, .exhibits, .calls, .beacons] v w ∧
      ((w.ex e).causeRec .help).isSome = true ∧
      (∀ n, (v.ex e).causeRec .help = none → n < 48 → (v.callEntry n).call = none →
        (∀ j, j < n → (v.callEntry j).call.isSome = true) →
        (w.ex e).causeRec .help = some ⟨.help, .entered n⟩ ∧
        (w.callEntry n).call = some ⟨e, .help, 2, 1, v.tick, v.tick,
          some (after v.tick ((v.zone (v.ex e).call.zone).t1 * 1000)), 0, none⟩) := by
  refine ⟨_, inputEvent_help howner hclass hhelp, ?_, ?_, raiseCause_causeRec .., fun n hnone hn hfree hlow => ?_⟩
  · exact pressed_of_counted (outer_inp (raiseCause_outer ..)) fun x => by simp [tallyPress]
  · exact ((pressCounted_keptBut i v).mono (by decide)).trans <|
      ((raiseCause_keptBut _ _ _ _).mono (by decide)).trans ((State.modInp_keptBut _ _ _).mono (by decide))
  · exact raiseCause_enters (s := pressCounted i v) 2 hnone (freeCall_of_lowest hn hfree hlow)

end

/-- Settles O47: the two expiries act at their ticks alone, and a press is decided by the first of R65's steps
that applies to it. -/
theorem refillAndCueExpire : Obligations.RefillAndCueExpire := by
  refine ⟨fun s => ⟨fun i e b x => refillExpiry_acts s i e b x, fun l => cuePulseEnd_acts s l⟩,
    fun v i => ⟨fun howner => ?_, fun e howner hclass => ⟨helpPress_raises howner hclass, fun hother hmode => ?_,
      fun b hother hmode hbucket htokens => ?_, fun b hpass hnote => ?_⟩⟩⟩
  · exact ⟨_, inputEvent_unclaimed howner,
      pressed_of_counted (fun _ => rfl) fun x => by simp [tallyPress],
      (pressCounted_keptBut i v).trans (State.modInp_keptBut _ _ _)⟩
  · exact ⟨_, inputEvent_closed howner hclass hother hmode,
      pressed_of_counted (fun _ => rfl) fun x => by simp [tallyPress],
      (pressCounted_keptBut i v).trans (State.modInp_keptBut _ _ _)⟩
  · rw [inputEvent_suppressed howner hclass hother hmode (by simp [Input.tokens, hbucket, htokens]), ← hbucket]
    exact ⟨pressed_of_counted (fun _ => rfl) fun x => by simp [tallyPress],
      (pressCounted_keptBut i v).trans (State.modInp_keptBut _ _ _)⟩
  · obtain ⟨-, -, -, hbucket, -⟩ := id hpass
    exact ⟨_, pressTaken_of_outcome hbucket (fun _ => rfl) (inputEvent_note hpass hnote) fun x => by
      simp [tallyPress], (pressPassed_keptBut v i e).trans (State.modInp_keptBut _ _ _)⟩

end Sys2Proof.Machine
end

section
/-! PROOFS. The press journal (R86 to R93): what handing a page over, giving a page back and placing a record
each leave in the pages, and the page that the 31st record fills. -/

namespace Sys2Proof.Machine

/-! ### A page's changes -/

section
variable (s : State) (k : Nat)

theorem State.modPage_keptBut (f : Page → Page) : KeptBut [.pages] s (s.modPage k f) := by
  intro g hg
  cases g <;> first | rfl | exact absurd List.mem_cons_self hg

/-! ### Hand-over (R90, R93) -/

@[simp] theorem handOver_curPage : (handOver k s).curPage = none := rfl
@[simp] theorem handOver_linger : (handOver k s).linger = none := rfl

theorem handOver_page_same :
    (handOver k s).page k = { s.page k with state := .ready, handTick := s.tick } := by
  simp [handOver, State.page, State.modPage]

theorem handOver_page_other {j : Nat} (hj : j ≠ k) : (handOver k s).page j = s.page j := by
  simp [handOver, State.page, State.modPage, hj]

theorem handOver_notice : (handOver k s).notice.getLsbD 1 = true := by
  simp [handOver, setNotice, noticeJournal]

theorem handOver_keptBut : KeptBut [.pages, .curPage, .linger, .notice] s (handOver k s) := by
  intro g hg
  cases g <;> first | rfl | exact absurd (by decide) hg

/-! ### A page given back (R86, R92) -/

theorem giveBack_page_same :
    (giveBack k s).page k =
      if (s.page k).state = .ready then { s.page k with state := .free } else s.page k := by
  unfold giveBack
  split
  · exact State.modPage_page_same s k _
  · rfl

theorem giveBack_page_other {j : Nat} (hj : j ≠ k) : (giveBack k s).page j = s.page j := by
  unfold giveBack
  split
  · exact State.modPage_page_other s k j _ hj
  · rfl

theorem giveBack_keptBut : KeptBut [.pages] s (giveBack k s) := by
  unfold giveBack
  split
  · exact State.modPage_keptBut s k _
  · exact .refl _ s

end

/-! ### The linger expiry (R91) -/

theorem lingerDue_of_due {s : State} {k : Nat} (hcur : s.curPage = some k)
    (hdue : dueNow s.tick s.linger = true) : lingerDue s = handOver k s := by
  simp [lingerDue, hcur, hdue]

theorem lingerDue_of_early {s : State} (hearly : dueNow s.tick s.linger = false) : lingerDue s = s := by
  simp [lingerDue, hearly]

/-- Settles O16: a page given back and a linger expiry each change the page they name alone, and the views
written after them clear no notice. -/
theorem journalPagesChangeHands : Obligations.JournalPagesChangeHands := by
  intro s u
  have hfree (k : Fin 8) : exec (.pageFree k) s = .next (publish (giveBack k.val u)) := rfl
  have hlinger : exec .lingerExpiry s = .next (publish (lingerDue u)) := rfl
  refine ⟨fun k => ⟨_, hfree k, ?_, fun j hj => giveBack_page_other u k.val hj, giveBack_page_same u k.val⟩,
    fun k hcur hdue => ?_, fun hearly => ?_⟩
  · exact ((giveBack_keptBut u k.val).mono (by decide)).trans ((publish_keptBut _).mono (by decide))
  · rw [hlinger, lingerDue_of_due hcur hdue]
    exact ⟨_, rfl, handOver_curPage u k, handOver_linger u k, publish_notice_of _ 1 (handOver_notice u k),
      fun j hj => handOver_page_other u k hj, handOver_page_same u k,
      ((handOver_keptBut u k).mono (by decide)).trans ((publish_keptBut _).mono (by decide))⟩
  · rw [hlinger, lingerDue_of_early hearly]

/-! ### A record written in a page (R89, R90) -/

/-- A page with one record more, at the place its count names. -/
def Page.withRecord (r : PressRec) (p : Page) : Page :=
  { p with recs := store p.recs p.count r, count := p.count + 1 }

section
variable {s : State} {k : Nat}

/-- The 31st record of a page hands it over. -/
theorem writeRecord_of_last (r : PressRec) (hfull : 30 ≤ (s.page k).count) :
    writeRecord k r s = handOver k (s.modPage k (Page.withRecord r)) := by
  refine if_pos ?_
  rw [State.modPage_page_same]
  exact Nat.succ_le_succ hfull

/-- A record before the 31st leaves its page the current one. -/
theorem writeRecord_of_room (r : PressRec) (hroom : (s.page k).count < 30) :
    writeRecord k r s = s.modPage k (Page.withRecord r) := by
  refine if_neg ?_
  rw [State.modPage_page_same]
  exact Nat.not_le.2 (Nat.succ_lt_succ hroom)

end

/-! ### A page taken (R89 step 2) -/

theorem takePage_page_same (k : Nat) (seq : Half) (s : State) :
    (takePage k seq s).page k =
      { s.page k with state := .filling, count := 0, handTick := 0, firstSeq := seq } := by
  simp [takePage, State.page, State.modPage]

/-! ### A record numbered and placed (R88, R89) -/

/-- The state whose next sequence number has been given out (R88). -/
def State.numbered (s : State) : State := { s with nextSeq := s.nextSeq + 1 }

theorem State.numbered_keptBut (s : State) : KeptBut [.nextSeq] s s.numbered := by
  intro g hg
  cases g <;> first | rfl | exact absurd List.mem_cons_self hg

section
variable {s : State} (r : PressRec)

theorem placeRecord_of_current {k : Nat} (hcur : s.curPage = some k) :
    placeRecord r s = writeRecord k { r with seq := s.nextSeq } s.numbered := by
  simp [placeRecord, hcur, State.numbered]

/-- With no current page a record goes in the first FREE page of the search, or is dropped, and its number
with it. -/
theorem placeRecord_of_noCurrent (hcur : s.curPage = none) :
    placeRecord r s = (freePage s).elim s.numbered fun k =>
      writeRecord k { r with seq := s.nextSeq } (takePage k s.nextSeq s.numbered) := by
  unfold placeRecord
  dsimp only
  split
  · next k hk => simp [hcur] at hk
  · split
    · next k hk => rw [show freePage s = some k from hk]; rfl
    · next hk => rw [show freePage s = none from hk]; rfl

theorem placeRecord_drops (hcur : s.curPage = none) (hnone : freePage s = none) :
    placeRecord r s = s.numbered := by
  rw [placeRecord_of_noCurrent r hcur, hnone]
  rfl

/-- With no current page a record begins the first FREE page of the search. -/
theorem placeRecord_begins {j : Nat} (hcur : s.curPage = none) (hfree : freePage s = some j) :
    (placeRecord r s).curPage = some j ∧ ((placeRecord r s).page j).state = .filling ∧
      ((placeRecord r s).page j).count = 1 ∧ ((placeRecord r s).page j).firstSeq = s.nextSeq := by
  have hroom : ((takePage j s.nextSeq s.numbered).page j).count < 30 := by simp [takePage_page_same]
  rw [placeRecord_of_noCurrent r hcur, hfree, Option.elim, writeRecord_of_room _ hroom,
    State.modPage_page_same, takePage_page_same]
  exact ⟨rfl, rfl, rfl, rfl⟩

end

/-- Settles O17: the 31st record is written and its page handed over at one event, which leaves no current
page, so that the next record searches for a FREE one. -/
theorem thirtyFirstRecordHandsOver : Obligations.ThirtyFirstRecordHandsOver := by
  intro k r s hcur hcount t
  have ht : t = handOver k (s.numbered.modPage k (Page.withRecord { r with seq := s.nextSeq })) :=
    (placeRecord_of_current r hcur).trans (writeRecord_of_last _ hcount.ge)
  have hpage : t.page k = { (s.page k).withRecord { r with seq := s.nextSeq } with
      state := .ready, handTick := s.tick } := by
    rw [ht, handOver_page_same, State.modPage_page_same]
    rfl
  have hother (j : Nat) (hj : j ≠ k) : t.page j = s.page j := by
    rw [ht, handOver_page_other _ _ hj, State.modPage_page_other _ _ _ _ hj]
    rfl
  have hkept : KeptBut [.pages, .curPage, .linger, .notice, .nextSeq] s t :=
    ht ▸ (s.numbered_keptBut.mono (by decide)).trans
      (((State.modPage_keptBut _ k _).mono (by decide)).trans ((handOver_keptBut _ k).mono (by decide)))
  have hclosed : t.curPage = none := ht ▸ handOver_curPage _ k
  refine ⟨?_, ?_, ?_, hclosed, ht ▸ handOver_linger _ k, ht ▸ handOver_notice _ k,
    hkept .lastPage (by decide), hother, ?_, ht ▸ rfl, hkept,
    fun q => ⟨fun _ => placeRecord_begins q hclosed, placeRecord_drops q hclosed⟩⟩
  · simp [hpage, Page.withRecord, hcount]
  · simp [hpage]
  · simp [hpage]
  · simp [hpage, Page.withRecord, hcount]

end Sys2Proof.Machine
end

section
/-! PROOFS. COMMIT ROUTINE and CLEAR ROUTINE: the checks, the copy into the pool, and what becomes of the routine's
entry (R97 to R100, R102). -/

namespace Sys2Proof.Machine

@[simp] theorem accepted_routine (h : OrderHead) (b : OrderBody) (u : State) (r : Nat) :
    (accepted h b u).routine r = u.routine r := rfl

/-! ### The orders read from their slots -/

/-- COMMIT ROUTINE is read from its slot as written. -/
theorem readOrder_commit (h : OrderHead) (r : Byte) (o : Half) :
    readOrder (hostFieldsOf h (.commit r o)).kind (hostFieldsOf h (.commit r o)).params = some (.commit r o) := by
  simp [hostFieldsOf, kindCodeOf, readOrder, paramBytes, paramField, halfBytes, peekHalf, byteOf_append_half]

/-- CLEAR ROUTINE is read from its slot as written. -/
theorem readOrder_clearRoutine (h : OrderHead) (r : Byte) :
    readOrder (hostFieldsOf h (.clearRoutine r)).kind (hostFieldsOf h (.clearRoutine r)).params =
      some (.clearRoutine r) := by
  simp [hostFieldsOf, kindCodeOf, readOrder, paramBytes, paramField]

/-! ### Waypoints copied into the pool (R98) -/

/-- What a table holds after a row of stores at consecutive numbers. -/
theorem lookup_foldl_store_range {α : Type} (d : α) (g : Nat → α) (f n i : Nat) (t : Tab α) :
    lookup d ((List.range n).foldl (fun p k => store p (f + k) (g k)) t) (f + i) =
      if i < n then g i else lookup d t (f + i) := by
  induction n with
  | zero => rfl
  | succ n ih =>
    rw [List.range_succ, List.foldl_append, List.foldl_cons, List.foldl_nil]
    by_cases hi : i = n
    · subst hi
      rw [lookup_store_same, if_pos (Nat.lt_succ_self i)]
    · rw [lookup_store_other _ _ _ _ _ (by omega), ih]
      have hlt : i < n ↔ i < n + 1 := by omega
      simp only [hlt]

section
variable (first o n : Nat) (s : State)

/-- The places of an extent hold the record's waypoints in order (R98). -/
theorem fillPool_pool {i : Nat} (hi : i < n) :
    lookup .zero (fillPool first o n s).pool (first + i) = readWaypoint s.mem (waypointAt o i) :=
  (lookup_foldl_store_range ..).trans (if_pos hi)

theorem fillPool_keptBut : KeptBut [.pool] s (fillPool first o n s) := by
  intro f hf
  cases f <;> first | rfl | exact absurd List.mem_cons_self hf

end

/-- The result word of a commit names the extent (R99). -/
theorem resultWord_readCopy (m : List Host.Cell) (o f : Nat) :
    (readCopy m o f).resultWord = BitVec.ofNat 32 (f + 65536 * stageByte m o) := rfl

/-! ### A copy installed or staged (R99, R100) -/

section
variable (k r : Nat) (c : RoutineCopy) {s : State}

/-- A FREE routine takes the copy and the order is DONE (R99). -/
theorem placeCopy_free (hfree : (s.routine r).installed = none) :
    placeCopy k r c s = complete k .done c.resultWord (s.modRoutine r (fun _ => ⟨some c, 0, none⟩)) := by
  simp only [placeCopy, hfree]

/-- A routine in use stages the copy (R100). -/
theorem placeCopy_inUse (hinst : (s.routine r).installed.isSome = true) (huse : (s.routine r).inUse ≠ 0)
    (hnone : (s.routine r).staged = none) :
    placeCopy k r c s = s.modRoutine r (fun x => { x with staged := some ⟨c, k⟩ }) := by
  obtain ⟨old, hold⟩ := Option.isSome_iff_exists.1 hinst
  obtain ⟨n, hn⟩ := Nat.exists_eq_succ_of_ne_zero huse
  simp only [placeCopy, hold, hn, hnone]

end

/-! ### The verdict on a record (R97, R98) -/

section
variable {k r o : Nat} {due : Bool} {s : State}

theorem commitOrder_of_fault {w : Word} (hfault : commitFault s.mem due r o = some w) :
    commitOrder k r o due s = .refuse .badParameter w := by
  simp only [commitOrder, hfault]

/-- A sound record that finds no room is refused with the largest free extent. -/
theorem commitOrder_of_full (hfault : commitFault s.mem due r o = none)
    (hfit : firstFit (stageByte s.mem o) s = none) :
    commitOrder k r o due s = .refuse .full (BitVec.ofNat 32 (largestFree s)) := by
  simp only [commitOrder, hfault, commitRecord, hfit]

/-- A sound record that finds room is copied there and placed. -/
theorem commitOrder_of_fit {f : Nat} (hfault : commitFault s.mem due r o = none)
    (hfit : firstFit (stageByte s.mem o) s = some f) :
    commitOrder k r o due s =
      .go (placeCopy k r (readCopy s.mem o f) (fillPool f o (stageByte s.mem o) s)) := by
  simp only [commitOrder, hfault, commitRecord, hfit]

end

/-- DUE PRESENT is refused before anything else is looked at (log entry 27). -/
theorem commitFault_due (m : List Host.Cell) (r o : Nat) : commitFault m true r o = some (commitWord 5 none) := rfl

/-- The routine number is looked at next. -/
theorem commitFault_number (m : List Host.Cell) {r : Nat} (o : Nat) (hr : 63 < r) :
    commitFault m false r o = some (commitWord 4 none) := by
  simp [commitFault, hr]

/-- The record stands at a multiple of 16. -/
theorem commitFault_offset (m : List Host.Cell) {r o : Nat} (hr : r ≤ 63) (ho : o % 16 ≠ 0) :
    commitFault m false r o = some (commitWord 1 none) := by
  simp [commitFault, Nat.not_lt.2 hr, ho]

/-! ### COMMIT ROUTINE taken -/

section
variable {h : OrderHead} {r : Byte} {o : Half} {u : State}

/-- The state in which a COMMIT ROUTINE places its copy: the order accepted, the waypoints in the pool. -/
def commitFilled (h : OrderHead) (r : Byte) (o : Half) (f : Nat) (u : State) : State :=
  fillPool f o.toNat (stageByte u.mem o.toNat) (accepted h (.commit r o) u)

theorem commitFilled_keptBut (f : Nat) : KeptBut (.pool :: orderFields) u (commitFilled h r o f u) :=
  (keptBut_accepted (by decide)).trans ((fillPool_keptBut _ _ _ _).mono (by decide))

@[simp] theorem commitFilled_routine (f j : Nat) : (commitFilled h r o f u).routine j = u.routine j := rfl
@[simp] theorem commitFilled_slot (f j : Nat) :
    (commitFilled h r o f u).slot j = (accepted h (.commit r o) u).slot j := rfl
@[simp] theorem commitFilled_lastTaken (f : Nat) : (commitFilled h r o f u).lastTaken = h.slot.val := rfl

theorem commitFilled_pool (f : Nat) {i : Nat} (hi : i < stageByte u.mem o.toNat) :
    lookup .zero (commitFilled h r o f u).pool (f + i) = readWaypoint u.mem (o.toNat + 16 + 24 * i) :=
  fillPool_pool f o.toNat _ (accepted h (.commit r o) u) hi

/-- COMMIT ROUTINE passes the checks of the take, timed or not: its own checks come after them (R97). -/
theorem takeRefusal_commit (hmay : MayOrderGallery u h) :
    takeRefusal u h.slot.val (hostFieldsOf h (.commit r o)) = none := by
  simp [takeRefusal, readOrder_commit, exhibitCheck_gallery (b := .commit r o) (u := u) _ rfl,
    accessAllowed_gallery (b := .commit r o) (u := u) _ _ rfl, hmay.2, paramCheck, dueAllowed]

theorem postAndTake_commit_refused {a : Acceptance} {w : Word} (hmay : MayOrderGallery u h)
    (hverdict : commitOrder h.slot.val r.toNat o.toNat (h.flags.getLsbD 0) (accepted h (.commit r o) u) =
      .refuse a w) :
    postAndTake h (.commit r o) u =
      refuseAtTake h.slot.val (hostFieldsOf h (.commit r o)) a w (postedAndTaken h (.commit r o) u) := by
  have hperform : performOrder h.slot.val (hostFieldsOf h (.commit r o)) (.commit r o)
      (accepted h (.commit r o) u) = .refuse a w := hverdict
  rw [postAndTake_of_open hmay.1]
  simp only [decideOrder, takeRefusal_postedAndTaken, takeRefusal_commit hmay, readOrder_commit, dueAllowed,
    Bool.false_and]
  rw [← accepted, hperform]
  rfl

/-- A COMMIT ROUTINE whose checks find a fault is refused with its reason (R97). -/
theorem commit_refused {s : State} {w : Word} (hmay : MayOrderGallery (settle s) h)
    (hfault : commitFault (settle s).mem (h.flags.getLsbD 0) r.toNat o.toNat = some w) :
    ∃ t, exec (.commitRoutine h r o) s = .next t ∧
      RefusedOnly (settle s) t h (.commit r o) .badParameter w :=
  ⟨_, exec_orderCommand (postAndTake_commit_refused hmay (commitOrder_of_fault hfault)),
    refusedOnly_of_refuseAtTake (by decide)⟩

section
variable (hmay : MayOrderGallery u h) (huntimed : Untimed h)
  (hfault : commitFault u.mem false r.toNat o.toNat = none)
include hmay huntimed hfault

/-- A sound record that finds no room is refused (R98). -/
theorem postAndTake_commit_full (hfit : firstFit (stageByte u.mem o.toNat) u = none) :
    postAndTake h (.commit r o) u =
      refuseAtTake h.slot.val (hostFieldsOf h (.commit r o)) .full (BitVec.ofNat 32 (largestFree u))
        (postedAndTaken h (.commit r o) u) :=
  postAndTake_commit_refused hmay (commitOrder_of_full (by rw [huntimed]; exact hfault) hfit)

/-- A sound record that finds room is copied there and placed (R98). -/
theorem postAndTake_commit {f : Nat} (hfit : firstFit (stageByte u.mem o.toNat) u = some f) :
    postAndTake h (.commit r o) u =
      placeCopy h.slot.val r.toNat (readCopy u.mem o.toNat f) (commitFilled h r o f u) :=
  postAndTake_of_go hmay.1 (readOrder_commit h r o) (takeRefusal_commit hmay) huntimed (by simp [kindCodeOf])
    (commitOrder_of_fit (s := accepted h (.commit r o) u) (due := h.flags.getLsbD 0)
      (by rw [huntimed]; exact hfault) hfit)

end

/-- A FREE routine takes the copy at the take of COMMIT ROUTINE (R99). -/
theorem commit_installs {s : State} {f : Nat} (hmay : MayOrderGallery (settle s) h) (huntimed : Untimed h)
    (hfault : commitFault (settle s).mem false r.toNat o.toNat = none)
    (hfit : firstFit (stageByte (settle s).mem o.toNat) (settle s) = some f)
    (hfree : ((settle s).routine r.toNat).installed = none) :
    let u := settle s
    let n := stageByte u.mem o.toNat
    ∃ t, exec (.commitRoutine h r o) s = .next t ∧
      SlotDone u t h (.commit r o) (BitVec.ofNat 32 (f + 65536 * n)) ∧
      t.routine r.toNat = ⟨some (readCopy u.mem o.toNat f), 0, none⟩ ∧
      (∀ j, j ≠ r.toNat → t.routine j = u.routine j) ∧
      (∀ i, i < n → lookup .zero t.pool (f + i) = readWaypoint u.mem (o.toNat + 16 + 24 * i)) ∧
      OtherSlots h.slot.val u t ∧ KeptBut ([.routines, .pool] ++ orderFields) u t := by
  have htaken := (postAndTake_commit hmay huntimed hfault hfit).trans (placeCopy_free _ _ _ hfree)
  rw [resultWord_readCopy] at htaken
  refine ⟨_, exec_orderCommand htaken, slotDone_of_complete ?_ ?_, ?_, fun j hj => ?_, fun i hi => ?_,
    otherSlots_publish_complete (b := .commit r o) fun j => ?_, ?_⟩
  · rw [State.modRoutine_slot, commitFilled_slot, accepted_take]
  · rw [State.modRoutine_lastTaken, commitFilled_lastTaken]
  · rw [publish_routine, complete_routine, State.modRoutine_routine_same]
  · rw [publish_routine, complete_routine, State.modRoutine_routine_other _ _ _ _ hj, commitFilled_routine]
  · rw [publish_pool, complete_pool, State.modRoutine_pool, commitFilled_pool (h := h) (r := r) f hi]
  · rw [State.modRoutine_slot, commitFilled_slot]
  · exact (((commitFilled_keptBut (h := h) (r := r) (o := o) f).mono (by decide)).trans
      ((State.modRoutine_keptBut _ _ _).mono (by decide))).publish_complete (by decide) _ _ _

/-- A routine in use stages the copy, and COMMIT ROUTINE waits (R100). -/
theorem commit_stages {s : State} {f : Nat} {c : RoutineCopy} (hmay : MayOrderGallery (settle s) h)
    (huntimed : Untimed h) (hfault : commitFault (settle s).mem false r.toNat o.toNat = none)
    (hfit : firstFit (stageByte (settle s).mem o.toNat) (settle s) = some f)
    (hinst : ((settle s).routine r.toNat).installed = some c) (huse : ((settle s).routine r.toNat).inUse ≠ 0)
    (hnone : ((settle s).routine r.toNat).staged = none) :
    let u := settle s
    ∃ t, exec (.commitRoutine h r o) s = .next t ∧ SlotWaits u t h (.commit r o) ∧
      t.routine r.toNat = ⟨some c, (u.routine r.toNat).inUse,
        some ⟨readCopy u.mem o.toNat f, h.slot.val⟩⟩ ∧
      (∀ j, j ≠ r.toNat → t.routine j = u.routine j) ∧ OtherSlots h.slot.val u t ∧
      KeptBut ([.routines, .pool] ++ orderFields) u t := by
  refine ⟨_, exec_orderCommand ((postAndTake_commit hmay huntimed hfault hfit).trans
    (placeCopy_inUse _ _ _ (Option.isSome_iff_exists.2 ⟨c, hinst⟩) huse hnone)), slotWaits_of_slot ?_ ?_, ?_,
    fun j hj => ?_, fun j hj => ?_, ?_⟩
  · rw [publish_slot, State.modRoutine_slot, commitFilled_slot]
  · rw [publish_lastTaken, State.modRoutine_lastTaken, commitFilled_lastTaken]
  · rw [publish_routine, State.modRoutine_routine_same, commitFilled_routine, hinst]
  · rw [publish_routine, State.modRoutine_routine_other _ _ _ _ hj, commitFilled_routine]
  · rw [publish_slot, State.modRoutine_slot, commitFilled_slot, accepted_slot_other h _ _ hj]
  · exact ((commitFilled_keptBut f).mono (by decide)).trans <|
      ((State.modRoutine_keptBut _ _ _).mono (by decide)).trans ((publish_keptBut _).mono (by decide))

end

/-! ### CLEAR ROUTINE (R102) -/

/-- A routine may be freed where it is installed, not in use and without a staged copy. -/
theorem clearable_eq_none {x : Routine}
    (h : x.installed = none ∨ x.inUse ≠ 0 ∨ x.staged.isSome = true) : clearable x = none := by
  unfold clearable
  split
  · rfl
  · next c hc =>
    refine if_neg ?_
    rintro ⟨huse, hstaged⟩
    rcases h with h | h | h
    · simp [h] at hc
    · exact h huse
    · simp [Option.isNone_iff_eq_none.1 hstaged] at h

section
variable {h : OrderHead} {r : Byte} {u : State} (hmay : MayOrderGallery u h) (huntimed : Untimed h)
  (hr : r.toNat ≤ 63)
include hmay huntimed hr

theorem takeRefusal_clearRoutine : takeRefusal u h.slot.val (hostFieldsOf h (.clearRoutine r)) = none :=
  takeRefusal_none (readOrder_clearRoutine h r) (exhibitCheck_gallery _ rfl (by simp) (by simp))
    ((accessAllowed_gallery _ _ rfl).trans hmay.2) (by simpa [paramsOk, inRange] using hr) huntimed

theorem postAndTake_clearRoutine_refused (hnone : clearable (u.routine r.toNat) = none) :
    postAndTake h (.clearRoutine r) u =
      refuseAtTake h.slot.val (hostFieldsOf h (.clearRoutine r)) .state 0
        (postedAndTaken h (.clearRoutine r) u) := by
  refine postAndTake_of_refuse hmay.1 (readOrder_clearRoutine h r) (takeRefusal_clearRoutine hmay huntimed hr)
    huntimed ?_
  have hnone' : clearable ((accepted h (.clearRoutine r) u).routine r.toNat) = none := hnone
  simp only [performOrder, clearRoutineOrder, hnone']

/-- What an accepted CLEAR ROUTINE comes to. -/
theorem postAndTake_clearRoutine {c : RoutineCopy} (hsome : clearable (u.routine r.toNat) = some c) :
    postAndTake h (.clearRoutine r) u =
      complete h.slot.val .done (BitVec.ofNat 32 c.count)
        ((accepted h (.clearRoutine r) u).modRoutine r.toNat (fun _ => .free)) := by
  refine postAndTake_of_go hmay.1 (readOrder_clearRoutine h r) (takeRefusal_clearRoutine hmay huntimed hr)
    huntimed (by simp [kindCodeOf]) ?_
  have hsome' : clearable ((accepted h (.clearRoutine r) u).routine r.toNat) = some c := hsome
  simp only [performOrder, clearRoutineOrder, hsome', doneWith]

end

/-- Settles O33: the checks decide in order, then the room in the pool, then what the routine's entry holds. -/
theorem commitInstallsOrStages : Obligations.CommitInstallsOrStages := by
  intro h r o s u n hmay
  refine ⟨fun htimed => ?_, fun huntimed hr => ?_, fun huntimed hr ho => ?_,
    fun hfault huntimed => ⟨fun hfit => ?_, fun f hfit hfree => ?_, fun f c hfit hinst huse hnone => ?_⟩,
    fun huntimed hr => ⟨fun c hc => ?_, fun hnot => ?_⟩⟩
  · refine commit_refused hmay ?_
    rw [Bool.eq_true_of_not_eq_false htimed]
    exact commitFault_due _ _ _
  · exact commit_refused hmay (huntimed ▸ commitFault_number _ _ hr)
  · exact commit_refused hmay (huntimed ▸ commitFault_offset _ hr ho)
  · exact ⟨_, exec_orderCommand (postAndTake_commit_full hmay huntimed hfault hfit),
      refusedOnly_of_refuseAtTake (by decide)⟩
  · exact commit_installs hmay huntimed hfault hfit hfree
  · exact commit_stages hmay huntimed hfault hfit hinst huse hnone
  · exact ⟨_, exec_orderCommand (postAndTake_clearRoutine hmay huntimed hr (by rw [hc]; rfl)),
      slotDone_of_complete (accepted_take h _ u) rfl, by simp,
      fun j hj => by simp [State.modRoutine_routine_other _ _ _ _ hj],
      otherSlots_publish_complete fun _ => State.modRoutine_slot ..,
      ((keptBut_accepted (by decide)).trans
        ((State.modRoutine_keptBut _ _ _).mono (by decide))).publish_complete (by decide) _ _ _⟩
  · exact ⟨_, exec_orderCommand (postAndTake_clearRoutine_refused hmay huntimed hr (clearable_eq_none hnot)),
      refusedOnly_of_refuseAtTake (by decide)⟩

end Sys2Proof.Machine
end

section
/-! PROOFS. Runs begun and taken on: the claim of a run's present waypoint, the request for it, and a start queued
(R75, R96, R103, R104, R108). -/

namespace Sys2Proof.Machine

/-! ### What a claim depends on -/

section
variable {s t : State} {fs : List Field} (h : KeptBut fs s t)
include h

theorem KeptBut.routine (hf : Field.routines ∉ fs) (r : Nat) : t.routine r = s.routine r :=
  congrArg (lookup Routine.free · r) (h .routines hf : t.routines = s.routines)

end

/-- What an exhibit has asked for stands while requests and what is handed over stand. -/
theorem Asked.of_keptBut {u s t : State} {e n : Nat} {p : Purpose} {fs : List Field} (hasked : Asked u s e n p)
    (h : KeptBut fs s t) (hexhibits : Field.exhibits ∉ fs := by decide) (hgroups : Field.groups ∉ fs := by decide)
    (hhanded : Field.handed ∉ fs := by decide) : Asked u t e n p := by
  have hrequest : t.request e = s.request e := by rw [State.request, State.request, h.ex hexhibits, h.group hgroups]
  rw [Asked, hrequest, show t.handed = s.handed from h .handed hhanded]
  exact hasked

/-- Where a routine's copy and the pool stand, its waypoints stand. -/
theorem State.waypoint_congr {s t : State} {k : Nat}
    (hinst : (t.routine k).installed = (s.routine k).installed) (hpool : t.pool = s.pool) (i : Nat) :
    t.waypoint k i = s.waypoint k i := by
  rw [State.waypoint, State.waypoint, hinst, hpool]

theorem Exhibit.axisSlots_congr {x y : Exhibit} (haxes : y.axes = x.axes) : y.axisSlots = x.axisSlots := by
  rw [Exhibit.axisSlots, Exhibit.axisSlots, haxes]

theorem Exhibit.runUnits_congr {x y : Exhibit} (haxes : y.axes = x.axes) (l : List Nat) :
    y.runUnits l = x.runUnits l := by
  rw [Exhibit.runUnits, Exhibit.runUnits, haxes]

/-- The axis slots that a run moves depend on the exhibit's axes and on the run's present waypoint. -/
theorem runSlots_congr {s t : State} {x y : Exhibit} {r q : Run} (haxes : y.axes = x.axes)
    (hwaypoint : t.waypoint q.routine q.index = s.waypoint r.routine r.index) :
    runSlots t y q = runSlots s x r := by
  rw [runSlots, runSlots, Exhibit.axisSlots_congr haxes, hwaypoint]

/-- Whether the group can serve a claim depends on the exhibit's axes and on the groups. -/
theorem withinBudget_congr {s t : State} {e n : Nat} (haxes : (t.ex e).axes = (s.ex e).axes)
    (hgroups : t.groups = s.groups) : WithinBudget t e n ↔ WithinBudget s e n := by
  rw [WithinBudget, WithinBudget, group_congr haxes, State.group, State.group, hgroups]

/-- Without axes there are no run units. -/
theorem axes_ne_nil_of_runUnits {x : Exhibit} {l : List Nat} (h : 0 < x.runUnits l) : x.axes ≠ [] := by
  rintro hnil
  simp [Exhibit.runUnits, hnil] at h

/-! ### The present waypoint formed and its claim asked for (R104) -/

/-- A run at the start of its present waypoint, its claim not yet granted. -/
def Run.formed (r : Run) : Run :=
  { r with phase := .waitingGrant, started := false, arrived := [], dwell := none, dwellLeft := none }

section
variable {e : Nat} {s : State} {r : Run}

theorem formWaypoint_ex (hrun : (s.ex e).run = some r) :
    (formWaypoint e s).ex e = { s.ex e with
      clamp := (s.ex e).clamp + BitVec.ofNat 32 (clampedCount s e r), run := some r.formed } := by
  simp [formWaypoint, hrun, modRun, Run.formed]

theorem modRun_keptBut (f : Run → Run) : KeptBut [.exhibits] s (modRun e f s) := State.modEx_keptBut _ _ _

theorem formWaypoint_keptBut : KeptBut [.exhibits] s (formWaypoint e s) := by
  unfold formWaypoint
  split
  · exact .refl _ _
  · exact (State.modEx_keptBut _ _ _).trans (modRun_keptBut _)

/-- A claim that the group can serve is requested. -/
theorem goWaypoint_within (hrun : (s.ex e).run = some r)
    (hbudget : WithinBudget s e ((s.ex e).runUnits (runSlots s (s.ex e) r))) :
    goWaypoint e s = (request e ((s.ex e).runUnits (runSlots s (s.ex e) r)) .waypoint (formWaypoint e s)).1 := by
  obtain ⟨hpos, hfits⟩ := (withinBudget_congr (t := formWaypoint e s) (by rw [formWaypoint_ex hrun])
    (formWaypoint_keptBut .groups (by decide))).2 hbudget
  simp only [goWaypoint, beginWaypoint, beginOnce, hrun, if_neg (Nat.ne_of_gt hpos), request_within e _ hfits]
  rfl

/-- A run whose claim the group can serve has asked for it, formed its waypoint and waits. -/
theorem goWaypoint_asks (hrun : (s.ex e).run = some r)
    (hbudget : WithinBudget s e ((s.ex e).runUnits (runSlots s (s.ex e) r))) :
    ((goWaypoint e s).ex e).state = (s.ex e).state ∧ ((goWaypoint e s).ex e).run = some r.formed ∧
      ((goWaypoint e s).ex e).restTimer = (s.ex e).restTimer ∧
      Asked s (goWaypoint e s) e ((s.ex e).runUnits (runSlots s (s.ex e) r)) .waypoint ∧
      KeptBut arbiterFields s (goWaypoint e s) := by
  have hex := formWaypoint_ex hrun
  have hown : ((goWaypoint e s).ex e).own = ((formWaypoint e s).ex e).own := by
    rw [goWaypoint_within hrun hbudget, inner_own (request_inner ..)]
  rw [hex] at hown
  refine ⟨by simpa using congrArg Exhibit.state hown, by simpa using congrArg Exhibit.run hown,
    by simpa using congrArg Exhibit.restTimer hown, ?_, ?_⟩
  · rw [goWaypoint_within hrun hbudget]
    refine (request_asked e _ ?_ ?_).since ⟨[], ?_⟩
    · rw [hex]
      exact axes_ne_nil_of_runUnits hbudget.1
    · exact ((withinBudget_congr (by rw [hex]) (formWaypoint_keptBut .groups (by decide))).2 hbudget).2
    · rw [List.append_nil]
      exact formWaypoint_keptBut .handed (by decide)
  · rw [goWaypoint_within hrun hbudget]
    exact (formWaypoint_keptBut.mono (by decide)).trans (request_keptBut _ _ _ _)

/-- The claim may be reckoned in an earlier state, whose groups, pool and copy of the routine stand. -/
theorem goWaypoint_asks_since {u : State} (hrun : (s.ex e).run = some r)
    (haxes : (s.ex e).axes = (u.ex e).axes)
    (hinst : (s.routine r.routine).installed = (u.routine r.routine).installed)
    (hkept : KeptBut [.exhibits, .routines, .views, .notice] u s)
    (hbudget : WithinBudget u e ((u.ex e).runUnits (runSlots u (u.ex e) r))) :
    ((goWaypoint e s).ex e).state = (s.ex e).state ∧ ((goWaypoint e s).ex e).run = some r.formed ∧
      ((goWaypoint e s).ex e).restTimer = (s.ex e).restTimer ∧
      Asked u (goWaypoint e s) e ((u.ex e).runUnits (runSlots u (u.ex e) r)) .waypoint ∧
      KeptBut arbiterFields s (goWaypoint e s) := by
  have hclaim : (s.ex e).runUnits (runSlots s (s.ex e) r) = (u.ex e).runUnits (runSlots u (u.ex e) r) := by
    rw [Exhibit.runUnits_congr haxes,
      runSlots_congr haxes (State.waypoint_congr hinst (hkept .pool (by decide)) r.index)]
  obtain ⟨hstate, hformed, hrest, hasked, hframe⟩ := goWaypoint_asks hrun
    ((withinBudget_congr haxes (hkept .groups (by decide))).2 (hclaim ▸ hbudget))
  refine ⟨hstate, hformed, hrest, ?_, hframe⟩
  rw [← hclaim]
  exact hasked.since ⟨[], by rw [List.append_nil]; exact hkept .handed (by decide)⟩

end

/-! ### A run started (R96, R103) -/

section
variable (k : Nat) (s : State)

@[simp] theorem incUse_ex (j : Nat) : (incUse k s).ex j = s.ex j := rfl

theorem incUse_inUse : ((incUse k s).routine k).inUse = (s.routine k).inUse + 1 := by
  rw [incUse, State.modRoutine_routine_same]

theorem incUse_installed (j : Nat) : ((incUse k s).routine j).installed = (s.routine j).installed := by
  by_cases hj : j = k
  · subst hj
    rw [incUse, State.modRoutine_routine_same]
  · rw [incUse, State.modRoutine_routine_other _ _ _ _ hj]

theorem incUse_keptBut : KeptBut [.routines] s (incUse k s) := State.modRoutine_keptBut _ _ _

end

/-- The run that a start begins depends on the routine's copy. -/
theorem newRun_congr {s t : State} {k : Nat} (hinst : (t.routine k).installed = (s.routine k).installed)
    (o : Origin) (b : Bool) : newRun t k o b = newRun s k o b := by
  rw [newRun, newRun, hinst]

/-- The slots that a start's first waypoint moves depend on the axes, the routine's copy and the pool. -/
theorem runSlots_newRun_congr {s t : State} {x y : Exhibit} {k : Nat} (haxes : y.axes = x.axes)
    (hinst : (t.routine k).installed = (s.routine k).installed) (hpool : t.pool = s.pool) (o : Origin)
    (b : Bool) : runSlots t y (newRun t k o b) = runSlots s x (newRun s k o b) :=
  runSlots_congr haxes (State.waypoint_congr hinst hpool 0)

section
variable {e k : Nat} {o : Origin} {b : Bool} {s : State}

theorem beginRun_ex : (beginRun e k o b s).ex e = { s.ex e with
    run := some (newRun s k o b), state := .running, restTimer := none, target := none, heldAct := none } := by
  rw [beginRun, enter_ex, State.modEx_ex_same]

theorem beginRun_keptBut : KeptBut enterFields s (beginRun e k o b s) :=
  ((State.modEx_keptBut _ _ _).mono (by decide)).trans (enter_keptBut _ _ _)

/-- A start whose first claim the group can serve runs and has asked for it. -/
theorem startRun_asks
    (hbudget : WithinBudget s e ((s.ex e).runUnits (runSlots s (s.ex e) (newRun s k o b)))) :
    ((startRun e k o b s).ex e).state = .running ∧ ((startRun e k o b s).ex e).run = some (newRun s k o b) ∧
      ((startRun e k o b s).ex e).restTimer = none ∧
      ((startRun e k o b s).routine k).inUse = (s.routine k).inUse + 1 ∧
      Asked s (startRun e k o b s) e ((s.ex e).runUnits (runSlots s (s.ex e) (newRun s k o b))) .waypoint ∧
      KeptBut [.exhibits, .groups, .handed, .routines, .views, .notice] s (startRun e k o b s) := by
  have hbegun : KeptBut enterFields (incUse k s) (beginRun e k o b (incUse k s)) := beginRun_keptBut
  have hkept : KeptBut [.exhibits, .routines, .views, .notice] s (beginRun e k o b (incUse k s)) :=
    ((incUse_keptBut k s).mono (by decide)).trans (hbegun.mono (by decide))
  have hrun := congrArg Exhibit.run (beginRun_ex (e := e) (k := k) (o := o) (b := b) (s := incUse k s))
  rw [newRun_congr (incUse_installed k s k)] at hrun
  obtain ⟨hstate, hformed, hrest, hasked, hframe⟩ := goWaypoint_asks_since hrun (by rw [beginRun_ex]; rfl)
    ((congrArg Routine.installed (hbegun.routine (by decide) k)).trans (incUse_installed k s k)) hkept hbudget
  rw [beginRun_ex] at hstate hrest
  refine ⟨hstate, hformed, hrest, ?_, hasked, (hkept.mono (by decide)).trans (hframe.mono (by decide))⟩
  rw [startRun, hframe.routine (by decide), hbegun.routine (by decide), incUse_inUse]

end

/-! ### A start queued (R75) -/

section
variable {e : Nat} {s : State} (q : Queued) (hnone : (s.ex e).queued = none)
include hnone

/-- A start queued where none was is named by the exhibit alone. -/
theorem setQueued_of_none : setQueued e q s = incUse q.routine (s.modEx e (fun x => { x with queued := some q })) := by
  simp only [setQueued, hnone]

theorem setQueued_ex : (setQueued e q s).ex e = { s.ex e with queued := some q } := by
  rw [setQueued_of_none q hnone, incUse_ex, State.modEx_ex_same]

theorem setQueued_otherExhibits : OtherExhibits e s (setQueued e q s) := by
  rw [setQueued_of_none q hnone]
  exact fun j hj => (incUse_ex _ _ j).trans (State.modEx_ex_other _ _ _ _ hj)

theorem setQueued_inUse : ((setQueued e q s).routine q.routine).inUse = (s.routine q.routine).inUse + 1 := by
  rw [setQueued_of_none q hnone, incUse_inUse, State.modEx_routine]

theorem setQueued_installed (j : Nat) :
    ((setQueued e q s).routine j).installed = (s.routine j).installed := by
  rw [setQueued_of_none q hnone, incUse_installed, State.modEx_routine]

theorem setQueued_keptBut : KeptBut [.exhibits, .routines] s (setQueued e q s) := by
  rw [setQueued_of_none q hnone]
  exact ((State.modEx_keptBut _ _ _).mono (by decide)).trans ((incUse_keptBut _ _).mono (by decide))

end

/-! ### A waiting run taken on (R108) -/

/-- A run at its next waypoint, not yet formed. -/
def Run.next (r : Run) : Run := { r with index := r.index + 1 }

section
variable {e : Nat} {s : State} {r : Run} {c : RoutineCopy} (hrun : (s.ex e).run = some r)
  (hinst : (s.routine r.routine).installed = some c) (hnext : r.index + 1 < c.count)
include hrun hinst hnext

/-- A run with a next waypoint goes on to it. -/
theorem advanceRun_next : advanceRun e s = (modRun e Run.next s, true) := by
  simp only [advanceRun, hrun, hinst, if_pos hnext]
  rfl

theorem steppedIndex_next : steppedIndex e s = r.index + 1 := by
  simp [steppedIndex, advanceRun_next hrun hinst hnext, modRun, hrun, Run.next]

/-- A STEP whose next claim the group can serve has asked for it. -/
theorem stepWaiting_asks (hbudget : WithinBudget s e ((s.ex e).runUnits (runSlots s (s.ex e) r.next))) :
    ((stepWaiting e s).ex e).state = (s.ex e).state ∧
      ((stepWaiting e s).ex e).run = some r.next.formed ∧
      Asked s (stepWaiting e s) e ((s.ex e).runUnits (runSlots s (s.ex e) r.next)) .waypoint ∧
      KeptBut arbiterFields s (stepWaiting e s) := by
  have hstep : stepWaiting e s = goWaypoint e (modRun e Run.next s) := by
    simp only [stepWaiting, advanceRun_next hrun hinst hnext]
  have hkept : KeptBut [.exhibits] s (modRun e Run.next s) := modRun_keptBut _
  have hex : (modRun e Run.next s).ex e = { s.ex e with run := some r.next } := by simp [modRun, hrun]
  generalize modRun e Run.next s = w at hstep hkept hex
  obtain ⟨hstate, hformed, -, hasked, hframe⟩ := goWaypoint_asks_since (by rw [hex]) (by rw [hex])
    (congrArg Routine.installed (hkept.routine (by decide) r.next.routine)) (hkept.mono (by decide)) hbudget
  rw [hex] at hstate
  rw [hstep]
  exact ⟨hstate, hformed, hasked, (hkept.mono (by decide)).trans hframe⟩

end

end Sys2Proof.Machine
end

section
/-! PROOFS. RUN ROUTINE and STEP, as orders and as START and STEP presses (R71 to R76, R96, R103, R104, R113, R115). -/

namespace Sys2Proof.Machine

/-! ### Orders that wait in their slot -/

section
variable {h : OrderHead} {b : OrderBody} {u v : State} {fs gs : List Field} (hkept : KeptBut fs (accepted h b u) v)
include hkept

/-- An accepted order whose effect leaves the slots alone waits in its slot; the other slots stand. -/
theorem waits_of_keptBut (hslots : Field.slots ∉ fs) (hlast : Field.lastTaken ∉ fs) (hfs : fs ⊆ gs)
    (hgs : orderFields ⊆ gs) :
    SlotWaits u (publish v) h b ∧ OtherSlots h.slot.val u (publish v) ∧ KeptBut gs u (publish v) := by
  refine ⟨slotWaits_of_slot (hkept.slot hslots _) (hkept .lastTaken hlast), fun j hj => ?_, ?_⟩
  · exact (hkept.slot hslots j).trans (accepted_slot_other h b u hj)
  · exact (keptBut_accepted hgs).trans <| (hkept.mono hfs).trans <|
      (publish_keptBut v).mono (List.Subset.trans (by decide) hgs)

end

/-! ### RUN ROUTINE -/

/-- RUN ROUTINE is read from its slot as written. -/
theorem readOrder_runRoutine (h : OrderHead) (r : Byte) :
    readOrder (hostFieldsOf h (.runRoutine r)).kind (hostFieldsOf h (.runRoutine r)).params =
      some (.runRoutine r) := by
  simp [hostFieldsOf, kindCodeOf, readOrder, paramBytes, paramField]

section
variable {e k r : Nat} {b : Bool} {s : State}

theorem runOrder_refused
    (hnot : s.isInstalled r = false ∨ (s.ex e).state = .faulted ∨ (s.ex e).state = .lockedOut) :
    runOrder e k r b s = .refuse .state 0 := by
  unfold runOrder
  by_cases hinst : s.isInstalled r = true
  · rw [if_neg (by simp [hinst])]
    rcases hnot with h | h | h
    · exact absurd hinst (by simp [h])
    · rw [h]
    · rw [h]
  · exact if_pos (by simpa using hinst)

/-- A READY exhibit without hold reasons begins the run. -/
theorem runOrder_ready (hinst : s.isInstalled r = true) (hready : (s.ex e).state = .ready)
    (hhold : (s.ex e).hold = ⟨false, false, false⟩) :
    runOrder e k r b s = .go (startRun e r (.order k) b s) := by
  simp [runOrder, hinst, hready, hhold, HoldReasons.isEmpty]

/-- A RUNNING exhibit queues the start. -/
theorem runOrder_running (hinst : s.isInstalled r = true) (hrunning : (s.ex e).state = .running) :
    runOrder e k r b s = .go (setQueued e ⟨r, .order k, b, false⟩ s) := by
  simp [runOrder, hinst, hrunning]

end

section
variable {h : OrderHead} {r : Byte} {u : State} (hmay : MayOrderExhibit u h) (huntimed : Untimed h)
  (hr : r.toNat ≤ 63)
include hmay huntimed hr

theorem takeRefusal_runRoutine : takeRefusal u h.slot.val (hostFieldsOf h (.runRoutine r)) = none :=
  takeRefusal_of_mayOrder hmay huntimed rfl (by simpa [paramsOk, inRange] using hr) (readOrder_runRoutine h r)

theorem postAndTake_runRoutine_refused
    (hnot : u.isInstalled r.toNat = false ∨ (u.ex (OrderHead.ex h)).state = .faulted ∨
      (u.ex (OrderHead.ex h)).state = .lockedOut) :
    postAndTake h (.runRoutine r) u =
      refuseAtTake h.slot.val (hostFieldsOf h (.runRoutine r)) .state 0
        (postedAndTaken h (.runRoutine r) u) :=
  postAndTake_of_refuse hmay.1 (readOrder_runRoutine h r) (takeRefusal_runRoutine hmay huntimed hr) huntimed
    (runOrder_refused hnot)

/-- What an accepted RUN ROUTINE comes to. -/
theorem postAndTake_runRoutine {v : State}
    (hgo : runOrder (OrderHead.ex h) h.slot.val r.toNat (h.flags.getLsbD 1) (accepted h (.runRoutine r) u) =
      .go v) : postAndTake h (.runRoutine r) u = v :=
  postAndTake_of_go hmay.1 (readOrder_runRoutine h r) (takeRefusal_runRoutine hmay huntimed hr) huntimed
    (by simp [kindCodeOf]) hgo

end

/-- In READY without hold reasons RUN ROUTINE begins the run, which waits for its grant (R103, R104, R113). -/
theorem runRoutine_starts {h : OrderHead} {r : Byte} {s : State} (hmay : MayOrderExhibit (settle s) h)
    (huntimed : Untimed h) (hr : r.toNat ≤ 63) (hinst : (settle s).isInstalled r.toNat = true)
    (hready : ((settle s).ex (OrderHead.ex h)).state = .ready)
    (hhold : ((settle s).ex (OrderHead.ex h)).hold = ⟨false, false, false⟩)
    (hbudget : WithinBudget (settle s) (OrderHead.ex h) (((settle s).ex (OrderHead.ex h)).runUnits
      (runSlots (settle s) ((settle s).ex (OrderHead.ex h))
        (newRun (settle s) r.toNat (.order h.slot.val) (h.flags.getLsbD 1))))) :
    ∃ t, exec (.runRoutine h r) s = .next t ∧ SlotWaits (settle s) t h (.runRoutine r) ∧
      (t.ex (OrderHead.ex h)).state = .running ∧
      (t.ex (OrderHead.ex h)).run =
        some (newRun (settle s) r.toNat (.order h.slot.val) (h.flags.getLsbD 1)) ∧
      (t.ex (OrderHead.ex h)).restTimer = none ∧
      (t.routine r.toNat).inUse = ((settle s).routine r.toNat).inUse + 1 ∧
      OtherSlots h.slot.val (settle s) t ∧
      KeptBut ([.exhibits, .groups, .handed, .routines] ++ orderFields) (settle s) t := by
  obtain ⟨hstate, hrun, hrest, huse, -, hkept⟩ := startRun_asks (e := OrderHead.ex h) (k := r.toNat)
    (o := .order h.slot.val) (b := h.flags.getLsbD 1) (s := accepted h (.runRoutine r) (settle s)) hbudget
  obtain ⟨hwaits, hslots, hframe⟩ := waits_of_keptBut (b := .runRoutine r) hkept
    (gs := [.exhibits, .groups, .handed, .routines] ++ orderFields) (by decide) (by decide) (by decide) (by decide)
  exact ⟨_, exec_orderCommand (postAndTake_runRoutine hmay huntimed hr (runOrder_ready hinst hready hhold)), hwaits,
    hstate, hrun, hrest, huse, hslots, hframe⟩

/-- In RUNNING with no start queued RUN ROUTINE becomes the queued start (R75, R113). -/
theorem runRoutine_queues {h : OrderHead} {r : Byte} {s : State} (hmay : MayOrderExhibit (settle s) h)
    (huntimed : Untimed h) (hr : r.toNat ≤ 63) (hinst : (settle s).isInstalled r.toNat = true)
    (hrunning : ((settle s).ex (OrderHead.ex h)).state = .running)
    (hnone : ((settle s).ex (OrderHead.ex h)).queued = none) :
    ∃ t, exec (.runRoutine h r) s = .next t ∧ SlotWaits (settle s) t h (.runRoutine r) ∧
      t.ex (OrderHead.ex h) = { (settle s).ex (OrderHead.ex h) with
        queued := some ⟨r.toNat, .order h.slot.val, h.flags.getLsbD 1, false⟩ } ∧
      (t.routine r.toNat).inUse = ((settle s).routine r.toNat).inUse + 1 ∧
      OtherSlots h.slot.val (settle s) t ∧ OtherExhibits (OrderHead.ex h) (settle s) t ∧
      KeptBut ([.exhibits, .routines] ++ orderFields) (settle s) t := by
  have hnone' : ((accepted h (.runRoutine r) (settle s)).ex (OrderHead.ex h)).queued = none := hnone
  obtain ⟨hwaits, hslots, hframe⟩ := waits_of_keptBut (b := .runRoutine r)
    (setQueued_keptBut ⟨r.toNat, .order h.slot.val, h.flags.getLsbD 1, false⟩ hnone')
    (gs := [.exhibits, .routines] ++ orderFields) (by decide) (by decide) (by decide) (by decide)
  refine ⟨_, exec_orderCommand (postAndTake_runRoutine hmay huntimed hr (runOrder_running hinst hrunning)), hwaits,
    ?_, ?_, hslots, fun j hj => ?_, hframe⟩
  · rw [publish_ex, setQueued_ex _ hnone', accepted_ex]
  · rw [publish_routine, setQueued_inUse _ hnone', accepted_routine]
  · rw [publish_ex, setQueued_otherExhibits _ hnone' j hj, accepted_ex]

/-! ### STEP -/

section
variable {h : OrderHead} {u : State} (hmay : MayOrderExhibit u h) (huntimed : Untimed h)
include hmay huntimed

/-- STEP is refused where no run waits (R115). -/
theorem postAndTake_step_refused (hnot : (u.ex (OrderHead.ex h)).waitsStep = false) :
    postAndTake h .stepRun u =
      refuseAtTake h.slot.val (hostFieldsOf h .stepRun) .state 0 (postedAndTaken h .stepRun u) :=
  postAndTake_of_refuse hmay.1 rfl (takeRefusal_of_mayOrder hmay huntimed rfl rfl rfl) huntimed
    (if_neg (Bool.eq_false_iff.1 hnot))

/-- What an accepted STEP comes to. -/
theorem postAndTake_step (hwaits : (u.ex (OrderHead.ex h)).waitsStep = true) :
    postAndTake h .stepRun u =
      complete h.slot.val .done (BitVec.ofNat 32 (steppedIndex (OrderHead.ex h) (accepted h .stepRun u)))
        (stepWaiting (OrderHead.ex h) (accepted h .stepRun u)) :=
  postAndTake_of_go hmay.1 rfl (takeRefusal_of_mayOrder hmay huntimed rfl rfl rfl) huntimed (by decide)
    (if_pos hwaits)

end

/-- An exhibit whose run waits for STEP is RUNNING. -/
theorem running_of_waitsStep {x : Exhibit} (hwaits : x.waitsStep = true) : x.state = .running := by
  obtain ⟨hstate, -⟩ := Bool.and_eq_true_iff.1 hwaits
  exact beq_iff_eq.1 hstate

/-- A STEP taken in WAITING STEP goes on to the next waypoint, and its result word is the index (R115). -/
theorem step_acts {h : OrderHead} {s : State} {r : Run} {c : RoutineCopy} (hmay : MayOrderExhibit (settle s) h)
    (huntimed : Untimed h) (hwaits : ((settle s).ex (OrderHead.ex h)).waitsStep = true)
    (hrun : ((settle s).ex (OrderHead.ex h)).run = some r)
    (hinst : ((settle s).routine r.routine).installed = some c) (hnext : r.index + 1 < c.count)
    (hbudget : WithinBudget (settle s) (OrderHead.ex h) (((settle s).ex (OrderHead.ex h)).runUnits
      (runSlots (settle s) ((settle s).ex (OrderHead.ex h)) r.next))) :
    ∃ t, exec (.stepRun h) s = .next t ∧ SlotDone (settle s) t h .stepRun (BitVec.ofNat 32 (r.index + 1)) ∧
      (t.ex (OrderHead.ex h)).state = .running ∧ (t.ex (OrderHead.ex h)).run = some r.next.formed ∧
      OtherSlots h.slot.val (settle s) t ∧
      KeptBut ([.exhibits, .groups, .handed] ++ orderFields) (settle s) t := by
  obtain ⟨hstate, hformed, -, hkept⟩ := stepWaiting_asks (e := OrderHead.ex h) (s := accepted h .stepRun (settle s))
    hrun hinst hnext hbudget
  have htaken := postAndTake_step hmay huntimed hwaits
  rw [steppedIndex_next (s := accepted h .stepRun (settle s)) hrun hinst hnext] at htaken
  refine ⟨_, exec_orderCommand htaken, slotDone_of_complete ?_ (hkept .lastTaken (by decide)), ?_, ?_,
    otherSlots_publish_complete (hkept.slot (by decide)), exhibits_publish_complete hkept (by decide) (by decide) _ _⟩
  · rw [hkept.slot (by decide), accepted_take]
  · rw [publish_ex, complete_ex, hstate]
    exact running_of_waitsStep hwaits
  · rw [publish_ex, complete_ex, hformed]

/-! ### What a START press meets (R71 to R74) -/

/-- A START press meets an exhibit whose busy policy judges it. -/
def Exhibit.busy (x : Exhibit) : Prop :=
  x.state = .running ∨ x.state = .homing ∨ x.state = .held ∨
    (x.state = .braking ∧ x.brakingToLock = false) ∨ (x.state = .ready ∧ x.hold.isEmpty = false)

section
variable {s : State} {e r : Nat} {p : BusyPolicy}

theorem startPress_notInstalled (hnot : s.isInstalled r = false) :
    startPress e r p s = (s, .declinedNoRoutine) := if_pos (by simp [hnot])

section
variable (hinst : s.isInstalled r = true)
include hinst

/-- FAULTED, LOCKED OUT and the way there decline a START press (R71). -/
theorem startPress_state
    (h : (s.ex e).state = .faulted ∨ (s.ex e).state = .lockedOut ∨ (s.ex e).brakingToLock = true) :
    startPress e r p s = (s, .declinedState) := by
  rcases h with h | h | h
  · simp [startPress, hinst, h]
  · simp [startPress, hinst, h]
  · have hbraking : (s.ex e).state = .braking := by simp_all [Exhibit.brakingToLock]
    simp [startPress, hinst, hbraking, h]

/-- Beside a hold reason a RESTING exhibit queues a START press (R72). -/
theorem startPress_resting (hresting : (s.ex e).state = .resting) (hhold : (s.ex e).hold.isEmpty = false) :
    startPress e r p s = (setQueued e ⟨r, .press, false, false⟩ s, .queued) := by
  simp [startPress, hinst, hresting, hhold]

/-- A busy exhibit judges a START press by its policy (R73, R74). -/
theorem startPress_busy (hbusy : (s.ex e).busy) : startPress e r p s = busyStart e r p s := by
  rcases hbusy with h | h | h | ⟨h, hlock⟩ | ⟨h, hhold⟩
  · simp [startPress, hinst, h]
  · simp [startPress, hinst, h]
  · simp [startPress, hinst, h]
  · simp [startPress, hinst, h, hlock]
  · simp [startPress, hinst, h, hhold]

end

/-- QUEUE, and RESTART outside RUNNING, queue the start (R73, R74). -/
theorem busyStart_queues (h : p = .queue ∨ (p = .restart ∧ (s.ex e).state ≠ .running)) :
    busyStart e r p s = (setQueued e ⟨r, .press, false, false⟩ s, .queued) := by
  rcases h with rfl | ⟨rfl, hnot⟩
  · rfl
  · exact if_neg hnot

end

/-! ### A wake for a queued start (R35, R72) -/

section
variable (e : Nat) (s : State)

/-- The wake units of an exhibit with axes that need not home, for its queued start (R35). -/
theorem wakeUnits_of_queued {q : Queued} (haxes : (s.ex e).axes ≠ []) (hrehome : (s.ex e).rest.rehome = false)
    (hqueued : (s.ex e).queued = some q) :
    wakeUnits s e = (s.ex e).holdUnits +
      (s.ex e).runUnits (runSlots s (s.ex e) (newRun s q.routine q.origin q.atEnd)) := by
  simp [wakeUnits, haxes, hrehome, hqueued]

/-- An exhibit that asks for its wake units keeps its queued start. -/
theorem wake_within_queued (hresting : (s.ex e).state = .resting) (hhold : (s.ex e).hold = ⟨false, false, false⟩)
    (hpending : (s.ex e).wakePending = false) (hbudget : WithinBudget s e (wakeUnits s e)) :
    ((wake e s).ex e).queued = (s.ex e).queued := by
  have hwithin : wakeUnits s e ≤ ((wakeAsking e s).group ((wakeAsking e s).ex e).group).budget := by
    rw [wakeAsking_budget]
    exact hbudget.2
  have hown : ((wake e s).ex e).own = { (s.ex e).own with wakePending := true } := by
    rw [wake_asks e s hresting hhold hpending (Nat.pos_iff_ne_zero.1 hbudget.1), request_within e _ hwithin,
      if_neg (by decide), inner_own (request_inner ..), wakeAsking_own]
  simpa using congrArg Exhibit.queued hown

/-! ### A run ended for its replacement (R31, R74) -/

/-- A RUNNING exhibit whose run is ended and its request withdrawn, its queued start kept. -/
def stopKeeping (e : Nat) (s : State) : State := withdraw e (endRun e .stopped s)

theorem stopKeeping_standing :
    (stopKeeping e s).standing = s.standing.change e (fun x => { x with run := none }) := by
  rw [stopKeeping, standing_of_inner (withdraw_inner ..), endRun_standing]

theorem stopKeeping_own : ((stopKeeping e s).ex e).own = { (s.ex e).own with run := none } :=
  standing_own (stopKeeping_standing e s)

theorem stopKeeping_axes : ((stopKeeping e s).ex e).axes = (s.ex e).axes := by
  simpa using congrArg Exhibit.axes (stopKeeping_own e s)

theorem stopKeeping_ch (c : Nat) : (stopKeeping e s).ch c = s.ch c :=
  standing_ch (stopKeeping_standing e s) c

/-- A run ended for a replacement with an axis moving brakes the exhibit toward READY, the queued start kept. -/
theorem stopRunning_keeping_brakes (hmove : s.anyMoving e = true) :
    ((stopRunning e true s).ex e).state = .braking ∧ ((stopRunning e true s).ex e).target = some .ready ∧
      ((stopRunning e true s).ex e).run = none ∧ ((stopRunning e true s).ex e).queued = (s.ex e).queued ∧
      ∀ a ∈ (s.ex e).axes, (s.ch a.channel).state = .moving →
        (stopRunning e true s).ch a.channel = { s.ch a.channel with state := .braking } := by
  have hown := stopKeeping_own e s
  have hmove' : (stopKeeping e s).anyMoving e = true :=
    (anyMoving_congr (stopKeeping_axes e s) (stopKeeping_ch e s)).trans hmove
  have hstop : stopRunning e true s = enterBraking e .ready none (brakeAxes e (stopKeeping e s)) := if_pos hmove'
  rw [hstop, enterBraking_brakeAxes_ex]
  refine ⟨rfl, rfl, by simpa using congrArg Exhibit.run hown, by simpa using congrArg Exhibit.queued hown,
    fun a ha hmoving => ?_⟩
  have hch := stopKeeping_ch e s a.channel
  rw [← hch] at hmoving ⊢
  exact enterBraking_brakeAxes_ch _ e _ _ a (by rwa [stopKeeping_axes]) hmoving

end

/-! ### Presses judged by their entry's action (R65 to R67, R70) -/

/-- The outcomes that the action of a press that has spent its token can have are ACTED, QUEUED and RESTARTED, or
declines; each raises its tally. -/
theorem tallyPress_eq {o : PressOutcome} (ho : o ≠ .suppressed) (x : Input) :
    tallyPress o x = { x with
      acted := x.acted + (if o.code ≤ 3 then 1 else 0),
      declined := x.declined + (if o.code ≤ 3 then 0 else 1), suppressed := x.suppressed + 0 } := by
  cases o <;> simp [tallyPress, PressOutcome.code] at ho ⊢

section
variable {v : State} {i e : Nat} {b : Bucket} {m : MapEntry} (hpass : PressPasses v i e b)
  (hentry : (v.ex e).entryAt i = some m)
include hpass hentry

/-- A press whose action leaves the inputs alone is tallied and recorded with the action's outcome. -/
theorem press_comes_to {w : State} {o : PressOutcome} {outcome routine : Nat} {fs : List Field}
    (hhelp : m.action ≠ .help) (happly : applyAction e i (pressPassed v i e) = (w, o)) (ho : o ≠ .suppressed)
    (hcode : o.code = outcome) (hnames : (if m.action = .start then m.routine else 255) = routine)
    (hkept : KeptBut fs (pressPassed v i e) w) (hfs : Field.inputs ∉ fs) :
    ∃ t, PressTaken v t (inputEvent i true v) i e b outcome routine ∧ KeptBut [.inputs] w t := by
  subst hcode hnames
  obtain ⟨howner, -, -, hbucket, -⟩ := id hpass
  have hrecord : pressRecord (v.modInp i (fun x => { x with accepted := true })) i o =
      pressOf v i e o.code (if m.action = .start then m.routine else 255) := by
    simp [pressRecord, pressOf, howner, hentry]
  refine ⟨_, pressTaken_of_outcome (o := o) hbucket (fun j => hkept.inp hfs j) ?_ (tallyPress_eq ho),
    State.modInp_keptBut _ _ _⟩
  rw [inputEvent_press hpass (by simpa [Exhibit.actionAt, hentry] using hhelp), happly, hrecord]
  exact if_neg ho

/-- A press whose action declines it changes nothing but its input's record. -/
theorem press_declined {o : PressOutcome} {outcome routine : Nat} (hhelp : m.action ≠ .help)
    (happly : applyAction e i (pressPassed v i e) = (pressPassed v i e, o)) (ho : o ≠ .suppressed)
    (hcode : o.code = outcome) (hnames : (if m.action = .start then m.routine else 255) = routine) :
    ∃ w, PressTaken v w (inputEvent i true v) i e b outcome routine ∧ KeptBut [.inputs] v w := by
  obtain ⟨w, htaken, hkept⟩ := press_comes_to hpass hentry hhelp happly ho hcode hnames (.refl [] _)
    List.not_mem_nil
  exact ⟨w, htaken, (pressPassed_keptBut v i e).trans hkept⟩

/-! ### The STEP press -/

section
variable (hstep : m.action = .step)
include hstep

omit hpass in
theorem applyAction_step : applyAction e i (pressPassed v i e) = stepPress e (pressPassed v i e) := by
  simp only [applyAction, pressPassed_ex, hentry, hstep]

/-- A STEP press is declined where no run waits (R76). -/
theorem stepPress_declined (hnot : (v.ex e).waitsStep = false) :
    ∃ w, PressTaken v w (inputEvent i true v) i e b 5 255 ∧ KeptBut [.inputs] v w := by
  have happly : applyAction e i (pressPassed v i e) = (pressPassed v i e, .declinedState) :=
    (applyAction_step hentry hstep).trans (if_neg (Bool.eq_false_iff.1 hnot))
  exact press_declined hpass hentry (by simp [hstep]) happly (by decide) rfl
    (if_neg (by simp [hstep]))

/-- A STEP press takes a waiting run to its next waypoint (R76, R108). -/
theorem stepPress_acts {r : Run} {c : RoutineCopy} (hwaits : (v.ex e).waitsStep = true)
    (hrun : (v.ex e).run = some r) (hinst : (v.routine r.routine).installed = some c)
    (hnext : r.index + 1 < c.count)
    (hbudget : WithinBudget v e ((v.ex e).runUnits (runSlots v (v.ex e) r.next))) :
    ∃ w, PressTaken v w (inputEvent i true v) i e b 1 255 ∧ (w.ex e).state = .running ∧
      (w.ex e).run = some r.next.formed ∧
      Asked v w e ((v.ex e).runUnits (runSlots v (v.ex e) r.next)) .waypoint ∧
      KeptBut [.inputs, .exhibits, .groups, .handed, .notice] v w := by
  have happly : applyAction e i (pressPassed v i e) = (stepWaiting e (pressPassed v i e), .acted) :=
    (applyAction_step hentry hstep).trans (if_pos hwaits)
  obtain ⟨hstate, hformed, hasked, hkept⟩ := stepWaiting_asks (e := e) (s := pressPassed v i e) hrun hinst hnext
    hbudget
  obtain ⟨w, htaken, hframe⟩ := press_comes_to hpass hentry (by simp [hstep]) happly (by decide) rfl
    (if_neg (by simp [hstep])) hkept (by decide)
  refine ⟨w, htaken, ?_, ?_, ?_, ?_⟩
  · rw [hframe.ex (by decide), hstate]
    exact running_of_waitsStep hwaits
  · rw [hframe.ex (by decide), hformed]
  · exact hasked.of_keptBut hframe
  · exact ((pressPassed_keptBut v i e).mono (by decide)).trans <|
      (hkept.mono (by decide)).trans (hframe.mono (by decide))

end

/-! ### The START press -/

section
variable (hstart : m.action = .start)
include hstart

omit hpass in
theorem applyAction_start :
    applyAction e i (pressPassed v i e) = startPress e m.routine m.policy (pressPassed v i e) := by
  simp only [applyAction, pressPassed_ex, hentry, hstart]

/-- A START press that its exhibit declines changes nothing but its input's record. -/
theorem startPress_declined {o : PressOutcome} {outcome : Nat}
    (hpress : startPress e m.routine m.policy (pressPassed v i e) = (pressPassed v i e, o))
    (ho : o ≠ .suppressed) (hcode : o.code = outcome) :
    ∃ w, PressTaken v w (inputEvent i true v) i e b outcome m.routine ∧ KeptBut [.inputs] v w :=
  press_declined hpass hentry (by simp [hstart]) ((applyAction_start hentry hstart).trans hpress) ho hcode
    (if_pos hstart)

/-- A START press that becomes the queued start (R75). -/
theorem startPress_queues (hnone : (v.ex e).queued = none)
    (hpress : startPress e m.routine m.policy (pressPassed v i e) =
      (setQueued e ⟨m.routine, .press, false, false⟩ (pressPassed v i e), .queued)) :
    ∃ w, PressTaken v w (inputEvent i true v) i e b 2 m.routine ∧
      w.ex e = { v.ex e with queued := some ⟨m.routine, .press, false, false⟩ } ∧ OtherExhibits e v w ∧
      (w.routine m.routine).inUse = (v.routine m.routine).inUse + 1 ∧
      KeptBut [.inputs, .exhibits, .routines] v w := by
  have hnone' : ((pressPassed v i e).ex e).queued = none := hnone
  have hkept := setQueued_keptBut ⟨m.routine, .press, false, false⟩ hnone'
  obtain ⟨w, htaken, hframe⟩ := press_comes_to hpass hentry (by simp [hstart])
    ((applyAction_start hentry hstart).trans hpress) (by decide) rfl (if_pos hstart) hkept (by decide)
  refine ⟨w, htaken, ?_, fun j hj => ?_, ?_, ?_⟩
  · rw [hframe.ex (by decide), setQueued_ex _ hnone', pressPassed_ex]
  · rw [hframe.ex (by decide), setQueued_otherExhibits _ hnone' j hj, pressPassed_ex]
  · rw [hframe.routine (by decide), setQueued_inUse _ hnone', (pressPassed_keptBut v i e).routine (by decide)]
  · exact ((pressPassed_keptBut v i e).mono (by decide)).trans <|
      (hkept.mono (by decide)).trans (hframe.mono (by decide))

/-- A START press on a READY exhibit without hold reasons begins the run (R71). -/
theorem startPress_starts (hinst : v.isInstalled m.routine = true) (hready : (v.ex e).state = .ready)
    (hhold : (v.ex e).hold = ⟨false, false, false⟩)
    (hbudget : WithinBudget v e ((v.ex e).runUnits (runSlots v (v.ex e) (newRun v m.routine .press false)))) :
    ∃ w, PressTaken v w (inputEvent i true v) i e b 1 m.routine ∧ (w.ex e).state = .running ∧
      (w.ex e).run = some (newRun v m.routine .press false) ∧
      Asked v w e ((v.ex e).runUnits (runSlots v (v.ex e) (newRun v m.routine .press false))) .waypoint ∧
      (w.routine m.routine).inUse = (v.routine m.routine).inUse + 1 ∧
      KeptBut [.inputs, .exhibits, .groups, .handed, .routines, .views, .notice] v w := by
  have hinst' : (pressPassed v i e).isInstalled m.routine = true := hinst
  have hpress : startPress e m.routine m.policy (pressPassed v i e) =
      (startRun e m.routine .press false (pressPassed v i e), .acted) := by
    simp [startPress, hinst', hready, hhold, HoldReasons.isEmpty]
  obtain ⟨hstate, hrun, -, huse, hasked, hkept⟩ := startRun_asks (e := e) (s := pressPassed v i e) hbudget
  obtain ⟨w, htaken, hframe⟩ := press_comes_to hpass hentry (by simp [hstart])
    ((applyAction_start hentry hstart).trans hpress) (by decide) rfl (if_pos hstart) hkept (by decide)
  refine ⟨w, htaken, ?_, ?_, hasked.of_keptBut hframe, ?_, ?_⟩
  · rw [hframe.ex (by decide), hstate]
  · rw [hframe.ex (by decide), hrun]
    rfl
  · rw [hframe.routine (by decide), huse, (pressPassed_keptBut v i e).routine (by decide)]
  · exact ((pressPassed_keptBut v i e).mono (by decide)).trans <|
      (hkept.mono (by decide)).trans (hframe.mono (by decide))

/-- A START press on a RESTING exhibit without hold reasons is its queued start and wakes it (R72, R34, R35). -/
theorem startPress_wakes (hinst : v.isInstalled m.routine = true) (hresting : (v.ex e).state = .resting)
    (hnone : (v.ex e).queued = none) (hhold : (v.ex e).hold = ⟨false, false, false⟩)
    (hpending : (v.ex e).wakePending = false) (haxes : (v.ex e).axes ≠ []) (hrehome : (v.ex e).rest.rehome = false)
    (hbudget : WithinBudget v e ((v.ex e).holdUnits +
      (v.ex e).runUnits (runSlots v (v.ex e) (newRun v m.routine .press false)))) :
    ∃ w, PressTaken v w (inputEvent i true v) i e b 1 m.routine ∧
      (w.ex e).queued = some ⟨m.routine, .press, false, false⟩ ∧ (w.ex e).wakePending = true ∧
      (w.ex e).state = .resting ∧
      Asked v w e ((v.ex e).holdUnits +
        (v.ex e).runUnits (runSlots v (v.ex e) (newRun v m.routine .press false))) .wake := by
  have hpress : startPress e m.routine m.policy (pressPassed v i e) =
      (wake e (setQueued e ⟨m.routine, .press, false, false⟩ (pressPassed v i e)), .acted) := by
    have hinst' : (pressPassed v i e).isInstalled m.routine = true := hinst
    simp [startPress, hinst', hresting, hhold, HoldReasons.isEmpty]
  have hnone' : ((pressPassed v i e).ex e).queued = none := hnone
  have hkept := setQueued_keptBut ⟨m.routine, .press, false, false⟩ hnone'
  have hex := setQueued_ex ⟨m.routine, .press, false, false⟩ hnone'
  have hinstalled := setQueued_installed ⟨m.routine, .press, false, false⟩ hnone' m.routine
  rw [pressPassed_ex] at hex
  generalize setQueued e ⟨m.routine, .press, false, false⟩ (pressPassed v i e) = u at hpress hkept hex hinstalled
  have hunits : wakeUnits u e = (v.ex e).holdUnits +
      (v.ex e).runUnits (runSlots v (v.ex e) (newRun v m.routine .press false)) := by
    have hslots : runSlots u (u.ex e) (newRun u m.routine .press false) =
        runSlots v (v.ex e) (newRun v m.routine .press false) :=
      runSlots_newRun_congr (by rw [hex]) hinstalled (hkept .pool (by decide)) _ _
    rw [wakeUnits_of_queued e u (q := ⟨m.routine, .press, false, false⟩) (by rwa [hex])
      (by rw [hex]; exact hrehome) (by rw [hex]), hslots, hex]
    rfl
  have hbudget' : WithinBudget u e (wakeUnits u e) := by
    rw [hunits]
    exact (withinBudget_congr (s := v) (by rw [hex]) (hkept .groups (by decide))).2 hbudget
  obtain ⟨hstate, hwake, hasked, hwoken⟩ := wake_within e u (by rw [hex]; exact hresting) (by rw [hex]; exact hhold)
    (by rw [hex]; exact hpending) (by rwa [hex]) hbudget'
  have hqueued := wake_within_queued e u (by rw [hex]; exact hresting) (by rw [hex]; exact hhold)
    (by rw [hex]; exact hpending) hbudget'
  obtain ⟨w, htaken, hframe⟩ := press_comes_to hpass hentry (by simp [hstart])
    ((applyAction_start hentry hstart).trans hpress) (by decide) rfl (if_pos hstart)
    ((hkept.mono (gs := [.exhibits, .routines, .groups, .handed, .views, .notice]) (by decide)).trans
      (hwoken.mono (by decide))) (by decide)
  refine ⟨w, htaken, ?_, ?_, ?_, ?_⟩
  · rw [hframe.ex (by decide), hqueued, hex]
  · rw [hframe.ex (by decide), hwake]
  · rw [hframe.ex (by decide), hstate]
  · rw [← hunits]
    exact (hasked.of_keptBut hframe).since ⟨[], by rw [List.append_nil]; exact hkept .handed (by decide)⟩

/-- RESTART in RUNNING with an axis moving ends the run for the press, which waits as its replacement (R74, R31). -/
theorem startPress_restarts (hinst : v.isInstalled m.routine = true) (hrunning : (v.ex e).state = .running)
    (hnone : (v.ex e).queued = none) (hpolicy : m.policy = .restart) (hmove : v.anyMoving e = true) :
    ∃ w, PressTaken v w (inputEvent i true v) i e b 3 m.routine ∧ (w.ex e).state = .braking ∧
      (w.ex e).target = some .ready ∧ (w.ex e).run = none ∧
      (w.ex e).queued = some ⟨m.routine, .press, false, true⟩ ∧
      (∀ a ∈ (v.ex e).axes, (v.ch a.channel).state = .moving →
        w.ch a.channel = { v.ch a.channel with state := .braking }) := by
  have hpress : startPress e m.routine m.policy (pressPassed v i e) =
      (stopRunning e true (setQueued e ⟨m.routine, .press, false, true⟩ (pressPassed v i e)), .restarted) := by
    have hinst' : (pressPassed v i e).isInstalled m.routine = true := hinst
    simp [startPress, hinst', hrunning, hpolicy, busyStart]
  have hnone' : ((pressPassed v i e).ex e).queued = none := hnone
  have hkept := setQueued_keptBut ⟨m.routine, .press, false, true⟩ hnone'
  have hex := setQueued_ex ⟨m.routine, .press, false, true⟩ hnone'
  rw [pressPassed_ex] at hex
  have hch : ∀ c, (setQueued e ⟨m.routine, .press, false, true⟩ (pressPassed v i e)).ch c = v.ch c := fun c =>
    (hkept.ch (by decide) c).trans ((pressPassed_keptBut v i e).ch (by decide) c)
  generalize setQueued e ⟨m.routine, .press, false, true⟩ (pressPassed v i e) = u at hpress hkept hex hch
  obtain ⟨hstate, htarget, hrun, hqueued, hbrake⟩ := stopRunning_keeping_brakes e u
    ((anyMoving_congr (by rw [hex]) hch).trans hmove)
  obtain ⟨w, htaken, hframe⟩ := press_comes_to hpass hentry (by simp [hstart])
    ((applyAction_start hentry hstart).trans hpress) (by decide) rfl (if_pos hstart)
    ((hkept.mono (gs := exhibitFields) (by decide)).trans (keptBut_of_outer (stopRunning_outer e true u))) (by decide)
  refine ⟨w, htaken, ?_, ?_, ?_, ?_, fun a ha hmoving => ?_⟩
  · rw [hframe.ex (by decide), hstate]
  · rw [hframe.ex (by decide), htarget]
  · rw [hframe.ex (by decide), hrun]
  · rw [hframe.ex (by decide), hqueued, hex]
  · rw [hframe.ch (by decide), hbrake a (by rwa [hex]) (by rwa [hch]), hch]

end

end

/-- Settles O31: the state, and for a press the busy policy, choose between a refusal, a run begun, a start queued,
a wake and a run ended for its replacement. -/
theorem runRoutineStartsOrQueues : Obligations.RunRoutineStartsOrQueues := by
  constructor
  · intro h r s u e run claim hmay huntimed hr
    exact ⟨fun hnot => ⟨_, exec_orderCommand (postAndTake_runRoutine_refused hmay huntimed hr hnot),
        refusedOnly_of_refuseAtTake (by decide)⟩,
      fun hinst hready hhold hpos hfits => runRoutine_starts hmay huntimed hr hinst hready hhold ⟨hpos, hfits⟩,
      fun hinst hrunning hnone => runRoutine_queues hmay huntimed hr hinst hrunning hnone⟩
  · intro v i e b m x t q run claim busy queues declined hpass hentry hstart
    refine ⟨fun hnot => ?_, fun hinst => ⟨fun hdecline => ?_, fun hready hhold hbudget => ?_,
      fun hresting hnone hhold => ?_, fun hresting hnone hhold hpending haxes hrehome hbudget => ?_,
      fun hbusy hignore => ?_, fun hbusy hnone hpolicy => ?_, fun hrunning hnone hpolicy hmove => ?_⟩⟩
    · exact startPress_declined hpass hentry hstart (startPress_notInstalled hnot) (by decide) rfl
    · exact startPress_declined hpass hentry hstart (startPress_state hinst hdecline) (by decide) rfl
    · exact startPress_starts hpass hentry hstart hinst hready hhold hbudget
    · exact startPress_queues hpass hentry hstart hnone (startPress_resting hinst hresting hhold)
    · exact startPress_wakes hpass hentry hstart hinst hresting hnone hhold hpending haxes hrehome hbudget
    · refine startPress_declined hpass hentry hstart (o := .declinedBusy) ?_ (by decide) rfl
      rw [startPress_busy (s := pressPassed v i e) hinst hbusy, hignore]
      rfl
    · refine startPress_queues hpass hentry hstart hnone ?_
      rw [startPress_busy (s := pressPassed v i e) hinst hbusy]
      exact busyStart_queues hpolicy
    · exact startPress_restarts hpass hentry hstart hinst hrunning hnone hpolicy hmove

/-- Settles O32: the order and the press share what taking a waiting run on does. -/
theorem stepOrderAdvancesTheRun : Obligations.StepOrderAdvancesTheRun := by
  constructor
  · intro h s u e hmay huntimed
    exact ⟨fun hnot => ⟨_, exec_orderCommand (postAndTake_step_refused hmay huntimed hnot),
        refusedOnly_of_refuseAtTake (by decide)⟩,
      fun r c hwaits hrun hinst hnext hpos hfits =>
        step_acts hmay huntimed hwaits hrun hinst hnext ⟨hpos, hfits⟩⟩
  · intro v i e b m x hpass hentry hstep
    exact ⟨stepPress_declined hpass hentry hstep, fun r c hwaits hrun hinst hnext hbudget =>
      stepPress_acts hpass hentry hstep hwaits hrun hinst hnext hbudget⟩

end Sys2Proof.Machine
end

section
/-! PROOFS. Changes of the channels of some axes, the axes at some slots, and the start checks (R118, R119). -/

namespace Sys2Proof.Machine

/-! ### Changes of the channels of some axes -/

/-- Change the channel of every axis of a list. -/
def onAxes (l : List AxisRec) (f : AxisRec → Channel → Channel) (s : State) : State :=
  l.foldl (fun u a => u.modCh a.channel (f a)) s

theorem modAxes_eq_onAxes (e : Nat) (f : AxisRec → Channel → Channel) (s : State) :
    modAxes e f s = onAxes (s.ex e).axes f s := rfl

section
variable (l : List AxisRec) (f : AxisRec → Channel → Channel) (s : State)

theorem onAxes_keptBut : KeptBut [.channels] s (onAxes l f s) :=
  .foldl _ (fun _ _ => State.modCh_keptBut _ _ _) l s

@[simp] theorem onAxes_ex (j : Nat) : (onAxes l f s).ex j = s.ex j := (onAxes_keptBut l f s).ex (by decide) j

/-- A channel that no axis of the list names stands. -/
theorem onAxes_ch_other {c : Nat} (hc : c ∉ l.map (·.channel)) : (onAxes l f s).ch c = s.ch c := by
  unfold onAxes
  induction l generalizing s with
  | nil => rfl
  | cons a l ih =>
    obtain ⟨hne, hrest⟩ : c ≠ a.channel ∧ c ∉ l.map (·.channel) := by simpa using hc
    rw [List.foldl_cons, ih _ hrest, State.modCh_ch_other _ _ _ _ hne]

/-- Where the axes name different channels, each channel is changed once. -/
theorem onAxes_ch (hnodup : (l.map (·.channel)).Nodup) {a : AxisRec} (ha : a ∈ l) :
    (onAxes l f s).ch a.channel = f a (s.ch a.channel) := by
  induction l generalizing s with
  | nil => exact absurd ha List.not_mem_nil
  | cons b l ih =>
    obtain ⟨hfresh, hrest⟩ := List.nodup_cons.1 hnodup
    have hstep : onAxes (b :: l) f s = onAxes l f (s.modCh b.channel (f b)) := rfl
    rw [hstep]
    rcases List.mem_cons.1 ha with rfl | hmem
    · rw [onAxes_ch_other _ _ _ hfresh, State.modCh_ch_same]
    · have hne : a.channel ≠ b.channel := fun heq => hfresh (List.mem_map.2 ⟨a, hmem, heq⟩)
      rw [ih _ hrest hmem, State.modCh_ch_other _ _ _ _ hne]

end

/-! ### The axes at some slots -/

section
variable {s t : State} {e : Nat} {l m : List Nat} {a b : AxisRec}

theorem axesOf_congr (haxes : (t.ex e).axes = (s.ex e).axes) (l : List Nat) : axesOf t e l = axesOf s e l := by
  have hat : (t.ex e).axisAt = (s.ex e).axisAt := by
    funext k
    rw [Exhibit.axisAt, Exhibit.axisAt, haxes]
  rw [axesOf, axesOf, Exhibit.axisSlots_congr haxes, hat]

/-- An axis stands at its own slot. -/
theorem slot_of_axisAt {x : Exhibit} {k : Nat} (h : x.axisAt k = some a) : a.slot = k := by
  simpa using List.find?_some h

theorem mem_axesOf_iff :
    a ∈ axesOf s e l ↔ a.slot ∈ (s.ex e).axisSlots ∧ a.slot ∈ l ∧ (s.ex e).axisAt a.slot = some a := by
  constructor
  · intro h
    obtain ⟨k, hk, hat⟩ := List.mem_filterMap.1 h
    obtain ⟨hslot, hmem⟩ := List.mem_filter.1 hk
    rw [slot_of_axisAt hat]
    exact ⟨hslot, by simpa using hmem, hat⟩
  · rintro ⟨hslot, hmem, hat⟩
    exact List.mem_filterMap.2 ⟨a.slot, List.mem_filter.2 ⟨hslot, by simpa using hmem⟩, hat⟩

/-- An axis at a slot of one list is at a slot of another where its slot is in that list. -/
theorem mem_axesOf_of_mem (h : a ∈ axesOf s e l) (hslot : a.slot ∈ m) : a ∈ axesOf s e m := by
  obtain ⟨hin, -, hat⟩ := mem_axesOf_iff.1 h
  exact mem_axesOf_iff.2 ⟨hin, hslot, hat⟩

/-- The axes of an exhibit differ in their slots. -/
theorem eq_of_slot_eq (ha : a ∈ axesOf s e l) (hb : b ∈ axesOf s e m) (h : a.slot = b.slot) : a = b := by
  obtain ⟨-, -, hata⟩ := mem_axesOf_iff.1 ha
  obtain ⟨-, -, hatb⟩ := mem_axesOf_iff.1 hb
  exact Option.some.inj (hata.symm.trans (h ▸ hatb))

/-- Fewer slots give fewer axes, in the same order. -/
theorem axesOf_sublist (h : l ⊆ m) : (axesOf s e l).Sublist (axesOf s e m) :=
  (List.monotone_filter_right _ fun k hk => by simpa using h (by simpa using hk)).filterMap _

/-- Axes at fewer slots name different channels where those at more slots do. -/
theorem nodup_channels_of_subset (h : l ⊆ m) (hnodup : ((axesOf s e m).map (·.channel)).Nodup) :
    ((axesOf s e l).map (·.channel)).Nodup := hnodup.sublist ((axesOf_sublist h).map _)

/-- The slots that a run moves are among the exhibit's. -/
theorem runSlots_subset {x : Exhibit} {r : Run} : runSlots s x r ⊆ x.axisSlots := List.filter_subset_self _

/-- The slot of an axis that passes a test is among the slots of those that do, and of no other. -/
theorem slot_mem_map_filter (p : AxisRec → Bool) (ha : a ∈ axesOf s e l) :
    a.slot ∈ ((axesOf s e l).filter p).map (·.slot) ↔ p a = true := by
  constructor
  · intro h
    obtain ⟨b, hb, hslot⟩ := List.mem_map.1 h
    obtain ⟨hmem, hp⟩ := List.mem_filter.1 hb
    exact eq_of_slot_eq hmem ha hslot ▸ hp
  · exact fun hp => List.mem_map_of_mem (List.mem_filter.2 ⟨ha, hp⟩)

end

/-! ### Start checks that pass (R118, R119) -/

section
variable {s : State} {e : Nat} {l : List AxisRec}

theorem lowestWith_eq_none {p : Channel → Bool} (h : ∀ a ∈ l, p (s.ch a.channel) = false) :
    lowestWith s l p = none :=
  List.find?_eq_none.2 fun a ha => by simp [h a ha]

theorem startCheck_eq_none (h : ∀ a ∈ l, (s.ch a.channel).limit = false ∧ (s.ch a.channel).fault = false) :
    startCheck s l = none := by
  rw [startCheck, lowestWith_eq_none fun a ha => (h a ha).1, lowestWith_eq_none fun a ha => (h a ha).2]
  rfl

theorem movementCheck_eq_none (h : ∀ a ∈ l, (s.ch a.channel).limit = false ∧ (s.ch a.channel).fault = false)
    (b : Bool) : movementCheck s e l b = none := by
  rw [movementCheck, startCheck_eq_none h]

theorem energiseReport_eq_none (h : ∀ a ∈ (s.ex e).axes, (s.ch a.channel).fault = false) :
    energiseReport s e = none := by
  rw [energiseReport, lowestWith_eq_none fun a ha => h a (mem_axes_of_mem_axesOf ha)]
  rfl

end

/-! ### Moves started (R119, R130, R132) -/

section
variable (a : AxisRec) (T : Int) (percent exp : Nat) (c : Channel)

/-- A started WAYPOINT move runs toward its target, or has arrived. -/
theorem startedToward_startWaypoint : StartedToward a T percent exp c (startWaypoint a T percent exp c) := by
  refine ⟨fun haway => ?_, fun hat hconfirmed => ?_, fun hat hconfirm hready => ?_⟩
  · rw [startWaypoint, if_neg haway]
    by_cases hlt : c.p < T * 1000
    · simp only [if_pos hlt]
      rfl
    · have hgt : T * 1000 < c.p := lt_of_le_of_ne (not_lt.1 hlt) (Ne.symm haway)
      simp only [if_neg hlt, if_pos hgt]
      rfl
  · rw [startWaypoint, if_pos hat, arriveAt, if_neg (by rcases hconfirmed with h | h <;> simp [h])]
    simp [endMove, movePosition, hat]
  · rw [startWaypoint, if_pos hat, arriveAt, if_pos (by simp [hconfirm, hready])]
    simp [movePosition, hat]

theorem startWaypoint_fault : (startWaypoint a T percent exp c).fault = c.fault := by
  unfold startWaypoint arriveAt
  dsimp only
  split
  · split <;> rfl
  · rfl

theorem startedHoming_startHoming : StartedHoming a c (startHoming a c) := by
  refine ⟨fun haway => ?_, fun hhome => ?_⟩
  · rw [startHoming, if_neg (by simp [haway])]
    rfl
  · rw [startHoming, if_pos hhome]
    exact ⟨rfl, rfl, rfl, rfl, rfl⟩

theorem releaseChannel_of_idle {c : Channel} (h : c.kind = none) : releaseChannel a c = c := by
  rw [releaseChannel, h]

/-- A WAYPOINT move resumed runs from rest toward its target (R130). -/
theorem resumeMove_waypoint {c : Channel} (hkind : c.kind = some .waypoint) (htarget : c.target = some T) :
    resumeMove a c = { c with state := .moving, phase := some .rampUp, v := 0,
                              dir := if c.p < T * 1000 then .up else .down } := by
  simp only [resumeMove, hkind, htarget, Option.getD_some]

/-- A HOMING move resumed away from HOME runs from rest (R130). -/
theorem resumeMove_homing {c : Channel} (hkind : c.kind = some .homing) (hhome : c.home = false) :
    resumeMove a c = { c with state := .moving, phase := some .rampUp, v := 0, dir := homingDir a } := by
  simp [resumeMove, hkind, hhome]

end

end Sys2Proof.Machine
end

section
/-! PROOFS. The grant of a waypoint's claim: the cue, the order that completes, and the axes started (R105, R106,
R119). -/

namespace Sys2Proof.Machine

/-! ### A waypoint granted (R105, R106) -/

theorem completeOrigin_keptBut_orders (o : Origin) (out : OrderOutcome) (r : Word) (s : State) :
    KeptBut [.slots, .notice] s (completeOrigin o out r s) := by
  cases o with
  | press => exact .refl _ _
  | order k => exact complete_keptBut k out r s

section
variable {e : Nat} {s : State} {r : Run} (hrun : (s.ex e).run = some r)
include hrun

theorem modRun_ex (f : Run → Run) : (modRun e f s).ex e = { s.ex e with run := some (f r) } := by
  simp [modRun, hrun]

/-- An order that completes at its first grant is marked in the run, and touches nothing else of the exhibits. -/
theorem completeAtGrant_ex :
    ∃ d, (completeAtGrant e s).ex e = { s.ex e with run := some { r with originDone := d } } := by
  simp only [completeAtGrant, hrun]
  split
  · refine ⟨true, ?_⟩
    rw [(completeOrigin_keptBut_orders _ _ _ _).ex (by decide), modRun_ex hrun]
  · refine ⟨r.originDone, ?_⟩
    rw [← hrun]

end

section
variable (e : Nat) (s : State)

theorem modRun_otherExhibits (f : Run → Run) : OtherExhibits e s (modRun e f s) :=
  fun _ hj => State.modEx_ex_other _ _ _ _ hj

theorem completeAtGrant_otherExhibits : OtherExhibits e s (completeAtGrant e s) := by
  unfold completeAtGrant
  split
  · exact fun _ _ => rfl
  · split
    · exact fun j hj => ((completeOrigin_keptBut_orders _ _ _ _).ex (by decide) j).trans
        (modRun_otherExhibits e s _ j hj)
    · exact fun _ _ => rfl

theorem completeAtGrant_keptBut : KeptBut [.exhibits, .slots, .notice] s (completeAtGrant e s) := by
  unfold completeAtGrant
  split
  · exact .refl _ _
  · split
    · exact ((modRun_keptBut _).mono (by decide)).trans ((completeOrigin_keptBut_orders _ _ _ _).mono (by decide))
    · exact .refl _ _

theorem pulseCue_keptBut (c : Nat) : KeptBut [.cues] s (pulseCue c s) := by
  unfold pulseCue
  split
  · exact .refl _ _
  · exact with_cues_keptBut _ _

/-- A cue line pulsed is active until 100 ms from now (R106). -/
theorem pulseCue_cue {c : Nat} (hc : c ≠ 0) : (pulseCue c s).cue c = some (after s.tick 100) := by
  rw [pulseCue, if_neg hc]
  exact lookup_store_same ..

/-- A run whose waypoint's claim has been granted, the cue pulsed and the order completed, its axes yet to start. -/
def waypointTaken (e : Nat) (r : Run) (s : State) : State :=
  completeAtGrant e (pulseCue (s.waypoint r.routine r.index).cue
    (modRun e (fun r => { r with phase := .moving, started := true }) s))

theorem waypointTaken_keptBut (r : Run) :
    KeptBut [.exhibits, .slots, .cues, .notice] s (waypointTaken e r s) :=
  ((modRun_keptBut _).mono (by decide)).trans <|
    ((pulseCue_keptBut _ _).mono (by decide)).trans ((completeAtGrant_keptBut _ _).mono (by decide))

theorem waypointTaken_otherExhibits (r : Run) : OtherExhibits e s (waypointTaken e r s) :=
  fun j hj => (completeAtGrant_otherExhibits _ _ j hj).trans <|
    ((pulseCue_keptBut _ _).ex (by decide) j).trans (modRun_otherExhibits e s _ j hj)

theorem waypointTaken_cue {r : Run} (hcue : (s.waypoint r.routine r.index).cue ≠ 0) :
    (waypointTaken e r s).cue (s.waypoint r.routine r.index).cue = some (after s.tick 100) := by
  rw [State.cue, waypointTaken, show (completeAtGrant _ _).cues = _ from
    completeAtGrant_keptBut _ _ .cues (by decide)]
  exact pulseCue_cue _ hcue

theorem waypointTaken_ex {r : Run} (hrun : (s.ex e).run = some r) :
    ∃ d, (waypointTaken e r s).ex e =
      { s.ex e with run := some { r with phase := .moving, started := true, originDone := d } } := by
  have hex : (pulseCue (s.waypoint r.routine r.index).cue
      (modRun e (fun r => { r with phase := .moving, started := true }) s)).ex e =
        { s.ex e with run := some { r with phase := .moving, started := true } } := by
    rw [(pulseCue_keptBut _ _).ex (by decide), modRun_ex hrun]
  obtain ⟨d, hd⟩ := completeAtGrant_ex (r := { r with phase := .moving, started := true }) (by rw [hex])
  exact ⟨d, by rw [waypointTaken, hd, hex]⟩

end

/-- The change of a channel as a waypoint's axis starts. -/
def waypointStart (w : Waypoint) (a : AxisRec) : Channel → Channel :=
  startWaypoint a (clampTarget a (w.targets.getD a.slot 0)) w.percent w.exp

/-- The slots of the axes that have arrived at the start. -/
def arrivedAtStart (l : List AxisRec) (s : State) : List Nat :=
  (l.filter (fun a => (s.ch a.channel).state == .idle)).map (·.slot)

theorem startRunAxes_eq (e : Nat) (r : Run) (l : List AxisRec) (s : State) :
    startRunAxes e r l s = publishExhibit e
      (modRun e (fun q => { q with
        arrived := q.arrived ++ arrivedAtStart l (onAxes l (waypointStart (s.waypoint r.routine r.index)) s) })
        (onAxes l (waypointStart (s.waypoint r.routine r.index)) s)) := rfl

/-- What a waypoint's grant does where its start checks pass and some axis has a way to go. -/
structure WaypointStarts (e : Nat) (r : Run) (s t : State) : Prop where
  exhibit : ∃ d, t.ex e = { s.ex e with run := some { r with
    phase := .moving, started := true, originDone := d,
    arrived := arrivedAtStart (axesOf s e (runSlots s (s.ex e) r)) t } }
  started : ∀ a ∈ axesOf s e (runSlots s (s.ex e) r),
    t.ch a.channel = waypointStart (s.waypoint r.routine r.index) a (s.ch a.channel)
  still : ∀ c, c ∉ (axesOf s e (runSlots s (s.ex e) r)).map (·.channel) → t.ch c = s.ch c
  cue : (s.waypoint r.routine r.index).cue ≠ 0 →
    t.cue (s.waypoint r.routine r.index).cue = some (after s.tick 100)
  others : OtherExhibits e s t
  frame : KeptBut [.exhibits, .channels, .slots, .cues, .views, .notice] s t

section
variable {e : Nat} {s : State} {r : Run}

/-- The axes of a taken waypoint started. -/
theorem waypointStarts_startRunAxes (hrun : (s.ex e).run = some r) (harrived : r.arrived = [])
    (hnodup : ((axesOf s e (runSlots s (s.ex e) r)).map (·.channel)).Nodup) :
    WaypointStarts e r s
      (startRunAxes e r (axesOf s e (runSlots s (s.ex e) r)) (waypointTaken e r s)) := by
  have htaken := waypointTaken_keptBut e s r
  have hwaypoint : (waypointTaken e r s).waypoint r.routine r.index = s.waypoint r.routine r.index :=
    State.waypoint_congr (by rw [htaken.routine (by decide)]) (htaken .pool (by decide)) _
  have hch : ∀ c, (waypointTaken e r s).ch c = s.ch c := htaken.ch (by decide)
  obtain ⟨d, hex⟩ := waypointTaken_ex e s hrun
  rw [startRunAxes_eq, hwaypoint]
  have hmoved := onAxes_keptBut (axesOf s e (runSlots s (s.ex e) r))
    (waypointStart (s.waypoint r.routine r.index)) (waypointTaken e r s)
  constructor
  · refine ⟨d, ?_⟩
    rw [publishExhibit_ex, modRun_ex (by rw [onAxes_ex, hex])]
    simp only [onAxes_ex, hex, harrived, List.nil_append]
    rfl
  · intro a ha
    rw [publishExhibit_ch, modRun, State.modEx_ch, onAxes_ch _ _ _ hnodup ha, hch]
  · intro c hc
    rw [publishExhibit_ch, modRun, State.modEx_ch, onAxes_ch_other _ _ _ hc, hch]
  · intro hcue
    rw [← waypointTaken_cue e s hcue]
    exact congrArg (lookup none · _) (hmoved .cues (by decide))
  · intro j hj
    rw [publishExhibit_ex, modRun_otherExhibits _ _ _ j hj, onAxes_ex, waypointTaken_otherExhibits _ _ _ j hj]
  · exact (htaken.mono (by decide)).trans <| (hmoved.mono (by decide)).trans <|
      ((modRun_keptBut _).mono (by decide)).trans ((publishExhibit_keptBut _ _).mono (by decide))

namespace WaypointStarts

variable {t : State} (h : WaypointStarts e r s t)
include h

theorem fault (c : Nat) : (t.ch c).fault = (s.ch c).fault := by
  by_cases hc : c ∈ (axesOf s e (runSlots s (s.ex e) r)).map (·.channel)
  · obtain ⟨a, ha, rfl⟩ := List.mem_map.1 hc
    rw [h.started a ha, waypointStart, startWaypoint_fault]
  · rw [h.still c hc]

omit h in
/-- An axis of the waypoint is marked arrived where its channel is IDLE. -/
theorem mem_arrived {a : AxisRec} (ha : a ∈ axesOf s e (runSlots s (s.ex e) r)) :
    a.slot ∈ arrivedAtStart (axesOf s e (runSlots s (s.ex e) r)) t ↔ (t.ch a.channel).state = .idle :=
  (slot_mem_map_filter _ ha).trans beq_iff_eq

/-- An axis with a way to go is yet to arrive. -/
theorem not_allArrived {a : AxisRec} (ha : a ∈ axesOf s e (runSlots s (s.ex e) r))
    (haway : (s.ch a.channel).p ≠ clampTarget a ((s.waypoint r.routine r.index).targets.getD a.slot 0) * 1000) :
    allArrived t e = false := by
  obtain ⟨d, hex⟩ := h.exhibit
  have hslots : runSlots t (t.ex e) { r with
      phase := .moving, started := true, originDone := d,
      arrived := arrivedAtStart (axesOf s e (runSlots s (s.ex e) r)) t } = runSlots s (s.ex e) r :=
    runSlots_congr (by rw [hex]) (State.waypoint_congr (by rw [h.frame.routine (by decide)])
      (h.frame .pool (by decide)) _)
  have hmoving : (t.ch a.channel).state ≠ .idle := by
    rw [h.started a ha, waypointStart, (startedToward_startWaypoint a _ _ _ _).1 haway]
    exact ChanState.noConfusion
  have hslot : a.slot ∈ runSlots s (s.ex e) r := (mem_axesOf_iff.1 ha).2.1
  have hrun := congrArg Exhibit.run hex
  simp only [allArrived, hrun, hslots]
  exact List.all_eq_false.2 ⟨a.slot, hslot, by simpa [mem_arrived ha] using hmoving⟩

end WaypointStarts

/-- A waypoint's grant whose start checks pass starts its axes, and waits where some axis has a way to go (R105). -/
theorem waypointGranted_starts (b : Bool) (hrun : (s.ex e).run = some r) (harrived : r.arrived = [])
    (hnodup : ((axesOf s e (runSlots s (s.ex e) r)).map (·.channel)).Nodup)
    (hclear : ∀ a ∈ axesOf s e (runSlots s (s.ex e) r),
      (s.ch a.channel).limit = false ∧ (s.ch a.channel).fault = false)
    (hdrivers : b = true → ∀ a ∈ (s.ex e).axes, (s.ch a.channel).fault = false)
    (haway : ∃ a ∈ axesOf s e (runSlots s (s.ex e) r), (s.ch a.channel).p ≠
      clampTarget a ((s.waypoint r.routine r.index).targets.getD a.slot 0) * 1000) :
    ∃ t, waypointGranted e b s = (t, .rest) ∧ WaypointStarts e r s t := by
  have hstarts := waypointStarts_startRunAxes hrun harrived hnodup
  have htaken := waypointTaken_keptBut e s r
  obtain ⟨_, hex⟩ := waypointTaken_ex e s hrun
  have haxes : axesOf (waypointTaken e r s) e (runSlots s (s.ex e) r) = axesOf s e (runSlots s (s.ex e) r) :=
    axesOf_congr (by rw [hex]) _
  have hcheck : movementCheck (waypointTaken e r s) e (axesOf s e (runSlots s (s.ex e) r)) b = none :=
    movementCheck_eq_none (fun a ha => by rw [htaken.ch (by decide)]; exact hclear a ha) b
  obtain ⟨a, ha, hway⟩ := haway
  have hnot := hstarts.not_allArrived ha hway
  generalize hw : startRunAxes e r (axesOf s e (runSlots s (s.ex e) r)) (waypointTaken e r s) = t at hstarts hnot
  refine ⟨t, ?_, hstarts⟩
  have hreport : (b && (energiseReport t e).isSome) = false := by
    cases b with
    | false => rfl
    | true =>
      obtain ⟨d, hext⟩ := hstarts.exhibit
      rw [energiseReport_eq_none fun a ha => ?_]
      · rfl
      · rw [hstarts.fault]
        rw [hext] at ha
        exact hdrivers rfl a ha
  simp only [waypointGranted, hrun]
  rw [← waypointTaken, haxes, hcheck]
  simp only [hw, hreport, hnot]
  rfl

end

end Sys2Proof.Machine
end

section
/-! PROOFS. What the grants of a resumption, of homing and of a wake do with the axes (R29, R30, R35, R118, R130,
R132). -/

namespace Sys2Proof.Machine

/-! ### A hold's waypoint resumed (R29, R130) -/

section
variable {e : Nat} {s : State} {r : Run}

/-- The axes that a resumption claims are those of the waypoint not arrived and not CONFIRMING. -/
theorem mem_resumeAxes_iff {a : AxisRec} :
    a ∈ axesOf s e (resumeSlots s e r) ↔
      a ∈ axesOf s e (runSlots s (s.ex e) r) ∧ a.slot ∉ r.arrived ∧ (s.ch a.channel).state ≠ .confirming := by
  constructor
  · intro ha
    obtain ⟨b, hb, hslot⟩ := List.mem_filterMap.1 (mem_axesOf_iff.1 ha).2.1
    obtain ⟨hconfirming, hslot⟩ : (s.ch b.channel).state ≠ .confirming ∧ b.slot = a.slot := by
      simpa using hslot
    obtain rfl := eq_of_slot_eq hb ha hslot
    obtain ⟨hmem, harrived⟩ := List.mem_filter.1 (mem_axesOf_iff.1 hb).2.1
    exact ⟨mem_axesOf_of_mem hb hmem, by simpa using harrived, hconfirming⟩
  · rintro ⟨ha, harrived, hconfirming⟩
    refine mem_axesOf_of_mem ha (List.mem_filterMap.2 ⟨a, mem_axesOf_of_mem ha ?_, if_neg hconfirming⟩)
    exact List.mem_filter.2 ⟨(mem_axesOf_iff.1 ha).2.1, by simpa using harrived⟩

theorem resumeSlots_subset : resumeSlots s e r ⊆ runSlots s (s.ex e) r := by
  intro k hk
  obtain ⟨b, hb, hslot⟩ := List.mem_filterMap.1 hk
  obtain ⟨-, rfl⟩ : (s.ch b.channel).state ≠ .confirming ∧ b.slot = k := by simpa using hslot
  exact (List.mem_filter.1 (mem_axesOf_iff.1 hb).2.1).1

/-- A waypoint that had its grant before the hold moves on with the axes that the hold stopped. -/
theorem resumeGranted_moves (hrun : (s.ex e).run = some r) (hstarted : r.started = true)
    (hclear : ∀ a ∈ axesOf s e (runSlots s (s.ex e) r),
      (s.ch a.channel).limit = false ∧ (s.ch a.channel).fault = false) :
    resumeGranted e s = (modRun e (fun r => { r with phase := .moving })
      (onAxes (axesOf s e (resumeSlots s e r)) resumeMove s), .rest) := by
  have hcheck : startCheck s (axesOf s e (resumeSlots s e r)) = none :=
    startCheck_eq_none fun a ha => hclear a (mem_resumeAxes_iff.1 ha).1
  simp only [resumeGranted, hrun, hstarted, hcheck]
  rfl

/-- A waypoint that had no grant before the hold is granted as at first (log entry 13). -/
theorem resumeGranted_of_not_started (hrun : (s.ex e).run = some r) (hstarted : r.started = false) :
    resumeGranted e s = waypointGranted e false s := by
  simp only [resumeGranted, hrun, hstarted]
  rfl

end

/-! ### Homing moves started and resumed (R130, R132) -/

/-- The change of a channel as homing starts or moves on. -/
def homeMove (a : AxisRec) (c : Channel) : Channel :=
  if c.state = .stopped ∧ c.kind = some .homing then resumeMove a c else startHoming a c

/-- What homing does with some axes where their start checks pass and some axis is left to set. -/
structure HomingMoves (e : Nat) (l : List AxisRec) (s t : State) : Prop where
  exhibit : t.ex e = { s.ex e with axesSet :=
    (s.ex e).axesSet ++ (homeActiveSlots s l).filter (fun k => !(s.ex e).axesSet.contains k) }
  moved : ∀ a ∈ l, t.ch a.channel = homeMove a (s.ch a.channel)
  still : ∀ c, c ∉ l.map (·.channel) → t.ch c = s.ch c
  others : OtherExhibits e s t
  frame : KeptBut [.exhibits, .channels, .views, .notice] s t

section
variable {e : Nat} {s : State}

theorem homeAxes_moves {l : List AxisRec} (b : Bool) (hnodup : (l.map (·.channel)).Nodup)
    (hclear : ∀ a ∈ l, (s.ch a.channel).limit = false ∧ (s.ch a.channel).fault = false)
    (hunset : ∃ a ∈ (s.ex e).axes, a.slot ∉ (s.ex e).axesSet ∧ a.slot ∉ homeActiveSlots s l) :
    HomingMoves e l s (homeAxes e b l s) := by
  have hmoves : HomingMoves e l s
      (publishExhibit e (onAxes l homeMove (markSet e (homeActiveSlots s l) s))) := by
    have hmarked : KeptBut [.exhibits] s (markSet e (homeActiveSlots s l) s) := State.modEx_keptBut _ _ _
    constructor
    · rw [publishExhibit_ex, onAxes_ex, markSet, State.modEx_ex_same]
    · intro a ha
      rw [publishExhibit_ch, onAxes_ch _ _ _ hnodup ha, hmarked.ch (by decide)]
    · intro c hc
      rw [publishExhibit_ch, onAxes_ch_other _ _ _ hc, hmarked.ch (by decide)]
    · intro j hj
      rw [publishExhibit_ex, onAxes_ex, markSet, State.modEx_ex_other _ _ _ _ hj]
    · exact (hmarked.mono (by decide)).trans <|
        ((onAxes_keptBut _ _ _).mono (by decide)).trans ((publishExhibit_keptBut _ _).mono (by decide))
  have hnot : allSet (publishExhibit e (onAxes l homeMove (markSet e (homeActiveSlots s l) s))) e = false := by
    obtain ⟨a, ha, hset, hactive⟩ := hunset
    rw [allSet, hmoves.exhibit]
    refine List.all_eq_false.2 ⟨a, ha, ?_⟩
    simp [hset, hactive]
  have heq : homeAxes e b l s = publishExhibit e (onAxes l homeMove (markSet e (homeActiveSlots s l) s)) := by
    simp only [homeAxes, movementCheck_eq_none hclear b]
    exact if_neg (Bool.eq_false_iff.1 hnot)
  rw [heq]
  exact hmoves

/-- Homing begun on every axis: each starts toward its home, or is set at once. -/
theorem homeAxes_fresh (b : Bool) (hperm : (axesOf s e (s.ex e).axisSlots).Perm (s.ex e).axes)
    (hnodup : ((s.ex e).axes.map (·.channel)).Nodup)
    (hclear : ∀ a ∈ (s.ex e).axes, (s.ch a.channel).limit = false ∧ (s.ch a.channel).fault = false)
    (hidle : ∀ a ∈ (s.ex e).axes, (s.ch a.channel).kind = none) (hset : (s.ex e).axesSet = [])
    (haway : ∃ a ∈ (s.ex e).axes, (s.ch a.channel).home = false) :
    HomingMoves e (axesOf s e (s.ex e).axisSlots) s (homeAxes e b (axesOf s e (s.ex e).axisSlots) s) ∧
      ∀ a ∈ (s.ex e).axes,
        StartedHoming a (s.ch a.channel)
          ((homeAxes e b (axesOf s e (s.ex e).axisSlots) s).ch a.channel) ∧
        (a.slot ∈ ((homeAxes e b (axesOf s e (s.ex e).axisSlots) s).ex e).axesSet ↔
          (s.ch a.channel).home = true) := by
  have hactive : ∀ a ∈ (s.ex e).axes,
      (a.slot ∈ homeActiveSlots s (axesOf s e (s.ex e).axisSlots) ↔ (s.ch a.channel).home = true) := fun a ha =>
    slot_mem_map_filter (fun a => (s.ch a.channel).home) (hperm.mem_iff.2 ha)
  have hmoves : HomingMoves e (axesOf s e (s.ex e).axisSlots) s
      (homeAxes e b (axesOf s e (s.ex e).axisSlots) s) := by
    refine homeAxes_moves b ((hperm.map _).nodup_iff.2 hnodup) (fun a ha => hclear a (hperm.mem_iff.1 ha)) ?_
    obtain ⟨a, ha, hhome⟩ := haway
    exact ⟨a, ha, by simp [hset], by simp [hactive a ha, hhome]⟩
  refine ⟨hmoves, fun a ha => ⟨?_, ?_⟩⟩
  · rw [hmoves.moved a (hperm.mem_iff.2 ha), homeMove, if_neg (by simp [hidle a ha])]
    exact startedHoming_startHoming a _
  · rw [hmoves.exhibit, ← hactive a ha]
    simp [hset]

/-- Homing resumed: the axes not yet set move on, the set ones stand (R29, R130). -/
theorem resumeHoming_moves (hperm : (axesOf s e (s.ex e).axisSlots).Perm (s.ex e).axes)
    (hnodup : ((s.ex e).axes.map (·.channel)).Nodup)
    (hclear : ∀ a ∈ (s.ex e).axes, (s.ch a.channel).limit = false ∧ (s.ch a.channel).fault = false)
    (hheld : ∀ a ∈ (s.ex e).axes, a.slot ∉ (s.ex e).axesSet → (s.ch a.channel).state = .stopped ∧
      (s.ch a.channel).kind = some .homing ∧ (s.ch a.channel).home = false)
    (hunset : ∃ a ∈ (s.ex e).axes, a.slot ∉ (s.ex e).axesSet) :
    (resumeHoming e s).ex e = s.ex e ∧ OtherExhibits e s (resumeHoming e s) ∧
      (∀ a ∈ (s.ex e).axes, (resumeHoming e s).ch a.channel = if a.slot ∈ (s.ex e).axesSet then s.ch a.channel
        else { s.ch a.channel with state := .moving, phase := some .rampUp, v := 0, dir := homingDir a }) ∧
      KeptBut [.exhibits, .channels, .views, .notice] s (resumeHoming e s) := by
  have hmem : ∀ a, a ∈ axesOf s e (unsetSlots (s.ex e)) ↔ a ∈ (s.ex e).axes ∧ a.slot ∉ (s.ex e).axesSet := by
    intro a
    rw [← hperm.mem_iff, mem_axesOf_iff, mem_axesOf_iff, unsetSlots, List.mem_filter]
    simp only [List.contains_eq_mem, Bool.not_eq_true', decide_eq_false_iff_not]
    tauto
  have hnone : homeActiveSlots s (axesOf s e (unsetSlots (s.ex e))) = [] := by
    rw [homeActiveSlots, List.filter_eq_nil_iff.2 fun a ha => ?_, List.map_nil]
    obtain ⟨hin, hslot⟩ := (hmem a).1 ha
    simp [(hheld a hin hslot).2.2]
  have hdiffer : ((axesOf s e (s.ex e).axisSlots).map (·.channel)).Nodup := (hperm.map _).nodup_iff.2 hnodup
  have hmoves : HomingMoves e (axesOf s e (unsetSlots (s.ex e))) s (resumeHoming e s) := by
    refine homeAxes_moves false (nodup_channels_of_subset (List.filter_subset_self _) hdiffer)
      (fun a ha => hclear a ((hmem a).1 ha).1) ?_
    obtain ⟨a, ha, hslot⟩ := hunset
    exact ⟨a, ha, hslot, by simp [hnone]⟩
  refine ⟨?_, hmoves.others, fun a ha => ?_, hmoves.frame⟩
  · rw [hmoves.exhibit, hnone, List.filter_nil, List.append_nil]
  · by_cases hslot : a.slot ∈ (s.ex e).axesSet
    · rw [if_pos hslot, hmoves.still _ fun hc => ?_]
      obtain ⟨b, hb, hchannel⟩ := List.mem_map.1 hc
      obtain ⟨hin, hnot⟩ := (hmem b).1 hb
      exact hnot (List.inj_on_of_nodup_map hnodup hin ha hchannel ▸ hslot)
    · obtain ⟨hstopped, hkind, hhome⟩ := hheld a ha hslot
      rw [if_neg hslot, hmoves.moved a ((hmem a).2 ⟨ha, hslot⟩), homeMove, if_pos ⟨hstopped, hkind⟩,
        resumeMove_homing a hkind hhome]

end

/-! ### Axes energised (R118) -/

section
variable {e : Nat} {s : State}

theorem energiseAxes_ch (hnodup : ((s.ex e).axes.map (·.channel)).Nodup) {a : AxisRec} (ha : a ∈ (s.ex e).axes) :
    (energiseAxes e s).ch a.channel = { s.ch a.channel with energised := true } := by
  rw [energiseAxes, modAxes_eq_onAxes, onAxes_ch _ _ _ hnodup ha]

/-- Where no axis holds a move a release changes no channel. -/
theorem releaseAxes_ch (hnodup : ((s.ex e).axes.map (·.channel)).Nodup)
    (hidle : ∀ a ∈ (s.ex e).axes, (s.ch a.channel).kind = none) {a : AxisRec} (ha : a ∈ (s.ex e).axes) :
    (releaseAxes e s).ch a.channel = s.ch a.channel := by
  rw [releaseAxes, modAxes_eq_onAxes, onAxes_ch _ _ _ hnodup ha, releaseChannel_of_idle a (hidle a ha)]

/-- A channel as the grant of homing or of a wake finds or makes it: energised where the exhibit was not. -/
def poweredBy (s : State) (e : Nat) (c : Channel) : Channel :=
  { c with energised := c.energised || !s.energised e }

/-- The state in which the grant of a homing claim starts the axes. -/
def homingPowered (e : Nat) (s : State) : State :=
  releaseAxes e (if !s.energised e then energiseAxes e s else s)

theorem homingGranted_eq : homingGranted e s = homeAxes e (!s.energised e)
    (axesOf (homingPowered e s) e ((homingPowered e s).ex e).axisSlots) (homingPowered e s) := rfl

@[simp] theorem homingPowered_ex (j : Nat) : (homingPowered e s).ex j = s.ex j := by
  unfold homingPowered releaseAxes
  split <;> simp [energiseAxes]

theorem homingPowered_keptBut : KeptBut [.channels] s (homingPowered e s) := by
  unfold homingPowered
  split
  · exact (modAxes_keptBut s e _).trans (modAxes_keptBut _ e _)
  · exact modAxes_keptBut s e _

theorem homingPowered_ch (hnodup : ((s.ex e).axes.map (·.channel)).Nodup)
    (hidle : ∀ a ∈ (s.ex e).axes, (s.ch a.channel).kind = none) {a : AxisRec} (ha : a ∈ (s.ex e).axes) :
    (homingPowered e s).ch a.channel = poweredBy s e (s.ch a.channel) := by
  unfold homingPowered
  cases hen : s.energised e with
  | true =>
    refine (releaseAxes_ch hnodup hidle ha).trans ?_
    simp [poweredBy, hen]
  | false =>
    have hex : (energiseAxes e s).ex e = s.ex e := modAxes_ex ..
    refine (releaseAxes_ch (s := energiseAxes e s) (by rwa [hex]) (fun b hb => ?_) (by rwa [hex])).trans ?_
    · rw [hex] at hb
      rw [energiseAxes_ch hnodup hb]
      exact hidle b hb
    · rw [energiseAxes_ch hnodup ha]
      simp [poweredBy, hen]

/-- A woken exhibit with its axes energised. -/
def wakePowered (e : Nat) (s : State) : State :=
  energiseAxes e (s.modEx e (fun x => { x with wakePending := false }))

theorem wakePowered_ex : (wakePowered e s).ex e = { s.ex e with wakePending := false } := by
  rw [wakePowered, energiseAxes, modAxes_ex, State.modEx_ex_same]

theorem wakePowered_otherExhibits : OtherExhibits e s (wakePowered e s) := fun j hj => by
  rw [wakePowered, energiseAxes, modAxes_ex, State.modEx_ex_other _ _ _ _ hj]

theorem wakePowered_keptBut : KeptBut [.exhibits, .channels] s (wakePowered e s) :=
  ((State.modEx_keptBut _ _ _).mono (by decide)).trans ((modAxes_keptBut _ _ _).mono (by decide))

theorem wakePowered_ch (hnodup : ((s.ex e).axes.map (·.channel)).Nodup) {a : AxisRec} (ha : a ∈ (s.ex e).axes) :
    (wakePowered e s).ch a.channel = { s.ch a.channel with energised := true } := by
  rw [wakePowered, energiseAxes_ch (by rwa [State.modEx_ex_same]) (by rwa [State.modEx_ex_same])]
  rfl

/-- A woken exhibit that rehomes has entered HOMING, its axes as yet to start. -/
def wakeHoming (e : Nat) (s : State) : State :=
  enter e .homing ((wakePowered e s).modEx e (fun x => { x with axesSet := [] }))

theorem wakeHoming_ex : (wakeHoming e s).ex e = { s.ex e with
    wakePending := false, axesSet := [], state := .homing, restTimer := none, target := none, heldAct := none } := by
  rw [wakeHoming, enter_ex, State.modEx_ex_same, wakePowered_ex]

theorem wakeHoming_ch (c : Nat) : (wakeHoming e s).ch c = (wakePowered e s).ch c := rfl

theorem wakeHoming_otherExhibits : OtherExhibits e s (wakeHoming e s) :=
  wakePowered_otherExhibits.trans ((State.modEx_otherExhibits e _ _).trans (enter_otherExhibits e _ .homing))

theorem wakeHoming_keptBut : KeptBut [.exhibits, .channels, .views, .notice] s (wakeHoming e s) :=
  (wakePowered_keptBut.mono (by decide)).trans <|
    ((State.modEx_keptBut _ _ _).mono (by decide)).trans ((enter_keptBut _ _ _).mono (by decide))

/-! ### A queued start begun (R75, R103) -/

theorem formWaypoint_otherExhibits : OtherExhibits e s (formWaypoint e s) := by
  unfold formWaypoint
  split
  · exact fun _ _ => rfl
  · exact (State.modEx_otherExhibits e _ _).trans (State.modEx_otherExhibits e _ _)

/-- A queued start begun with its first waypoint formed. -/
theorem formed_beginQueued (q : Queued) :
    (∃ n, (formWaypoint e (beginQueued e q s)).ex e = { s.ex e with
      queued := none, run := some (newRun s q.routine q.origin q.atEnd), state := .running, restTimer := none,
      target := none, heldAct := none, clamp := n }) ∧
    OtherExhibits e s (formWaypoint e (beginQueued e q s)) ∧
    KeptBut [.exhibits, .views, .notice] s (formWaypoint e (beginQueued e q s)) := by
  have hbegun : (beginQueued e q s).ex e = { s.ex e with
      queued := none, run := some (newRun s q.routine q.origin q.atEnd), state := .running, restTimer := none,
      target := none, heldAct := none } := by
    rw [beginQueued, beginRun_ex, State.modEx_ex_same]
    rfl
  have hformed := formWaypoint_ex (s := beginQueued e q s) (r := newRun s q.routine q.origin q.atEnd)
    (by rw [hbegun])
  rw [hbegun] at hformed
  refine ⟨⟨_, hformed⟩, ?_, ?_⟩
  · exact ((State.modEx_otherExhibits e s _).trans ((State.modEx_otherExhibits e _ _).trans
      (enter_otherExhibits e _ .running))).trans formWaypoint_otherExhibits
  · exact ((State.modEx_keptBut s e _).mono (by decide)).trans <|
      (beginRun_keptBut.mono (by decide)).trans (formWaypoint_keptBut.mono (by decide))

/-! ### A wake to READY and a wake to a queued start (R35) -/

/-- A woken exhibit that has nothing to move has entered READY. -/
def wakeReady (e : Nat) (s : State) : State := startRest e (enter e .ready (wakePowered e s))

theorem wakeReady_ex : ∃ n, (wakeReady e s).ex e = { s.ex e with
    wakePending := false, state := .ready, restTimer := n, target := none, heldAct := none } := by
  obtain ⟨n, hex⟩ := startRest_ex e (enter e .ready (wakePowered e s))
  rw [enter_ex, wakePowered_ex] at hex
  exact ⟨n, hex⟩

theorem wakeReady_otherExhibits : OtherExhibits e s (wakeReady e s) :=
  (wakePowered_otherExhibits.trans (enter_otherExhibits e _ .ready)).trans (startRest_otherExhibits e _)

theorem wakeReady_frame : KeptBut [.exhibits, .views, .notice] (wakePowered e s) (wakeReady e s) :=
  ((enter_keptBut _ _ _).mono (by decide)).trans ((startRest_keptBut _ _).mono (by decide))

theorem wakeReady_keptBut : KeptBut [.exhibits, .channels, .views, .notice] s (wakeReady e s) :=
  (wakePowered_keptBut.mono (by decide)).trans (wakeReady_frame.mono (by decide))

theorem wakeReady_ch (hnodup : ((s.ex e).axes.map (·.channel)).Nodup) {a : AxisRec} (ha : a ∈ (s.ex e).axes) :
    (wakeReady e s).ch a.channel = { s.ch a.channel with energised := true } := by
  rw [wakeReady_frame.ch (by decide), wakePowered_ch hnodup ha]

/-- A woken exhibit whose queued start has begun, its first waypoint formed and yet to be granted. -/
def wakeRun (e : Nat) (q : Queued) (s : State) : State := formWaypoint e (beginQueued e q (wakePowered e s))

section
variable (q : Queued)

theorem wakePowered_newRun :
    newRun (wakePowered e s) q.routine q.origin q.atEnd = newRun s q.routine q.origin q.atEnd :=
  newRun_congr (congrArg Routine.installed (wakePowered_keptBut.routine (by decide) _)) _ _

theorem wakeRun_ex : ∃ n, (wakeRun e q s).ex e = { s.ex e with
    wakePending := false, queued := none, run := some (newRun s q.routine q.origin q.atEnd), state := .running,
    restTimer := none, target := none, heldAct := none, clamp := n } := by
  obtain ⟨⟨n, hex⟩, -⟩ := formed_beginQueued (e := e) (s := wakePowered e s) q
  rw [wakePowered_newRun, wakePowered_ex] at hex
  exact ⟨n, hex⟩

theorem wakeRun_otherExhibits : OtherExhibits e s (wakeRun e q s) :=
  wakePowered_otherExhibits.trans (formed_beginQueued q).2.1

theorem wakeRun_frame : KeptBut [.exhibits, .views, .notice] (wakePowered e s) (wakeRun e q s) :=
  (formed_beginQueued q).2.2

theorem wakeRun_keptBut : KeptBut [.exhibits, .channels, .views, .notice] s (wakeRun e q s) :=
  (wakePowered_keptBut.mono (by decide)).trans ((wakeRun_frame q).mono (by decide))

theorem wakeRun_ch (hnodup : ((s.ex e).axes.map (·.channel)).Nodup) {a : AxisRec} (ha : a ∈ (s.ex e).axes) :
    (wakeRun e q s).ch a.channel = { s.ch a.channel with energised := true } := by
  rw [(wakeRun_frame q).ch (by decide), wakePowered_ch hnodup ha]

theorem wakeRun_waypoint (k i : Nat) : (wakeRun e q s).waypoint k i = s.waypoint k i :=
  State.waypoint_congr (congrArg Routine.installed ((wakeRun_keptBut q).routine (by decide) k))
    (wakeRun_keptBut q .pool (by decide)) i

/-- The axes that the first waypoint moves are the same before and after the wake. -/
theorem wakeRun_axesOf (r : Run) : axesOf (wakeRun e q s) e (runSlots (wakeRun e q s) ((wakeRun e q s).ex e) r) =
    axesOf s e (runSlots s (s.ex e) r) := by
  obtain ⟨n, hex⟩ := wakeRun_ex (e := e) (s := s) q
  rw [runSlots_congr (s := s) (x := s.ex e) (r := r) (by rw [hex]) (wakeRun_waypoint q _ _)]
  exact axesOf_congr (by rw [hex]) _

end

end

end Sys2Proof.Machine
end

section
/-! PROOFS. GRANT: the exhibit acts on the first grant handed, by its purpose and its state (R29, R30, R35, R105, R106,
R130, R132, R142). -/

namespace Sys2Proof.Machine

/-! ### The grant delivered -/

theorem takeFirst_eq_none {α : Type} {p : α → Bool} {l : List α} (h : ∀ x ∈ l, p x = false) :
    takeFirst p l = none := by
  induction l with
  | nil => rfl
  | cons a l ih =>
    obtain ⟨ha, hl⟩ := List.forall_mem_cons.1 h
    simp [takeFirst, ha, ih hl]

/-- With no grant handed GRANT does nothing. -/
theorem exec_grant_of_none {s : State} (h : ∀ x ∈ s.handed, Handed.isGrant x = false) :
    exec .grant s = .next (publish s) := by
  have hnone : deliverFirst Handed.isGrant s = s := by simp only [deliverFirst, takeFirst_eq_none h]
  exact congrArg (fun t => Host.Outcome.next (publish t)) hnone

/-- A state with the first thing handed taken off the list. -/
def State.withHanded (s : State) (r : List Handed) : State := { s with handed := r }

section
variable {e : Nat} {r : List Handed} {p : Purpose} {s t : State} {fs gs : List Field}

@[simp] theorem State.withHanded_ex (j : Nat) : (s.withHanded r).ex j = s.ex j := rfl
@[simp] theorem State.withHanded_ch (c : Nat) : (s.withHanded r).ch c = s.ch c := rfl

/-- A grant handed first is acted on by its exhibit. -/
theorem exec_grant (hhanded : s.handed = .grant e p :: r) (hgo : takeGrant e p (s.withHanded r) = t) :
    exec .grant s = .next (publish t) :=
  congrArg (fun t => Host.Outcome.next (publish t)) ((deliverFirst_head _ _ _ _ hhanded rfl).trans hgo)

/-- The frame of what a grant does, with the thing handed taken off the list and the views written. -/
theorem KeptBut.grant (h : KeptBut fs (s.withHanded r) t) (hsub : fs ⊆ gs)
    (hviews : ([.handed, .views, .notice] : List Field) ⊆ gs) : KeptBut gs s (publish t) :=
  ((with_handed_keptBut s r).mono fun f hf => hviews (by simp_all)).trans <|
    (h.mono hsub).trans ((publish_keptBut t).mono (List.Subset.trans (by decide) hviews))

end

/-! ### A grant to a run that waits for it -/

section
variable {e : Nat} {r : List Handed} {p : Purpose} {run : Run} {s : State}
  (hhanded : s.handed = .grant e p :: r) (hrunning : (s.ex e).state = .running)
  (hrun : (s.ex e).run = some run) (hphase : run.phase = .waitingGrant)

section
include hrunning hrun hphase

/-- A run that waits takes a WAYPOINT or RESUME grant. -/
theorem waitsGrant_withHanded : ((s.withHanded r).ex e).waitsGrant = true := by
  simp [Exhibit.waitsGrant, hrunning, hrun, hphase]

/-- A WAYPOINT grant, and a RESUME grant of a waypoint not yet started, grant the waypoint. -/
theorem takeGrant_waypoint (hp : p = .waypoint ∨ (p = .resume ∧ run.started = false)) :
    takeGrant e p (s.withHanded r) = goBegun e (waypointGranted e false (s.withHanded r)) := by
  have hwaits := waitsGrant_withHanded (r := r) hrunning hrun hphase
  rcases hp with rfl | ⟨rfl, hstarted⟩
  · exact if_pos hwaits
  · rw [← resumeGranted_of_not_started (s := s.withHanded r) hrun hstarted]
    exact if_pos hwaits

end

variable (hnodup : ((axesOf s e (runSlots s (s.ex e) run)).map (·.channel)).Nodup)
  (hclear : ∀ a ∈ axesOf s e (runSlots s (s.ex e) run),
    (s.ch a.channel).limit = false ∧ (s.ch a.channel).fault = false)
include hhanded hrunning hrun hphase hnodup hclear

/-- A grant starts the waypoint's axes together (R105). -/
theorem grant_starts (hp : p = .waypoint ∨ (p = .resume ∧ run.started = false)) (harrived : run.arrived = [])
    (haway : ∃ a ∈ axesOf s e (runSlots s (s.ex e) run), (s.ch a.channel).p ≠
      clampTarget a ((s.waypoint run.routine run.index).targets.getD a.slot 0) * 1000) :
    ∃ t, exec .grant s = .next (publish t) ∧ WaypointStarts e run (s.withHanded r) t := by
  obtain ⟨t, hgranted, hstarts⟩ := waypointGranted_starts (s := s.withHanded r) false hrun harrived hnodup hclear
    nofun haway
  exact ⟨t, exec_grant hhanded ((takeGrant_waypoint hrunning hrun hphase hp).trans (congrArg (goBegun e) hgranted)),
    hstarts⟩

/-- A RESUME grant of a started waypoint moves on the axes that the hold stopped (R29, R130). -/
theorem grant_resumes (hp : p = .resume) (hstarted : run.started = true) :
    ∃ t, exec .grant s = .next t ∧ t.handed = r ∧
      t.ex e = { s.ex e with run := some { run with phase := .moving } } ∧ OtherExhibits e s t ∧
      (∀ a ∈ axesOf s e (runSlots s (s.ex e) run), ∀ T, a.slot ∉ run.arrived →
        (s.ch a.channel).state = .stopped → (s.ch a.channel).kind = some .waypoint →
        (s.ch a.channel).target = some T → (s.ch a.channel).p ≠ T * 1000 →
        t.ch a.channel = { s.ch a.channel with
          state := .moving, phase := some .rampUp, v := 0,
          dir := if (s.ch a.channel).p < T * 1000 then .up else .down }) ∧
      (∀ c, (∀ a ∈ axesOf s e (runSlots s (s.ex e) run), a.channel = c →
          a.slot ∈ run.arrived ∨ (s.ch c).state = .confirming) → t.ch c = s.ch c) ∧
      KeptBut [.exhibits, .channels, .handed, .views, .notice] s t := by
  have hgo : takeGrant e p (s.withHanded r) = modRun e (fun r => { r with phase := .moving })
      (onAxes (axesOf s e (resumeSlots s e run)) resumeMove (s.withHanded r)) := by
    subst hp
    have hresumed := resumeGranted_moves (s := s.withHanded r) hrun hstarted hclear
    exact (if_pos (waitsGrant_withHanded hrunning hrun hphase)).trans (congrArg (goBegun e) hresumed)
  have hmoved := onAxes_keptBut (axesOf s e (resumeSlots s e run)) resumeMove (s.withHanded r)
  have hdiffer := nodup_channels_of_subset resumeSlots_subset hnodup
  refine ⟨_, exec_grant hhanded hgo, hmoved .handed (by decide),
    ?_, fun j hj => ?_, fun a ha T harrived hstopped hkind htarget _ => ?_, fun c hc => ?_, ?_⟩
  · rw [publish_ex, modRun_ex (by rwa [onAxes_ex, State.withHanded_ex]), onAxes_ex, State.withHanded_ex]
  · rw [publish_ex, modRun_otherExhibits _ _ _ j hj, onAxes_ex, State.withHanded_ex]
  · have hin : a ∈ axesOf s e (resumeSlots s e run) :=
      mem_resumeAxes_iff.2 ⟨ha, harrived, by rw [hstopped]; decide⟩
    rw [publish_ch, modRun, State.modEx_ch, onAxes_ch _ _ _ hdiffer hin, State.withHanded_ch,
      resumeMove_waypoint a T hkind htarget]
  · rw [publish_ch, modRun, State.modEx_ch, onAxes_ch_other _ _ _ fun hin => ?_, State.withHanded_ch]
    obtain ⟨a, ha, hchannel⟩ := List.mem_map.1 hin
    obtain ⟨hmem, harrived, hconfirming⟩ := mem_resumeAxes_iff.1 ha
    rcases hc a hmem hchannel with h | h
    · exact harrived h
    · exact hconfirming (hchannel ▸ h)
  · exact KeptBut.grant ((hmoved.mono (by decide)).trans ((modRun_keptBut _).mono (by decide)) :
      KeptBut [.exhibits, .channels] (s.withHanded r) _) (by decide) (by decide)

end

/-! ### Grants of homing and of a wake -/

section
variable {e : Nat} {r : List Handed} {p : Purpose} {s : State} (hhanded : s.handed = .grant e p :: r)
  (hperm : (axesOf s e (s.ex e).axisSlots).Perm (s.ex e).axes) (hnodup : ((s.ex e).axes.map (·.channel)).Nodup)
  (hclear : ∀ a ∈ (s.ex e).axes, (s.ch a.channel).limit = false ∧ (s.ch a.channel).fault = false)

section
include hperm hnodup hclear

/-- Homing begun in a state reached from the grant with the axes powered: what the exhibit and its axes come to. -/
theorem homing_begins {u : State} {fs : List Field} (b : Bool) (hkept : KeptBut fs s u)
    (hfs : fs ⊆ [.exhibits, .channels, .handed, .views, .notice])
    (hidle : ∀ a ∈ (s.ex e).axes, (s.ch a.channel).kind = none)
    (haway : ∃ a ∈ (s.ex e).axes, (s.ch a.channel).home = false)
    (haxes : (u.ex e).axes = (s.ex e).axes) (hset : (u.ex e).axesSet = [])
    (hch : ∀ a ∈ (s.ex e).axes, u.ch a.channel = poweredBy s e (s.ch a.channel)) (hothers : OtherExhibits e s u) :
    let t := publish (homeAxes e b (axesOf u e (u.ex e).axisSlots) u)
    (t.ex e).state = (u.ex e).state ∧ (t.ex e).wakePending = (u.ex e).wakePending ∧
      (t.ex e).queued = (u.ex e).queued ∧
      (∀ a ∈ (s.ex e).axes, StartedHoming a (poweredBy s e (s.ch a.channel)) (t.ch a.channel) ∧
        (a.slot ∈ (t.ex e).axesSet ↔ (s.ch a.channel).home = true)) ∧
      t.handed = u.handed ∧ OtherExhibits e s t ∧
      KeptBut [.exhibits, .channels, .handed, .views, .notice] s t := by
  have hperm' : (axesOf u e (u.ex e).axisSlots).Perm (u.ex e).axes := by
    rw [axesOf_congr haxes, Exhibit.axisSlots_congr haxes, haxes]
    exact hperm
  obtain ⟨hmoves, hstarted⟩ := homeAxes_fresh b hperm' (by rwa [haxes])
    (fun a ha => by rw [haxes] at ha; rw [hch a ha]; exact hclear a ha)
    (fun a ha => by rw [haxes] at ha; rw [hch a ha]; exact hidle a ha) hset
    (by
      obtain ⟨a, ha, hhome⟩ := haway
      exact ⟨a, by rwa [haxes], by rw [hch a ha]; exact hhome⟩)
  intro t
  have hex : t.ex e = _ := hmoves.exhibit
  refine ⟨by rw [hex], by rw [hex], by rw [hex], fun a ha => ?_, hmoves.frame .handed (by decide), fun j hj => ?_, ?_⟩
  · have hat := hstarted a (by rwa [haxes])
    rw [hch a ha] at hat
    exact hat
  · exact (hmoves.others j hj).trans (hothers j hj)
  · exact (hkept.mono hfs).trans <| (hmoves.frame.mono (by decide)).trans ((publish_keptBut _).mono (by decide))

end

include hhanded hperm hnodup hclear

/-- A HOMING grant energises the axes where needed and starts each toward its home (R30, R132). -/
theorem grant_homes (hp : p = .homing) (hhoming : (s.ex e).state = .homing)
    (hidle : ∀ a ∈ (s.ex e).axes, (s.ch a.channel).kind = none) (hset : (s.ex e).axesSet = [])
    (haway : ∃ a ∈ (s.ex e).axes, (s.ch a.channel).home = false) :
    ∃ t, exec .grant s = .next t ∧ t.handed = r ∧ (t.ex e).state = .homing ∧
      (∀ a ∈ (s.ex e).axes, StartedHoming a (poweredBy s e (s.ch a.channel)) (t.ch a.channel) ∧
        (a.slot ∈ (t.ex e).axesSet ↔ (s.ch a.channel).home = true)) ∧
      OtherExhibits e s t ∧ KeptBut [.exhibits, .channels, .handed, .views, .notice] s t := by
  have hgo : takeGrant e p (s.withHanded r) = homingGranted e (s.withHanded r) := by
    subst hp
    exact if_pos hhoming
  have hpowered : KeptBut [.channels] (s.withHanded r) (homingPowered e (s.withHanded r)) := homingPowered_keptBut
  obtain ⟨hstate, -, -, hstarted, hrest, hothers, hframe⟩ := homing_begins
    (u := homingPowered e (s.withHanded r)) hperm hnodup hclear (!s.energised e)
    (((with_handed_keptBut s r).mono (by decide)).trans
      (hpowered.mono (gs := [.channels, .handed]) (by decide))) (by decide)
    hidle haway (by rw [homingPowered_ex]; rfl) (by rw [homingPowered_ex]; exact hset)
    (fun a ha => homingPowered_ch (s := s.withHanded r) hnodup hidle ha) (fun j _ => homingPowered_ex j)
  refine ⟨_, exec_grant hhanded (hgo.trans homingGranted_eq),
    hrest.trans (hpowered .handed (by decide)), hstate.trans ?_, hstarted, hothers, hframe⟩
  rw [homingPowered_ex]
  exact hhoming

/-- In HOMING a RESUME grant moves on the axes not yet set (R29, R130). -/
theorem grant_resumes_homing (hp : p = .resume) (hhoming : (s.ex e).state = .homing)
    (hheld : ∀ a ∈ (s.ex e).axes, a.slot ∉ (s.ex e).axesSet → (s.ch a.channel).state = .stopped ∧
      (s.ch a.channel).kind = some .homing ∧ (s.ch a.channel).home = false)
    (hunset : ∃ a ∈ (s.ex e).axes, a.slot ∉ (s.ex e).axesSet) :
    ∃ t, exec .grant s = .next t ∧ t.handed = r ∧ t.ex e = s.ex e ∧ OtherExhibits e s t ∧
      (∀ a ∈ (s.ex e).axes, t.ch a.channel = if a.slot ∈ (s.ex e).axesSet then s.ch a.channel
        else { s.ch a.channel with state := .moving, phase := some .rampUp, v := 0, dir := homingDir a }) ∧
      KeptBut [.channels, .exhibits, .handed, .views, .notice] s t := by
  have hgo : takeGrant e p (s.withHanded r) = resumeHoming e (s.withHanded r) := by
    subst hp
    have hnot : ((s.withHanded r).ex e).waitsGrant = false := by simp [Exhibit.waitsGrant, hhoming]
    exact (if_neg (Bool.eq_false_iff.1 hnot)).trans (if_pos hhoming)
  obtain ⟨hex, hothers, hch, hframe⟩ := resumeHoming_moves (s := s.withHanded r) hperm hnodup hclear hheld hunset
  exact ⟨_, exec_grant hhanded hgo, hframe .handed (by decide), hex,
    hothers, hch, KeptBut.grant hframe (gs := [.channels, .exhibits, .handed, .views, .notice]) (by decide) (by decide)⟩

section
variable (hp : p = .wake) (hresting : (s.ex e).state = .resting) (hpending : (s.ex e).wakePending = true)
include hp hresting hpending

omit hhanded hperm hnodup hclear in
theorem takeGrant_wake : takeGrant e p (s.withHanded r) = wakeGranted e (s.withHanded r) := by
  subst hp
  exact if_pos ⟨hresting, hpending⟩

/-- A WAKE grant with rehoming brings the exhibit to HOMING (R35). -/
theorem grant_wakes_homing (hoff : s.energised e = false)
    (hidle : ∀ a ∈ (s.ex e).axes, (s.ch a.channel).kind = none) (haxes : (s.ex e).axes ≠ [])
    (hrehome : (s.ex e).rest.rehome = true) (haway : ∃ a ∈ (s.ex e).axes, (s.ch a.channel).home = false) :
    ∃ t, exec .grant s = .next t ∧ t.handed = r ∧ (t.ex e).state = .homing ∧ (t.ex e).wakePending = false ∧
      (t.ex e).queued = (s.ex e).queued ∧
      (∀ a ∈ (s.ex e).axes, StartedHoming a (poweredBy s e (s.ch a.channel)) (t.ch a.channel) ∧
        (a.slot ∈ (t.ex e).axesSet ↔ (s.ch a.channel).home = true)) ∧
      OtherExhibits e s t ∧ KeptBut [.exhibits, .channels, .handed, .views, .notice] s t := by
  have hchw : ∀ a ∈ (s.ex e).axes, (wakePowered e (s.withHanded r)).ch a.channel =
      poweredBy s e (s.ch a.channel) := fun a ha => by
    rw [wakePowered_ch (s := s.withHanded r) hnodup ha, poweredBy, hoff, Bool.not_false, Bool.or_true]
    rfl
  have hgo : takeGrant e p (s.withHanded r) = homeAxes e true
      (axesOf (wakeHoming e (s.withHanded r)) e ((wakeHoming e (s.withHanded r)).ex e).axisSlots)
      (wakeHoming e (s.withHanded r)) :=
    (takeGrant_wake hp hresting hpending).trans (if_pos (by simp [hrehome, haxes]))
  have hexu := wakeHoming_ex (e := e) (s := s.withHanded r)
  have hkept := wakeHoming_keptBut (e := e) (s := s.withHanded r)
  obtain ⟨hstate, hwake, hqueued, hstarted, hrest, hothers, hframe⟩ := homing_begins hperm hnodup hclear true
    (((with_handed_keptBut s r).mono (by decide)).trans
      (hkept.mono (gs := [.exhibits, .channels, .handed, .views, .notice]) (by decide))) (by decide)
    hidle haway (by rw [hexu]; rfl) (by rw [hexu])
    (fun a ha => (wakeHoming_ch _).trans (hchw a ha)) (wakeHoming_otherExhibits (s := s.withHanded r))
  exact ⟨_, exec_grant hhanded hgo, hrest.trans (hkept .handed (by decide)), hstate.trans (by rw [hexu]),
    hwake.trans (by rw [hexu]), hqueued.trans (by rw [hexu]; rfl), hstarted, hothers, hframe⟩

omit hperm in
/-- A WAKE grant with no movement to make brings the exhibit to READY (R35). -/
theorem grant_wakes_ready (hmove : (s.ex e).rest.rehome = false ∨ (s.ex e).axes = [])
    (hnone : (s.ex e).queued = none) :
    ∃ t, exec .grant s = .next t ∧ t.handed = r ∧ (t.ex e).state = .ready ∧ (t.ex e).wakePending = false ∧
      (∀ a ∈ (s.ex e).axes, t.ch a.channel = { s.ch a.channel with energised := true }) ∧
      OtherExhibits e s t ∧ KeptBut [.exhibits, .channels, .handed, .views, .notice] s t := by
  have hkept := wakeReady_keptBut (e := e) (s := s.withHanded r)
  have hothers : OtherExhibits e s (wakeReady e (s.withHanded r)) := wakeReady_otherExhibits (s := s.withHanded r)
  obtain ⟨n, hex⟩ := wakeReady_ex (e := e) (s := s.withHanded r)
  have hch : ∀ a ∈ (s.ex e).axes, (wakeReady e (s.withHanded r)).ch a.channel =
      { s.ch a.channel with energised := true } := fun a ha => wakeReady_ch (s := s.withHanded r) hnodup ha
  have hsound : energiseFault e (wakeReady e (s.withHanded r)) = wakeReady e (s.withHanded r) := by
    rw [energiseFault, energiseReport_eq_none fun a ha => ?_]
    rw [hex] at ha
    rw [hch a ha]
    exact (hclear a ha).2
  have hgo : takeGrant e p (s.withHanded r) = energiseFault e (wakeReady e (s.withHanded r)) := by
    have hstill : ((s.ex e).rest.rehome && !(s.ex e).axes.isEmpty) = false := by
      rcases hmove with h | h <;> simp [h]
    rw [takeGrant_wake hp hresting hpending, wakeGranted]
    simp only [State.withHanded_ex, hstill, hnone]
    rfl
  generalize wakeReady e (s.withHanded r) = u at hkept hothers hex hch hsound hgo
  exact ⟨_, exec_grant hhanded (hgo.trans hsound), hkept .handed (by decide), congrArg Exhibit.state hex,
    congrArg Exhibit.wakePending hex, hch, hothers, KeptBut.grant hkept (by decide) (by decide)⟩

/-- A WAKE grant begins the queued start, whose first waypoint it grants (R35, R75, R105). -/
theorem grant_wakes_running {q : Queued} (hrehome : (s.ex e).rest.rehome = false)
    (hqueued : (s.ex e).queued = some q)
    (hoff : s.energised e = false)
    (haway : ∃ a ∈ axesOf s e (runSlots s (s.ex e) (newRun s q.routine q.origin q.atEnd)),
      (s.ch a.channel).p ≠ clampTarget a ((s.waypoint q.routine 0).targets.getD a.slot 0) * 1000) :
    ∃ t run', exec .grant s = .next t ∧ t.handed = r ∧ (t.ex e).state = .running ∧
      (t.ex e).wakePending = false ∧ (t.ex e).queued = none ∧ (t.ex e).run = some run' ∧
      run'.routine = q.routine ∧ run'.index = 0 ∧ run'.phase = .moving ∧
      (∀ a ∈ axesOf s e (runSlots s (s.ex e) (newRun s q.routine q.origin q.atEnd)),
        StartedToward a (clampTarget a ((s.waypoint q.routine 0).targets.getD a.slot 0))
          (s.waypoint q.routine 0).percent (s.waypoint q.routine 0).exp (poweredBy s e (s.ch a.channel))
          (t.ch a.channel)) ∧
      ((s.waypoint q.routine 0).cue ≠ 0 →
        t.cue (s.waypoint q.routine 0).cue = some (after s.tick 100)) ∧ OtherExhibits e s t ∧
      KeptBut [.exhibits, .channels, .slots, .handed, .cues, .views, .notice] s t := by
  have hgo : takeGrant e p (s.withHanded r) =
      goBegun e (waypointGranted e true (wakeRun e q (s.withHanded r))) := by
    rw [takeGrant_wake hp hresting hpending, wakeGranted]
    simp only [State.withHanded_ex, hrehome, hqueued]
    rfl
  have hkept := wakeRun_keptBut (e := e) (s := s.withHanded r) q
  have hwaypoint := wakeRun_waypoint (e := e) (s := s.withHanded r) q q.routine 0
  have haxes : axesOf (wakeRun e q (s.withHanded r)) e (runSlots (wakeRun e q (s.withHanded r))
      ((wakeRun e q (s.withHanded r)).ex e) (newRun s q.routine q.origin q.atEnd)) =
        axesOf s e (runSlots s (s.ex e) (newRun s q.routine q.origin q.atEnd)) := wakeRun_axesOf q _
  have hch : ∀ a ∈ (s.ex e).axes, (wakeRun e q (s.withHanded r)).ch a.channel =
      { s.ch a.channel with energised := true } := fun a ha => wakeRun_ch (s := s.withHanded r) q hnodup ha
  have hothers : OtherExhibits e s (wakeRun e q (s.withHanded r)) := wakeRun_otherExhibits (s := s.withHanded r) q
  obtain ⟨n, hex⟩ := wakeRun_ex (e := e) (s := s.withHanded r) q
  generalize wakeRun e q (s.withHanded r) = u at hgo hkept hwaypoint haxes hch hothers hex
  obtain ⟨t, hgranted, hstarts⟩ := waypointGranted_starts (s := u) (r := newRun s q.routine q.origin q.atEnd) true
    (by rw [hex]; rfl) rfl
    (by rw [haxes]; exact nodup_channels_of_subset runSlots_subset ((hperm.map _).nodup_iff.2 hnodup))
    (fun a ha => by
      rw [haxes] at ha
      rw [hch a (mem_axes_of_mem_axesOf ha)]
      exact hclear a (mem_axes_of_mem_axesOf ha))
    (fun _ a ha => by rw [hex] at ha; rw [hch a ha]; exact (hclear a ha).2)
    (by
      obtain ⟨a, ha, hway⟩ := haway
      refine ⟨a, by rwa [haxes], ?_⟩
      rw [hch a (mem_axes_of_mem_axesOf ha)]
      exact hwaypoint ▸ hway)
  obtain ⟨d, hext⟩ := hstarts.exhibit
  have hpoint : u.waypoint (newRun s q.routine q.origin q.atEnd).routine (newRun s q.routine q.origin q.atEnd).index =
      s.waypoint q.routine 0 := hwaypoint
  have hstarted := hstarts.started
  have hcue := hstarts.cue
  rw [haxes, hpoint] at hstarted
  rw [hpoint, show u.tick = s.tick from hkept .tick (by decide)] at hcue
  rw [hex] at hext
  refine ⟨publish t, _, exec_grant hhanded (hgo.trans (congrArg (goBegun e) hgranted)),
    (hstarts.frame .handed (by decide)).trans (hkept .handed (by decide)), congrArg Exhibit.state hext,
    congrArg Exhibit.wakePending hext, congrArg Exhibit.queued hext, congrArg Exhibit.run hext, rfl, rfl, rfl,
    fun a ha => ?_, hcue, hothers.trans hstarts.others,
    KeptBut.grant ((hkept.mono (by decide)).trans hstarts.frame) (by decide) (by decide)⟩
  have hpowered : poweredBy s e (s.ch a.channel) = u.ch a.channel := by
    rw [hch a (mem_axes_of_mem_axesOf ha), poweredBy, hoff, Bool.not_false, Bool.or_true]
  rw [publish_ch, hstarted a ha, hpowered]
  exact startedToward_startWaypoint a _ _ _ _

end

end

/-- Settles O49: the purpose, the exhibit's state and, for a resumption, whether its waypoint had started choose what
the grant sets going; the start checks pass and some axis has a way to go, so nothing ends at the grant. -/
theorem grantStartsTheWaypoint : Obligations.GrantStartsTheWaypoint := by
  refine ⟨?_, ?_, fun s => exec_grant_of_none⟩
  · intro e r p run s w axes aim hhanded hrunning hrun hphase hnodup
    refine ⟨fun hp harrived hclear haway => ?_, fun hp hstarted hclear => ?_⟩
    · obtain ⟨t, hexec, hstarts⟩ := grant_starts hhanded hrunning hrun hphase hnodup hclear hp harrived haway
      obtain ⟨d, hex⟩ := hstarts.exhibit
      refine ⟨publish t, _, hexec, hstarts.frame .handed (by decide), (congrArg Exhibit.state hex).trans hrunning,
        congrArg Exhibit.run hex, rfl, rfl, rfl, rfl, (congrArg Exhibit.units hex).trans rfl, fun a ha => ⟨?_, ?_⟩,
        hstarts.still, hstarts.cue, hstarts.others, KeptBut.grant hstarts.frame (by decide) (by decide)⟩
      · rw [publish_ch, hstarts.started a ha]
        exact startedToward_startWaypoint a _ _ _ _
      · exact WaypointStarts.mem_arrived (s := s.withHanded r) ha
    · exact grant_resumes hhanded hrunning hrun hphase hnodup hclear hp hstarted
  · intro e r p s x axes powered hhanded hperm hnodup hclear
    exact ⟨grant_homes hhanded hperm hnodup hclear, grant_resumes_homing hhanded hperm hnodup hclear,
      fun hp hresting hpending hoff hidle =>
        ⟨grant_wakes_homing hhanded hperm hnodup hclear hp hresting hpending hoff hidle,
          grant_wakes_ready hhanded hnodup hclear hp hresting hpending,
          fun _ hrehome hqueued haway =>
            grant_wakes_running hhanded hperm hnodup hclear hp hresting hpending hrehome hqueued hoff haway⟩⟩

end Sys2Proof.Machine
end

section
/-! PROOFS. One tick of an axis channel: the profile step, the arrival and the deadline counter (R117, R120, R121, R123
to R126). -/

namespace Sys2Proof.Machine

/-! ### A change of one channel -/

/-- A command acts on the state once everything handed over has been acted on, and writes the views. -/
theorem act_eq {f : State → State} {s t : State} (h : f (settle s) = t) : act f s = .next (publish t) := by
  rw [act, h]

/-- A command that changes one channel alone. -/
theorem exec_modCh {i : Instr} {s u : State} {c : Nat} {f : Channel → Channel}
    (hexec : exec i s = .next (publish (u.modCh c f))) :
    ∃ t, exec i s = .next t ∧ t.ch c = f (u.ch c) ∧ OtherChannels c u t ∧
      KeptBut [.channels, .views, .notice] u t :=
  ⟨_, hexec, State.modCh_ch_same .., fun _ hj => State.modCh_ch_other _ _ _ _ hj,
    ((State.modCh_keptBut u c f).mono (by decide)).trans ((publish_keptBut _).mono (by decide))⟩

/-- Braking has not ended where the exhibit does not brake or an axis of it still moves (R129). -/
theorem brakingCheck_of_not {e : Nat} {s : State} (h : (s.ex e).state ≠ .braking ∨ s.anyMoving e = true) :
    brakingCheck e s = s :=
  if_neg fun ⟨hbraking, hstill⟩ => h.elim (· hbraking) (by simp [hstill])

/-! ### The profile step and the counter (R120, R123, R125) -/

section
variable (a : AxisRec) (x : Channel)

/-- The position that a channel reaches when it goes on at velocity `v` in its direction. -/
theorem ahead_eq (v : Nat) : ahead x v = if x.dir = .up then x.p + v else x.p - v := by
  cases hdir : x.dir <;> simp [ahead, hdir]

theorem rampsDown_iff (t : Int) : rampsDown a x t = true ↔
    x.phase = some .rampDown ∨ (t * 1000 - x.p).natAbs ≤ x.v * x.v / (2 * a.delta) := by
  rw [rampsDown, Bool.or_eq_true, beq_iff_eq, decide_eq_true_iff]
  rfl

/-- A channel that goes on for a tick, with the velocity and the phase that it takes (R123). -/
def Channel.goesOn (x : Channel) (v : Nat) (ph : Option Phase) : Channel :=
  { movePosition x (ahead x v) with v := v, phase := ph }

theorem Channel.goesOn_eq (v : Nat) (ph : Option Phase) : x.goesOn v ph = { x with
    p := if x.dir = .up then x.p + v else x.p - v, v := v, phase := ph,
    pulses := x.pulses + ((if x.dir = .up then x.p + v else x.p - v) / 1000 - x.p / 1000).natAbs } := by
  rw [goesOn, movePosition, ahead_eq]

/-- Short of its target a WAYPOINT move goes on by its profile (R120). -/
theorem waypointTick_goesOn {t : Int} (h : nextVelocity a x t < remaining x t) :
    waypointTick a t x = x.goesOn (nextVelocity a x t) (some (nextPhase a x t)) :=
  if_neg (Nat.not_le.2 h)

/-- A WAYPOINT move that would reach its target arrives (R121). -/
theorem waypointTick_arrives {t : Int} (h : remaining x t ≤ nextVelocity a x t) :
    waypointTick a t x = arriveAt a t x := if_pos h

/-- An arrival to be confirmed waits for DRV_READY at the target (R124). -/
theorem arriveAt_confirms {t : Int} (hconfirm : a.confirm = true) (hready : x.ready = false) :
    arriveAt a t x = { movePosition x (t * 1000) with state := .confirming, v := 0, phase := none } :=
  if_pos (by simp [hconfirm, hready])

/-- An arrival without confirmation ends the move at the target (R121, R124). -/
theorem arriveAt_ends {t : Int} (h : a.confirm = false ∨ x.ready = true) :
    arriveAt a t x = endMove (movePosition x (t * 1000)) :=
  if_neg (by rcases h with h | h <;> simp [h])

variable {x}

/-- The counter counts while the channel is MOVING or CONFIRMING (R125). -/
theorem countTick_counts (h : x.state = .moving ∨ x.state = .confirming) :
    countTick x = { x with counter := x.counter + 1 } :=
  if_pos (by rcases h with h | h <;> simp [counts, h])

/-- The counter stands where the channel neither moves toward its target nor confirms (R125). -/
theorem countTick_stands (h : counts x = false) : countTick x = x := if_neg (by simp [h])

theorem overran_of_stands (h : counts x = false) : overran x = false := by simp [overran, h]

theorem overran_of_counter (h : x.counter ≠ 2 ^ x.exp - 1) : overran x = false := by
  simp [overran, Channel.limitTicks, h]

end

/-! ### One tick of an owned channel (R117) -/

section
variable {f : AxisRec → Channel → Channel} {c e : Nat} {a : AxisRec} {s : State} {y : Channel}
  (howner : (s.ch c).owner = some e) (haxis : (s.ch c).axis = some a) (hchannel : a.channel = c)
  (hy : countTick (f a (s.ch c)) = y) (hover : overran y = false)
include howner haxis hchannel hy hover

/-- A tick without an overrun: a completed arrival counts, and braking may have ended (R117). -/
theorem tickChannel_eq : tickChannel f c s =
    brakingCheck e (if y.state = .idle then axisArrived e a.slot (s.modCh c fun _ => y)
      else s.modCh c fun _ => y) := by
  have hmod : s.modCh c (fun x => countTick (f a x)) = s.modCh c fun _ => y := by
    rw [State.modCh, State.modCh, hy]
  subst hchannel
  simp only [tickChannel, howner, haxis, hmod, afterTick, State.modCh_ch_same, hover]
  rfl

/-- A tick that neither overruns, nor completes an arrival, nor ends braking changes the channel alone. -/
theorem tickChannel_quiet (hidle : y.state ≠ .idle)
    (hbraking : (s.ex e).state ≠ .braking ∨ (s.modCh c fun _ => y).anyMoving e = true) :
    tickChannel f c s = s.modCh c fun _ => y := by
  rw [tickChannel_eq howner haxis hchannel hy hover, if_neg hidle, brakingCheck_of_not hbraking]

end

end Sys2Proof.Machine
end

section
/-! PROOFS. The arrival of an axis of a run, and MOTION_TICK and HOMING_TICK (R107, R117, R120, R121, R124, R125, R133,
R143). -/

namespace Sys2Proof.Machine

/-! ### Units returned (R143) -/

section
variable {e : Nat} {s : State} (haxes : (s.ex e).axes ≠ []) (hreq : s.request e = none)
include haxes hreq

/-- An exhibit with axes and no request of its own is booked nothing when it returns units. -/
theorem returnUnits_units (n : Nat) : ((returnUnits e n s).ex e).units = (s.ex e).units - n := by
  unfold returnUnits
  split
  · next hn => rw [hn, Nat.sub_zero]
  · have hnone : NoneWaits s (s.ex e).group e := (request_eq_none_iff haxes).1 hreq
    refine (evaluate_of_noneWaits _ _ fun q hq => hnone q (by simpa using hq)).2.trans ?_
    simp

/-- It then holds no more than its hold units. -/
theorem returnRun_units : ((returnRun e s).ex e).units ≤ (s.ex e).holdUnits := by
  rw [returnRun, returnUnits_units haxes hreq]
  omega

end

/-! ### An axis of the run arrived (R107) -/

/-- A run with one more of its axis slots arrived. -/
def Run.arrive (k : Nat) (r : Run) : Run :=
  { r with arrived := r.arrived ++ (if r.arrived.contains k then [] else [k]) }

/-- An exhibit whose run has had an axis arrive, its view written and the run not yet gone on. -/
def arrivalMarked (e k : Nat) (s : State) : State := publishExhibit e (modRun e (Run.arrive k) s)

/-- A run that dwells until a tick. -/
def Run.dwellUntil (d : Tick) (r : Run) : Run := { r with phase := .dwelling, dwell := some d }

/-- An exhibit whose run units are returned and whose run dwells for `n` ms from now. -/
def dwellBegun (e n : Nat) (s : State) : State := modRun e (Run.dwellUntil (after s.tick n)) (returnRun e s)

theorem Run.mem_arrive {k j : Nat} {r : Run} : j ∈ (r.arrive k).arrived ↔ j = k ∨ j ∈ r.arrived := by
  unfold Run.arrive
  by_cases hk : k ∈ r.arrived
  · simp only [List.contains_iff_mem, hk, if_true, List.append_nil]
    exact ⟨.inr, fun h => h.elim (· ▸ hk) id⟩
  · simp [hk, or_comm]

section
variable {e k : Nat} {s : State}

theorem arrivalMarked_ex :
    (arrivalMarked e k s).ex e = { s.ex e with run := (s.ex e).run.map (Run.arrive k) } := by
  simp [arrivalMarked, modRun]

theorem dwellBegun_run {r : Run} (n : Nat) (hrun : (s.ex e).run = some r) :
    ((dwellBegun e n s).ex e).run = some (r.dwellUntil (after s.tick n)) := by
  have hsame : ((returnRun e s).ex e).run = some r := by
    simpa [hrun] using congrArg Exhibit.run (inner_own (returnRun_inner e s) e)
  rw [dwellBegun, modRun_ex hsame]

theorem dwellBegun_state (n : Nat) : ((dwellBegun e n s).ex e).state = (s.ex e).state := by
  rw [dwellBegun, modRun, State.modEx_ex_same]
  simpa using congrArg Exhibit.state (inner_own (returnRun_inner e s) e)

theorem dwellBegun_ch (n c : Nat) : (dwellBegun e n s).ch c = s.ch c := inner_ch (returnRun_inner e s) c

theorem dwellBegun_units (n : Nat) (haxes : (s.ex e).axes ≠ []) (hreq : s.request e = none) :
    ((dwellBegun e n s).ex e).units ≤ (s.ex e).holdUnits := by
  rw [dwellBegun, modRun, State.modEx_ex_same]
  exact returnRun_units haxes hreq

/-- Without a run the arrival of an axis has nothing to count. -/
theorem axisArrived_of_none (hrun : (s.ex e).run = none) : axisArrived e k s = arrivalMarked e k s := by
  have hmarked : ((arrivalMarked e k s).ex e).run = none := by simp [arrivalMarked_ex, hrun]
  unfold axisArrived
  extract_lets s1
  rw [show s1 = arrivalMarked e k s from rfl, hmarked]
  split
  · contradiction
  · rfl

/-- An arrival at a waypoint with a dwell: the dwell begins with the last axis of a RUNNING exhibit's run. -/
theorem axisArrived_of_run {r : Run} (hrun : (s.ex e).run = some r)
    (hdwell : (s.waypoint r.routine r.index).dwell ≠ 0) :
    axisArrived e k s =
      if (s.ex e).state = .running ∧ r.phase = .moving ∧ allArrived (arrivalMarked e k s) e = true
      then dwellBegun e (s.waypoint r.routine r.index).dwell (arrivalMarked e k s) else arrivalMarked e k s := by
  have hmarked : ((arrivalMarked e k s).ex e).run = some (r.arrive k) := by simp [arrivalMarked_ex, hrun]
  have hstate : ((arrivalMarked e k s).ex e).state = (s.ex e).state := by rw [arrivalMarked_ex]
  have hbegun : goBegun e (arrivedAll e (arrivalMarked e k s)) =
      dwellBegun e (s.waypoint r.routine r.index).dwell (arrivalMarked e k s) := by
    have hwaypoint : (arrivalMarked e k s).waypoint (r.arrive k).routine (r.arrive k).index =
        s.waypoint r.routine r.index := rfl
    simp only [arrivedAll, hmarked, hwaypoint, if_neg hdwell, goBegun]
    rfl
  unfold axisArrived
  extract_lets s1
  rw [show s1 = arrivalMarked e k s from rfl, hmarked, hstate, hbegun]
  cases (s.ex e).state <;> simp [Run.arrive]

/-- What an arrival at a waypoint with a dwell leaves alone, and the arrival that it counts. -/
theorem axisArrived_counts
    (hdwell : ∀ q, (s.ex e).run = some q → (s.waypoint q.routine q.index).dwell ≠ 0) :
    (∀ c, (axisArrived e k s).ch c = s.ch c) ∧ ((axisArrived e k s).ex e).state = (s.ex e).state ∧
      ∀ q, (s.ex e).run = some q → ∃ q', ((axisArrived e k s).ex e).run = some q' ∧ k ∈ q'.arrived := by
  have hstate : ((arrivalMarked e k s).ex e).state = (s.ex e).state := by rw [arrivalMarked_ex]
  cases hrun : (s.ex e).run with
  | none =>
    rw [axisArrived_of_none hrun]
    exact ⟨fun _ => rfl, hstate, fun _ h => absurd h (by simp)⟩
  | some r =>
    have hmarked : ((arrivalMarked e k s).ex e).run = some (r.arrive k) := by simp [arrivalMarked_ex, hrun]
    rw [axisArrived_of_run hrun (hdwell r hrun)]
    split
    · exact ⟨dwellBegun_ch _, (dwellBegun_state _).trans hstate,
        fun q _ => ⟨_, dwellBegun_run _ hmarked, Run.mem_arrive.2 (.inl rfl)⟩⟩
    · exact ⟨fun _ => rfl, hstate, fun q _ => ⟨_, hmarked, Run.mem_arrive.2 (.inl rfl)⟩⟩

/-- The arrival of the last axis of the waypoint returns the run units and begins the dwell (R107). -/
theorem axisArrived_dwells {q : Run} (hrun : (s.ex e).run = some q) (hrunning : (s.ex e).state = .running)
    (hphase : q.phase = .moving) (hdwell : (s.waypoint q.routine q.index).dwell ≠ 0)
    (hreq : s.request e = none) (haxes : (s.ex e).axes ≠ [])
    (hlast : ∀ j ∈ runSlots s (s.ex e) q, j ≠ k → j ∈ q.arrived) :
    ((axisArrived e k s).ex e).units ≤ (s.ex e).holdUnits ∧
      ∃ q', ((axisArrived e k s).ex e).run = some q' ∧ q'.phase = .dwelling ∧
        q'.dwell = some (after s.tick (s.waypoint q.routine q.index).dwell) := by
  have hmarked := arrivalMarked_ex (e := e) (k := k) (s := s)
  have hrun' : ((arrivalMarked e k s).ex e).run = some (q.arrive k) := by simp [hmarked, hrun]
  have hslots : runSlots (arrivalMarked e k s) ((arrivalMarked e k s).ex e) (q.arrive k) =
      runSlots s (s.ex e) q := runSlots_congr (by rw [hmarked]) rfl
  have hall : allArrived (arrivalMarked e k s) e = true := by
    simp only [allArrived, hrun', hslots, List.all_eq_true, List.contains_iff_mem, Run.mem_arrive]
    exact fun j hj => or_iff_not_imp_left.2 (hlast j hj)
  have hreq' : (arrivalMarked e k s).request e = none := by
    have hgroup : ∀ g, (arrivalMarked e k s).group g = s.group g := fun _ => rfl
    unfold State.request at hreq ⊢
    rw [hmarked, hgroup]
    exact hreq
  rw [axisArrived_of_run hrun hdwell, if_pos ⟨hrunning, hphase, hall⟩]
  have hunits := dwellBegun_units (s.waypoint q.routine q.index).dwell
    (by rw [hmarked]; exact haxes : ((arrivalMarked e k s).ex e).axes ≠ []) hreq'
  refine ⟨hunits.trans_eq ?_, _, dwellBegun_run _ hrun', rfl, rfl⟩
  rw [hmarked]
  rfl

end

/-! ### MOTION_TICK and HOMING_TICK -/

/-- The velocity of a tick, by whether the channel ramps down (R120). -/
theorem nextVelocity_eq (a : AxisRec) (x : Channel) (t : Int) : nextVelocity a x t =
    if x.phase = some .rampDown ∨ (t * 1000 - x.p).natAbs ≤ x.v * x.v / (2 * a.delta)
    then max (x.v - a.delta) a.vmin else min (max (x.v + a.delta) a.vmin) x.vc :=
  if_congr (rampsDown_iff a x t) rfl rfl

/-- The phase of a tick, by whether the channel ramps down (R120). -/
theorem nextPhase_eq (a : AxisRec) (x : Channel) (t : Int) : nextPhase a x t =
    if x.phase = some .rampDown ∨ (t * 1000 - x.p).natAbs ≤ x.v * x.v / (2 * a.delta)
    then .rampDown else if nextVelocity a x t = x.vc then .cruise else .rampUp :=
  if_congr (rampsDown_iff a x t) rfl rfl

theorem motionTickOf_of_other {c : Nat} {s : State} (hmoving : (s.ch c).state ≠ .moving)
    (hconfirming : (s.ch c).state ≠ .confirming) : motionTickOf c s = s := by
  unfold motionTickOf
  extract_lets x
  split
  · next h _ _ => exact absurd h hmoving
  · next h => exact absurd h hconfirming
  · rfl

section
variable {c e : Nat} {a : AxisRec} {s : State} (howner : (s.ch c).owner = some e) (haxis : (s.ch c).axis = some a)
  (hchannel : a.channel = c) (hmoving : (s.ch c).state = .moving)

section
variable {g : Int} (hkind : (s.ch c).kind = some .waypoint) (htarget : (s.ch c).target = some g)
include hmoving hkind htarget

theorem motionTickOf_moving : motionTickOf c s = tickChannel (fun a => waypointTick a g) c s := by
  simp only [motionTickOf, hmoving, hkind, htarget]

variable (hbraking : (s.ex e).state ≠ .braking)
include howner haxis hchannel hbraking

/-- Short of its target the channel goes on by its profile, and its counter counts (R120, R125). -/
theorem motionTick_goesOn (hshort : nextVelocity a (s.ch c) g < remaining (s.ch c) g)
    (hcounter : (s.ch c).counter + 1 ≠ 2 ^ (s.ch c).exp - 1) :
    motionTickOf c s = s.modCh c fun _ =>
      { (s.ch c).goesOn (nextVelocity a (s.ch c) g) (some (nextPhase a (s.ch c) g)) with
        counter := (s.ch c).counter + 1 } := by
  rw [motionTickOf_moving hmoving hkind htarget]
  refine tickChannel_quiet howner haxis hchannel ?_ (overran_of_counter hcounter) ?_ (.inl hbraking)
  · rw [waypointTick_goesOn a _ hshort]
    exact countTick_counts (.inl hmoving)
  · exact fun h => by simp [Channel.goesOn, movePosition, hmoving] at h

/-- At its target with DRV_READY to wait for, the channel is CONFIRMING and its counter counts (R124, R125). -/
theorem motionTick_confirms (harrives : remaining (s.ch c) g ≤ nextVelocity a (s.ch c) g)
    (hconfirm : a.confirm = true) (hready : (s.ch c).ready = false)
    (hcounter : (s.ch c).counter + 1 ≠ 2 ^ (s.ch c).exp - 1) :
    motionTickOf c s = s.modCh c fun _ =>
      { movePosition (s.ch c) (g * 1000) with
        state := .confirming, v := 0, phase := none, counter := (s.ch c).counter + 1 } := by
  rw [motionTickOf_moving hmoving hkind htarget]
  refine tickChannel_quiet howner haxis hchannel ?_ (overran_of_counter hcounter) (by simp) (.inl hbraking)
  rw [waypointTick_arrives a _ harrives, arriveAt_confirms a _ hconfirm hready]
  exact countTick_counts (.inr rfl)

/-- At its target otherwise the channel is IDLE, and the arrival counts in its exhibit's run (R121, R107). -/
theorem motionTick_arrives (harrives : remaining (s.ch c) g ≤ nextVelocity a (s.ch c) g)
    (hnow : a.confirm = false ∨ (s.ch c).ready = true)
    (hdwell : ∀ q, (s.ex e).run = some q → (s.waypoint q.routine q.index).dwell ≠ 0) :
    motionTickOf c s =
      axisArrived e a.slot (s.modCh c fun _ => endMove (movePosition (s.ch c) (g * 1000))) := by
  have hend : countTick (waypointTick a g (s.ch c)) = endMove (movePosition (s.ch c) (g * 1000)) := by
    rw [waypointTick_arrives a _ harrives, arriveAt_ends a _ hnow]
    exact countTick_stands rfl
  have hidle : (endMove (movePosition (s.ch c) (g * 1000))).state = .idle := rfl
  obtain ⟨-, hstate, -⟩ := axisArrived_counts (k := a.slot)
    (s := s.modCh c fun _ => endMove (movePosition (s.ch c) (g * 1000))) hdwell
  rw [motionTickOf_moving hmoving hkind htarget,
    tickChannel_eq howner haxis hchannel hend (overran_of_stands rfl), if_pos hidle,
    brakingCheck_of_not (.inl (hstate ▸ hbraking))]

end

include howner haxis hchannel hmoving in
/-- A HOMING move goes on toward its homing speed with no target to meet, and its counter counts (R133, R125). -/
theorem homingTick_goesOn (hkind : (s.ch c).kind = some .homing) (hbraking : (s.ex e).state ≠ .braking)
    (hcounter : (s.ch c).counter + 1 ≠ 2 ^ (s.ch c).exp - 1) {v : Nat}
    (hv : min (max ((s.ch c).v + a.delta) a.vmin) (s.ch c).vc = v) :
    homingTickOf c s = s.modCh c fun _ =>
      { (s.ch c).goesOn v (some (if v = (s.ch c).vc then .cruise else .rampUp)) with
        counter := (s.ch c).counter + 1 } := by
  subst hv
  rw [homingTickOf, if_pos ⟨hmoving, hkind⟩]
  refine tickChannel_quiet howner haxis hchannel ?_ (overran_of_counter hcounter) ?_ (.inl hbraking)
  · exact countTick_counts (.inl hmoving)
  · exact fun h => by simp [Channel.goesOn, movePosition, hmoving] at h

end

/-- Settles O50: the velocity of the tick decides whether the channel goes on or arrives, and DRV_READY whether the
arrival is confirmed first. -/
theorem motionTickAdvances : Obligations.MotionTickAdvances := by
  intro c s u x
  refine ⟨fun e a g howner haxis hchannel hmoving hkind htarget hbraking => ⟨?_, ?_, ?_⟩, ?_⟩
  · intro hshort hcounter
    have htick := motionTick_goesOn howner haxis hchannel hmoving hkind htarget hbraking
      ((nextVelocity_eq a x g).trans_lt hshort) hcounter
    obtain ⟨t, hexec, hch, hframe⟩ := exec_modCh (i := .motionTick c) (act_eq htick)
    exact ⟨t, hexec, hch.trans (by rw [Channel.goesOn_eq, nextPhase_eq, nextVelocity_eq]), hframe⟩
  · intro harrives hconfirm hready hcounter
    have htick := motionTick_confirms howner haxis hchannel hmoving hkind htarget hbraking
      (harrives.trans_eq (nextVelocity_eq a x g).symm) hconfirm hready hcounter
    obtain ⟨t, hexec, hch, hframe⟩ := exec_modCh (i := .motionTick c) (act_eq htick)
    exact ⟨t, hexec, congrArg Channel.state hch, congrArg Channel.p hch, congrArg Channel.v hch,
      (congrArg Channel.target hch).trans htarget, congrArg Channel.counter hch, hframe⟩
  · intro harrives hnow hdwell
    have htick := motionTick_arrives howner haxis hchannel hmoving hkind htarget hbraking
      (harrives.trans_eq (nextVelocity_eq a x g).symm) hnow hdwell
    obtain ⟨hchannels, -, hcounted⟩ := axisArrived_counts (k := a.slot)
      (s := u.modCh c fun _ => endMove (movePosition x (g * 1000))) hdwell
    have hch : (axisArrived e a.slot (u.modCh c fun _ => endMove (movePosition x (g * 1000)))).ch c =
        endMove (movePosition x (g * 1000)) := (hchannels _).trans (State.modCh_ch_same ..)
    exact ⟨_, act_eq htick, congrArg Channel.state hch,
      congrArg Channel.p hch, congrArg Channel.v hch, congrArg Channel.kind hch,
      fun j hj => (hchannels j).trans (State.modCh_ch_other _ _ _ _ hj), hcounted⟩
  · intro hmoving hconfirming
    exact act_eq (motionTickOf_of_other hmoving hconfirming)

/-- Settles O51: a HOMING move has no target, so each tick goes on. -/
theorem homingTickAdvances : Obligations.HomingTickAdvances := by
  intro c s u x
  refine ⟨fun e a howner haxis hchannel hmoving hkind hbraking hcounter => ?_, fun hother => ?_⟩
  · have htick := homingTick_goesOn howner haxis hchannel hmoving hkind hbraking hcounter rfl
    obtain ⟨t, hexec, hch, hframe⟩ := exec_modCh (i := .homingTick c) (act_eq htick)
    exact ⟨t, hexec, hch.trans (by rw [Channel.goesOn_eq]), hframe⟩
  · have hnone : homingTickOf c u = u := if_neg fun ⟨hmoving, hkind⟩ => hother.elim (· hmoving) (· hkind)
    exact act_eq hnone

end Sys2Proof.Machine
end

section
/-! PROOFS. The end of an exhibit's braking (R17, R28, R129), and BRAKING_TICK (R128). -/

namespace Sys2Proof.Machine

/-! ### Orders completed together (R44, R47) -/

/-- Each order of a list that completes is DONE with the list's outcome. -/
theorem completeAll_slot {l : List Nat} {k : Nat} (hk : k ∈ l) (o : OrderOutcome) (s : State) :
    ((completeAll l o s).slot k).state = .done ∧ ((completeAll l o s).slot k).outcome = o := by
  have hfold : ∀ (l : List Nat) (u : State),
      (k ∈ l ∨ (u.slot k).state = .done ∧ (u.slot k).outcome = o) →
      ((completeAll l o u).slot k).state = .done ∧ ((completeAll l o u).slot k).outcome = o := by
    intro l
    induction l with
    | nil => exact fun u hu => hu.resolve_left List.not_mem_nil
    | cons j l ih =>
      refine fun u hu => ih (complete j o 0 u) ?_
      by_cases hj : k = j
      · subst hj; exact .inr (by simp)
      · rw [complete_slot_other _ _ _ _ _ hj]
        exact hu.imp_left fun hmem => (List.mem_cons.1 hmem).resolve_left hj
  exact hfold l s (.inl hk)

/-! ### READY reached (R28, R32) -/

/-- A READY exhibit with nothing queued starts its rest timer. -/
theorem readyNow_of_none {e : Nat} {s : State} (hqueued : (s.ex e).queued = none) :
    readyNow e s = startRest e s := by
  simp [readyNow, readyContinue, hqueued]

section
variable (e : Nat) (s : State)

/-- What starting the rest timer leaves as it is. -/
theorem startRest_leaves : ((startRest e s).ex e).state = (s.ex e).state ∧
    ((startRest e s).ex e).units = (s.ex e).units ∧ ((startRest e s).ex e).homingOrder = (s.ex e).homingOrder ∧
    (∀ c, (startRest e s).ch c = s.ch c) ∧ ∀ k, (startRest e s).slot k = s.slot k := by
  obtain ⟨t, ht⟩ := startRest_ex e s
  have hkept := startRest_keptBut e s
  exact ⟨by rw [ht], by rw [ht], by rw [ht], hkept.ch (by decide), hkept.slot (by decide)⟩

/-- An exhibit whose braking toward READY has ended, with its rest timer and its queued start yet to come. -/
def readyEntered : State := endStopOrders e .done (enter e .ready (releaseAxes e (returnRun e s)))

theorem readyEntered_own : ((readyEntered e s).ex e).own = { (s.ex e).own with
    state := .ready, restTimer := none, target := none, heldAct := none, stopOrders := [] } := by
  rw [readyEntered, standing_own (endStopOrders_standing ..), enter_ex, releaseAxes, modAxes_ex]
  exact congrArg (fun x : Exhibit => { x with
    state := .ready, restTimer := none, target := none, heldAct := none, stopOrders := [] })
    (inner_own (returnRun_inner e s) e)

theorem readyEntered_ch (c : Nat) : (readyEntered e s).ch c = (releaseAxes e (returnRun e s)).ch c := by
  rw [readyEntered, standing_ch (endStopOrders_standing ..), enter_ch]

theorem readyEntered_units : ((readyEntered e s).ex e).units = ((returnRun e s).ex e).units := by
  rw [readyEntered, endStopOrders, completeAll_units, State.modEx_ex_same, enter_ex, releaseAxes, modAxes_ex]

theorem readyEntered_slot {k : Nat} (hk : k ∈ (s.ex e).stopOrders) :
    ((readyEntered e s).slot k).state = .done ∧ ((readyEntered e s).slot k).outcome = .done := by
  refine completeAll_slot ?_ _ _
  rw [enter_ex, releaseAxes, modAxes_ex]
  exact (congrArg Exhibit.stopOrders (inner_own (returnRun_inner e s) e) :) ▸ hk

end

/-! ### The targets of braking (R28) -/

theorem LockReasons.isEmpty_iff (x : LockReasons) : x.isEmpty = true ↔ x = ⟨false, false⟩ := by
  obtain ⟨key, order⟩ := x
  simp [LockReasons.isEmpty]

section
variable {e : Nat} {s : State} (hretire : (s.ex e).retire = none)
include hretire

/-- Braking toward READY ends there, with nothing queued to begin. -/
theorem brakingEnd_ready (htarget : (s.ex e).target = some .ready) (hqueued : (s.ex e).queued = none) :
    brakingEnd e s = startRest e (readyEntered e s) := by
  have hnone : ((readyEntered e s).ex e).queued = none := by
    simpa [hqueued] using congrArg Exhibit.queued (readyEntered_own e s)
  simp only [brakingEnd, hretire, htarget]
  exact readyNow_of_none hnone

/-- Braking toward HELD ends there while a hold reason stands. -/
theorem brakingEnd_held (htarget : (s.ex e).target = some .held) (hact : (s.ex e).heldAct = some .running)
    (hhold : (s.ex e).hold.isEmpty = false) : brakingEnd e s = enterHeld e .running (returnRun e s) := by
  have hstands : ((enterHeld e .running (returnRun e s)).ex e).hold.isEmpty = false := by
    rw [enterHeld, publishExhibit_ex, State.modEx_ex_same]
    exact (congrArg Exhibit.hold (inner_own (returnRun_inner e s) e) :) ▸ hhold
  simp [brakingEnd, hretire, htarget, hact, hstands]

/-- Braking toward LOCKED OUT ends there while a lockout reason stands. -/
theorem brakingEnd_locked (htarget : (s.ex e).target = some .lockedOut) (hlock : (s.ex e).lock ≠ ⟨false, false⟩) :
    brakingEnd e s = lockDown e s := by
  have hstands : ((lockDown e s).ex e).lock = (s.ex e).lock := by
    simpa using congrArg Exhibit.lock (lockDown_own e s)
  have hnot : (s.ex e).lock.isEmpty = false := by
    rwa [← Bool.not_eq_true, LockReasons.isEmpty_iff]
  simp [brakingEnd, hretire, htarget, enterLockedOut, hstands, hnot]

end

/-! ### A tick of a BRAKING channel (R128) -/

section
variable {a : AxisRec} {x : Channel}

theorem brakingStep_stops (hslow : x.v < a.vmin + a.delta) : brakingStep a x = stopShort x := if_pos hslow

/-- A WAYPOINT move that brakes slows by the acceleration step and goes on (R128). -/
theorem brakingStep_goesOn {g : Int} (hkind : x.kind = some .waypoint) (htarget : x.target = some g)
    (hfast : a.vmin + a.delta ≤ x.v) (hshort : x.v - a.delta < remaining x g) :
    brakingStep a x = x.goesOn (x.v - a.delta) x.phase := by
  simp only [brakingStep, if_neg (Nat.not_lt.2 hfast), hkind, htarget, if_neg (Nat.not_le.2 hshort)]
  rfl

end

/-- A state in which a channel has stopped short of the end of its move (R128). -/
def stoppedAt (c : Nat) (s : State) : State := s.modCh c fun _ => stopShort (s.ch c)

section
variable (c : Nat) (s : State)

@[simp] theorem stoppedAt_ex (e : Nat) : (stoppedAt c s).ex e = s.ex e := rfl
theorem stoppedAt_ch : (stoppedAt c s).ch c = stopShort (s.ch c) := State.modCh_ch_same ..
theorem stoppedAt_otherChannels : OtherChannels c s (stoppedAt c s) := fun _ hj => State.modCh_ch_other _ _ _ _ hj

end

/-- An axis of the exhibit moves on while another's channel changes. -/
theorem anyMoving_of_other {s : State} {c e : Nat} {a' : AxisRec} (y : Channel) (ha' : a' ∈ (s.ex e).axes)
    (hother : a'.channel ≠ c) (hmoves : (s.ch a'.channel).isMoving = true) :
    (s.modCh c fun _ => y).anyMoving e = true :=
  List.any_eq_true.2 ⟨a', ha', by rwa [State.modCh_ch_other _ _ _ _ hother]⟩

/-- No axis of the exhibit moves once its last moving channel is at rest. -/
theorem anyMoving_of_last {s : State} {c e : Nat} {y : Channel} (hy : y.isMoving = false)
    (hothers : ∀ a' ∈ (s.ex e).axes, a'.channel ≠ c → (s.ch a'.channel).isMoving = false) :
    (s.modCh c fun _ => y).anyMoving e = false := by
  refine List.any_eq_false.2 fun a' ha' => ?_
  by_cases hc : a'.channel = c
  · rw [hc, State.modCh_ch_same]
    simp [hy]
  · rw [State.modCh_ch_other _ _ _ _ hc]
    simp [hothers a' ha' hc]

section
variable {c e : Nat} {a : AxisRec} {s : State} (howner : (s.ch c).owner = some e) (haxis : (s.ch c).axis = some a)
  (hchannel : a.channel = c) (hbraking : (s.ch c).state = .braking)
include howner haxis hchannel hbraking

/-- A channel that stops while another axis moves is STOPPED with its move kept (R128). -/
theorem brakingTick_stops {a' : AxisRec} (hslow : (s.ch c).v < a.vmin + a.delta) (ha' : a' ∈ (s.ex e).axes)
    (hother : a'.channel ≠ c) (hmoves : (s.ch a'.channel).isMoving = true) :
    brakingTickOf c s = s.modCh c fun _ => stopShort (s.ch c) := by
  rw [brakingTickOf, if_pos hbraking]
  refine tickChannel_quiet howner haxis hchannel ?_ (overran_of_stands rfl) (by simp [stopShort])
    (.inr (anyMoving_of_other _ ha' hother hmoves))
  rw [brakingStep_stops hslow]
  exact countTick_stands rfl

/-- A channel that slows while another axis moves goes on, and its deadline counter stands (R128, R125). -/
theorem brakingTick_slows {a' : AxisRec} {g : Int} (hkind : (s.ch c).kind = some .waypoint)
    (htarget : (s.ch c).target = some g) (hfast : a.vmin + a.delta ≤ (s.ch c).v)
    (hshort : (s.ch c).v - a.delta < remaining (s.ch c) g) (ha' : a' ∈ (s.ex e).axes)
    (hother : a'.channel ≠ c) (hmoves : (s.ch a'.channel).isMoving = true) :
    brakingTickOf c s = s.modCh c fun _ => (s.ch c).goesOn ((s.ch c).v - a.delta) (s.ch c).phase := by
  have hstands : counts ((s.ch c).goesOn ((s.ch c).v - a.delta) (s.ch c).phase) = false := by
    simp [counts, Channel.goesOn, movePosition, hbraking, hkind]
  rw [brakingTickOf, if_pos hbraking]
  refine tickChannel_quiet howner haxis hchannel ?_ (overran_of_stands hstands) ?_
    (.inr (anyMoving_of_other _ ha' hother hmoves))
  · rw [brakingStep_goesOn hkind htarget hfast hshort, countTick_stands hstands]
  · exact fun h => by simp [Channel.goesOn, movePosition, hbraking] at h

/-- The last moving channel of a BRAKING exhibit ends its braking when it stops (R129). -/
theorem brakingTick_ends (hslow : (s.ch c).v < a.vmin + a.delta)
    (hothers : ∀ a' ∈ (s.ex e).axes, a'.channel ≠ c → (s.ch a'.channel).isMoving = false)
    (hexhibit : (s.ex e).state = .braking) :
    brakingTickOf c s = brakingEnd e (stoppedAt c s) := by
  have hstop : countTick (brakingStep a (s.ch c)) = stopShort (s.ch c) := by
    rw [brakingStep_stops hslow]
    exact countTick_stands rfl
  have hidle : (stopShort (s.ch c)).state ≠ .idle := by simp [stopShort]
  rw [brakingTickOf, if_pos hbraking, tickChannel_eq howner haxis hchannel hstop (overran_of_stands rfl),
    if_neg hidle]
  exact if_pos ⟨hexhibit, anyMoving_of_last rfl hothers⟩

end

/-! ### Where braking ends (R17, R28) -/

/-- A channel released holds no move (R129). -/
theorem releaseChannel_kind (a : AxisRec) (x : Channel) : (releaseChannel a x).kind = none := by
  unfold releaseChannel
  split
  · assumption
  · rfl
  · rfl

section
variable {e : Nat} {s : State} (haxes : (s.ex e).axes ≠ []) (hreq : s.request e = none)

section
include haxes hreq

/-- READY entered from braking: the held moves are released, the run units returned and the STOP EXHIBIT orders
DONE. -/
theorem readyEntered_releases :
    ((startRest e (readyEntered e s)).ex e).state = .ready ∧
      (∀ a ∈ (s.ex e).axes, ((startRest e (readyEntered e s)).ch a.channel).kind = none) ∧
      ((startRest e (readyEntered e s)).ex e).units ≤ (s.ex e).holdUnits ∧
      ∀ k ∈ (s.ex e).stopOrders, ((startRest e (readyEntered e s)).slot k).state = .done ∧
        ((startRest e (readyEntered e s)).slot k).outcome = .done := by
  obtain ⟨hstate, hunits, -, hch, hslot⟩ := startRest_leaves e (readyEntered e s)
  refine ⟨hstate.trans (by simpa using congrArg Exhibit.state (readyEntered_own e s)), fun a ha => ?_, ?_,
    fun k hk => by rw [hslot]; exact readyEntered_slot e s hk⟩
  · rw [hch, readyEntered_ch]
    exact modAxes_ch_reaches e _ _ (·.kind = none) releaseChannel_kind a (by rwa [inner_axes (returnRun_inner e s)])
  · rw [hunits, readyEntered_units]
    exact returnRun_units haxes hreq

end

/-- A released channel that holds no homing move stays where it stands, at rest. -/
theorem readyEntered_ch_rests {c : Nat} {p : Int} (hp : (s.ch c).p = p) (hv : (s.ch c).v = 0)
    (hkind : (s.ch c).kind = some .waypoint) :
    ((readyEntered e s).ch c).p = p ∧ ((readyEntered e s).ch c).v = 0 ∧
      (((readyEntered e s).ch c).kind = none → ((readyEntered e s).ch c).state = .idle) := by
  have hrests := modAxes_ch_keeps e (returnRun e s) releaseChannel c
    (fun x => x.p = p ∧ x.v = 0 ∧ (x.kind = some .waypoint ∨ x.kind = none ∧ x.state = .idle))
    (fun a x hx => by
      obtain ⟨hxp, hxv, hxkind | ⟨hxkind, hxstate⟩⟩ := hx
      · simp only [releaseChannel, hxkind]
        exact ⟨hxp, rfl, .inr ⟨rfl, rfl⟩⟩
      · rw [releaseChannel_of_idle a hxkind]
        exact ⟨hxp, hxv, .inr ⟨hxkind, hxstate⟩⟩)
    (by rw [inner_ch (returnRun_inner e s)]; exact ⟨hp, hv, .inl hkind⟩)
  obtain ⟨hrp, hrv, hrkind⟩ := hrests
  rw [readyEntered_ch]
  exact ⟨hrp, hrv, fun hnone => (hrkind.resolve_left (by rw [releaseAxes] at hnone; simp [hnone])).2⟩

end

section
variable (e : Nat) (s : State)

theorem lockDown_ch_released (a : AxisRec) (ha : a ∈ (s.ex e).axes) :
    ((lockDown e s).ch a.channel).kind = none := by
  rw [lockDown_eq, standing_ch (endLockOrders_standing ..), lockEntered, enter_ch, inner_ch (returnAll_inner ..),
    deenergiseAxes]
  refine modAxes_ch_reaches e _ _ (·.kind = none) ?_ a (by simpa using ha)
  exact fun b x => releaseChannel_kind b x

theorem lockDown_slot {k : Nat} (hk : k ∈ (s.ex e).lockOrders) :
    ((lockDown e s).slot k).state = .done ∧ ((lockDown e s).slot k).outcome = .done := by
  refine completeAll_slot ?_ _ _
  have hsame : ((lockEntered e s).ex e).lockOrders = (s.ex e).lockOrders := by
    simpa using congrArg Exhibit.lockOrders (lockEntered_own e s)
  exact hsame ▸ hk

/-- HELD entered from braking: the run units are returned, and the run and the channels stand. -/
theorem heldEntered (act : Activity) : ((enterHeld e act (returnRun e s)).ex e).state = .held ∧
    ((enterHeld e act (returnRun e s)).ex e).heldAct = some act ∧
    ((enterHeld e act (returnRun e s)).ex e).run = (s.ex e).run ∧
    ((enterHeld e act (returnRun e s)).ex e).units = ((returnRun e s).ex e).units ∧
    ∀ c, (enterHeld e act (returnRun e s)).ch c = s.ch c := by
  have hch : ∀ c, (enterHeld e act (returnRun e s)).ch c = (returnRun e s).ch c :=
    (enterHeld_keptBut _ _ _).ch (by decide)
  have hex : (enterHeld e act (returnRun e s)).ex e = { (returnRun e s).ex e with
      state := .held, restTimer := none, target := none, heldAct := some act } := by
    simp [enterHeld]
  refine ⟨by rw [hex], by rw [hex], ?_, by rw [hex], fun c => (hch c).trans (inner_ch (returnRun_inner e s) c)⟩
  rw [hex]
  simpa using congrArg Exhibit.run (inner_own (returnRun_inner e s) e)

end

section
variable {c e : Nat} {s t : State} (ht : brakingEnd e (stoppedAt c s) = t)
include ht

/-- The last stop of an exhibit that brakes toward READY (R28, R129). -/
theorem brakingEnd_readies {a : AxisRec} (ha : a ∈ (s.ex e).axes) (hreq : s.request e = none)
    (hkind : (s.ch c).kind = some .waypoint) (hchannel : a.channel = c) (hretire : (s.ex e).retire = none)
    (htarget : (s.ex e).target = some .ready) (hqueued : (s.ex e).queued = none) :
    (t.ex e).state = .ready ∧ (∀ a' ∈ (s.ex e).axes, (t.ch a'.channel).kind = none) ∧
      (t.ch c).state = .idle ∧ (t.ch c).p = (s.ch c).p ∧ (t.ch c).v = 0 ∧ (t.ex e).units ≤ (s.ex e).holdUnits ∧
      ∀ k ∈ (s.ex e).stopOrders, (t.slot k).state = .done ∧ (t.slot k).outcome = .done := by
  have hch := stoppedAt_ch c s
  have haxes : (s.ex e).axes ≠ [] := List.ne_nil_of_mem ha
  rw [← ht, brakingEnd_ready (s := stoppedAt c s) hretire htarget hqueued]
  obtain ⟨hstate, hkinds, hunits, horders⟩ :=
    readyEntered_releases (s := stoppedAt c s) (e := e) haxes hreq
  obtain ⟨hp, hv, hidle⟩ := readyEntered_ch_rests (e := e) (s := stoppedAt c s) (p := (s.ch c).p)
    (by rw [hch]; rfl) (by rw [hch]; rfl) (by rw [hch]; exact hkind)
  obtain ⟨-, -, -, hsame, -⟩ := startRest_leaves e (readyEntered e (stoppedAt c s))
  have hnone := hkinds a ha
  rw [hchannel, hsame] at hnone
  exact ⟨hstate, hkinds, by rw [hsame, hidle hnone], by rw [hsame, hp], by rw [hsame, hv], hunits, horders⟩

/-- The last stop of an exhibit that brakes toward HELD with a hold reason (R28). -/
theorem brakingEnd_holds (haxes : (s.ex e).axes ≠ []) (hreq : s.request e = none)
    (hretire : (s.ex e).retire = none) (htarget : (s.ex e).target = some .held)
    (hact : (s.ex e).heldAct = some .running) (hhold : (s.ex e).hold.isEmpty = false) :
    (t.ex e).state = .held ∧ (t.ex e).heldAct = some .running ∧ (t.ex e).run = (s.ex e).run ∧
      (t.ex e).units ≤ (s.ex e).holdUnits ∧ t.ch c = stopShort (s.ch c) ∧ OtherChannels c s t := by
  obtain ⟨hstate, hheldAct, hrun, hunits, hchannels⟩ := heldEntered e (stoppedAt c s) .running
  have hreturned := returnRun_units (s := stoppedAt c s) (e := e) haxes hreq
  rw [← ht, brakingEnd_held (s := stoppedAt c s) hretire htarget hact hhold]
  exact ⟨hstate, hheldAct, hrun, hunits.trans_le hreturned, (hchannels c).trans (stoppedAt_ch c s),
    fun j hj => (hchannels j).trans (stoppedAt_otherChannels c s j hj)⟩

/-- The last stop of an exhibit that brakes toward LOCKED OUT with a lockout reason (R28, R25). -/
theorem brakingEnd_locks (haxes : (s.ex e).axes ≠ []) (hreq : s.request e = none)
    (hretire : (s.ex e).retire = none) (htarget : (s.ex e).target = some .lockedOut)
    (hlock : (s.ex e).lock ≠ ⟨false, false⟩) :
    (t.ex e).state = .lockedOut ∧ (t.ex e).units = 0 ∧
      (∀ a' ∈ (s.ex e).axes, (t.ch a'.channel).energised = false ∧ (t.ch a'.channel).kind = none) ∧
      ∀ k ∈ (s.ex e).lockOrders, (t.slot k).state = .done ∧ (t.slot k).outcome = .done := by
  rw [← ht, brakingEnd_locked (s := stoppedAt c s) hretire htarget hlock]
  exact ⟨by simpa using congrArg Exhibit.state (lockDown_own e (stoppedAt c s)), lockDown_units e _ haxes hreq,
    fun a' ha' => ⟨lockDown_ch e (stoppedAt c s) a' ha', lockDown_ch_released e (stoppedAt c s) a' ha'⟩,
    fun k hk => lockDown_slot e (stoppedAt c s) hk⟩

/-- The last stop of an exhibit whose retirement waits (R17). -/
theorem brakingEnd_retires {k : Nat} (hretire : (s.ex e).retire = some k) :
    t.ex e = .absent ∧ (∀ a' ∈ (s.ex e).axes, (t.ch a'.channel).owner = none) ∧
      (t.slot k).state = .done ∧ (t.slot k).outcome = .done := by
  have hend : brakingEnd e (stoppedAt c s) = finishRetire e k (stoppedAt c s) := by
    simp only [brakingEnd, stoppedAt_ex, hretire]
  rw [← ht, hend]
  exact ⟨finishRetire_ex e k _, fun a' ha' => (finishRetire_ch e k (stoppedAt c s) a' ha').1,
    congrArg Slot.state (complete_slot_same ..), congrArg Slot.outcome (complete_slot_same ..)⟩

end

/-! ### BRAKING_TICK -/

theorem brakingTick_keptBut (c : Nat) (u : State) : KeptBut exhibitFields u (publish (brakingTickOf c u)) :=
  (keptBut_of_outer (brakingTickOf_outer c u)).trans ((publish_keptBut _).mono (by decide))

/-- Settles O52: a channel stops or slows by its velocity while another axis moves; the stop of the last one ends
braking, by the retirement or the target. -/
theorem brakingTickSlows : Obligations.BrakingTickSlows := by
  intro c s u x
  refine ⟨fun e a a' g howner haxis hchannel hbraking hkind htarget ha' hother hmoves => ⟨?_, ?_⟩, ?_, ?_⟩
  · intro hslow
    have htick := brakingTick_stops howner haxis hchannel hbraking hslow ha' hother hmoves
    exact exec_modCh (i := .brakingTick c) (act_eq htick)
  · intro hfast hshort
    have htick := brakingTick_slows howner haxis hchannel hbraking hkind htarget hfast hshort ha' hother hmoves
    obtain ⟨t, hexec, hch, hframe⟩ := exec_modCh (i := .brakingTick c) (act_eq htick)
    exact ⟨t, hexec, hch.trans (by rw [Channel.goesOn_eq]), hframe⟩
  · intro e a g y howner haxis hchannel hbraking hkind htarget hslow ha hothers hexhibit hreq
    have htick := brakingTick_ends howner haxis hchannel hbraking hslow hothers hexhibit
    have hframe := brakingTick_keptBut c u
    rw [htick] at hframe
    have haxes : y.axes ≠ [] := List.ne_nil_of_mem ha
    refine ⟨fun hretire hready hqueued => ?_, fun hretire hheld hact hhold => ?_,
      fun hretire hlocked hlock => ?_, fun k hretire => ?_⟩
    · obtain ⟨hstate, hkinds, hidle, hp, hv, hunits, horders⟩ :=
        brakingEnd_readies rfl ha hreq hkind hchannel hretire hready hqueued
      exact ⟨_, act_eq htick, hstate, hkinds, hidle, hp, hv, hunits, horders, hframe⟩
    · obtain ⟨hstate, hheldAct, hrun, hunits, hch, hothers⟩ :=
        brakingEnd_holds (c := c) rfl haxes hreq hretire hheld hact hhold
      exact ⟨_, act_eq htick, hstate, hheldAct, hrun, hunits, hch, hothers, hframe⟩
    · obtain ⟨hstate, hunits, hch, horders⟩ := brakingEnd_locks (c := c) rfl haxes hreq hretire hlocked hlock
      exact ⟨_, act_eq htick, hstate, hunits, hch, horders, hframe⟩
    · obtain ⟨hex, hch, hdone, hout⟩ := brakingEnd_retires (c := c) rfl hretire
      exact ⟨_, act_eq htick, hex, hch, hdone, hout, hframe⟩
  · intro hnot
    exact act_eq (if_neg hnot)

end Sys2Proof.Machine
end

section
/-! PROOFS. Overrun reports and channel inputs that fault an exhibit: DEADLINE_OVERRUN, LIMIT_ACTIVE and
DRV_FAULT_ACTIVE (R126, R131, R135, R136, R170 to R174). -/

namespace Sys2Proof.Machine

/-! ### A fault taken (R172, R174) -/

section
variable (e : Nat) (r : FaultReport) (s : State)

/-- A channel at rest stays at rest through the first fault of an exhibit. -/
theorem firstFault_ch_rests {c : Nat} (hc : (s.ch c).isMoving = false) :
    ((firstFault e r s).ch c).isMoving = false := by
  unfold firstFault
  extract_lets s1 s2 s3 s4 s5
  have h2 : (s2.ch c).isMoving = false :=
    modAxes_ch_keeps e s1 _ c (·.isMoving = false) (fun _ x _ => tripChannel_isMoving x) hc
  have h3 : s3.ch c = s2.ch c :=
    (standing_ch (endStopOrders_standing ..) _).trans <|
      (standing_ch (endHomingOrder_standing ..) _).trans (standing_ch (endRun_standing ..) _)
  have h4 : (s4.ch c).isMoving = false := by
    rw [standing_ch (dropQueued_standing ..)]
    exact modAxes_ch_keeps e s3 _ _ (·.isMoving = false) releaseChannel_isMoving (by rw [h3, h2])
  rw [inner_ch (raiseCause_inner ..), inner_ch (returnRun_inner ..), inner_ch (withdraw_inner ..), h4]

variable (hinst : (s.ex e).installed = true) (hretire : (s.ex e).retire = none)
include hinst hretire

/-- A fault beside a full capture record counts as a later one, and changes nothing else (R174). -/
theorem takeFault_later {q : Capture} (hcapture : (s.ex e).capture = some q) :
    takeFault e r s = s.modEx e (fun y => { y with laterFaults := min 255 (y.laterFaults + 1) }) := by
  simp [takeFault, hinst, hretire, hcapture]

variable (hcapture : (s.ex e).capture = none) (hlock : (s.ex e).brakingToLock = false)
include hcapture hlock

/-- A first fault ends the run and the queued start, and no later fault is counted yet (R172). -/
theorem takeFault_ends : ((takeFault e r s).ex e).laterFaults = 0 ∧ ((takeFault e r s).ex e).run = none ∧
    ((takeFault e r s).ex e).queued = none := by
  have hfirst := firstFault_own e r s
  have hown := standing_own (endLockOrders_standing e .faulted (enter e .faulted (firstFault e r s)))
  rw [enter_ex] at hown
  rw [takeFault_first e r s hinst hretire hcapture hlock]
  generalize (firstFault e r s).ex e = y at hfirst hown
  have hlater : y.laterFaults = 0 := by simpa using congrArg Exhibit.laterFaults hfirst
  have hrun : y.run = none := by simpa using congrArg Exhibit.run hfirst
  have hqueued : y.queued = none := by simpa using congrArg Exhibit.queued hfirst
  exact ⟨by simpa [hlater] using congrArg Exhibit.laterFaults hown, by simpa [hrun] using congrArg Exhibit.run hown,
    by simpa [hqueued] using congrArg Exhibit.queued hown⟩

theorem takeFault_ch_rests {c : Nat} (hc : (s.ch c).isMoving = false) :
    ((takeFault e r s).ch c).isMoving = false := by
  rw [takeFault_first e r s hinst hretire hcapture hlock, standing_ch (endLockOrders_standing ..), enter_ch]
  exact firstFault_ch_rests e r s hc

end

/-! ### DEADLINE_OVERRUN -/

/-- An overrun report handed first is taken by the fault capture. -/
theorem exec_overrun {c : Fin 24} {e : Nat} {rep : FaultReport} {rest : List Handed} {s : State}
    (hhanded : s.handed = .overrun e rep :: rest) (hchannel : rep.channel = c.val) :
    exec (.deadlineOverrun c) s = .next (publish (takeFault e rep (s.withHanded rest))) :=
  congrArg (fun t => Host.Outcome.next (publish t))
    (deliverFirst_head _ _ _ _ hhanded (by simp [Handed.isOverrunOf, hchannel]))

theorem takeFault_keptBut (e : Nat) (r : FaultReport) (s : State) : KeptBut exhibitFields s (takeFault e r s) :=
  keptBut_of_outer (takeFault_outer e r s)

/-- Settles O53: the capture record decides whether the report is a first fault or a later one. -/
theorem overrunReachesTheCapture : Obligations.OverrunReachesTheCapture := by
  intro c e rep rest s
  refine ⟨fun hhanded hchannel hinst hretire => ⟨fun q hcapture => ?_, fun hcapture hlock => ?_⟩,
    fun hnone => ?_⟩
  · have hlater := takeFault_later e rep (s.withHanded rest) hinst hretire hcapture
    refine ⟨_, exec_overrun hhanded hchannel, ?_, ?_, fun j hj => ?_, ?_⟩ <;> rw [hlater]
    · rfl
    · exact (publish_ex ..).trans (State.modEx_ex_same ..)
    · exact (publish_ex ..).trans (State.modEx_ex_other _ _ _ _ hj)
    · exact KeptBut.grant (State.modEx_keptBut _ _ _) (by decide) (by decide)
  · obtain ⟨hstate, hcap⟩ := takeFault_own e rep (s.withHanded rest) hinst hretire hcapture hlock
    obtain ⟨hlater, hrun, hqueued⟩ := takeFault_ends e rep (s.withHanded rest) hinst hretire hcapture hlock
    exact ⟨_, exec_overrun hhanded hchannel, hstate, hcap, hlater, hrun, hqueued,
      takeFault_still e rep (s.withHanded rest) hinst hretire hcapture hlock,
      KeptBut.grant (takeFault_keptBut e rep (s.withHanded rest)) (List.Subset.refl _) (by decide)⟩
  · have hstays : deliverFirst (Handed.isOverrunOf c.val) s = s := by
      simp only [deliverFirst, takeFirst_eq_none hnone]
    exact congrArg (fun t => Host.Outcome.next (publish t)) hstays

/-! ### A channel input that becomes active on a channel that it concerns (R135, R136) -/

/-- A channel whose input has become active, trip-stopped if it moved (R131). -/
def trippedAt (c : Nat) (f : Channel → Channel) (s : State) : State := (s.modCh c f).modCh c tripChannel

section
variable {c e : Nat} {a : AxisRec} {s : State} (howner : (s.ch c).owner = some e) (haxis : (s.ch c).axis = some a)
include howner haxis

/-- LIMIT faults a channel that moves or confirms (R135). -/
theorem limitOn_faults (hlevel : (s.ch c).limit = false)
    (hmoves : (s.ch c).isMoving = true ∨ (s.ch c).state = .confirming) :
    limitOn c s = brakingCheck e (takeFault e (reportOf s .limitHit a (s.ch c).v)
      (trippedAt c (fun y => { y with limit := true }) s)) := by
  have hacts : (!(s.ch c).limit && ((s.ch c).isMoving || (s.ch c).state == .confirming)) = true := by
    rcases hmoves with h | h <;> simp [hlevel, h]
  simp only [limitOn, howner, haxis, hacts]
  rfl

/-- DRV_FAULT faults an energised channel (R136). -/
theorem faultOn_faults (hlevel : (s.ch c).fault = false) (henergised : (s.ch c).energised = true) :
    faultOn c s = brakingCheck e (takeFault e (reportOf s .driverFault a (s.ch c).v)
      (trippedAt c (fun y => { y with fault := true }) s)) := by
  have hacts : (!(s.ch c).fault && (s.ch c).energised) = true := by simp [hlevel, henergised]
  simp only [faultOn, howner, haxis, hacts]
  rfl

end

/-- LIMIT on a channel at rest, or without an owner, is a level only (R135). -/
theorem limitOn_level {c : Nat} {s : State}
    (h : (s.ch c).owner = none ∨ (s.ch c).state = .idle ∨ (s.ch c).state = .stopped) :
    limitOn c s = s.modCh c (fun y => { y with limit := true }) := by
  unfold limitOn
  extract_lets x s1
  split
  · next howner _ =>
    refine if_neg ?_
    rcases h with h | h | h
    · exact absurd (h.symm.trans howner) (by simp)
    · simp [x, Channel.isMoving, h]
    · simp [x, Channel.isMoving, h]
  · rfl

/-- DRV_FAULT on a channel that is not energised, or without an owner, is a level only (R136). -/
theorem faultOn_level {c : Nat} {s : State} (h : (s.ch c).owner = none ∨ (s.ch c).energised = false) :
    faultOn c s = s.modCh c (fun y => { y with fault := true }) := by
  unfold faultOn
  extract_lets x s1
  split
  · next howner _ =>
    refine if_neg ?_
    rcases h with h | h
    · exact absurd (h.symm.trans howner) (by simp)
    · simp [x, h]
  · rfl

/-- A fault of a channel stops it and its exhibit, whose record was empty and which does not brake toward LOCKED OUT,
and reports the moment before the stop (R170 to R172). -/
theorem trippedAt_faults {c e : Nat} {a : AxisRec} {s t : State} {k : FaultKind} {f : Channel → Channel}
    (ht : brakingCheck e (takeFault e (reportOf s k a (s.ch c).v) (trippedAt c f s)) = t)
    (hchannel : a.channel = c) (hinst : (s.ex e).installed = true) (hretire : (s.ex e).retire = none)
    (hcapture : (s.ex e).capture = none) (hlock : (s.ex e).brakingToLock = false) :
    (t.ex e).state = .faulted ∧
      (t.ex e).capture = some ⟨⟨k, a.slot, c, (s.ch c).p / 1000, (s.ch c).v⟩, s.tick, (s.ex e).state,
        ((s.ex e).run.map (·.routine)).getD 255, ((s.ex e).run.map (·.index)).getD 255⟩ ∧
      (t.ex e).run = none ∧ (t.ch c).isMoving = false ∧
      (∀ a' ∈ (s.ex e).axes, (t.ch a'.channel).isMoving = false) ∧ KeptBut exhibitFields s t := by
  have hrests : ((trippedAt c f s).ch c).isMoving = false := by
    rw [trippedAt, State.modCh_ch_same]
    exact tripChannel_isMoving _
  obtain ⟨hstate, hcap⟩ :=
    takeFault_own e (reportOf s k a (s.ch c).v) (trippedAt c f s) hinst hretire hcapture hlock
  obtain ⟨-, hrun, -⟩ :=
    takeFault_ends e (reportOf s k a (s.ch c).v) (trippedAt c f s) hinst hretire hcapture hlock
  rw [brakingCheck_of_not (.inl (by rw [hstate]; decide))] at ht
  subst ht hchannel
  exact ⟨hstate, hcap, hrun, takeFault_ch_rests e _ (trippedAt a.channel f s) hinst hretire hcapture hlock hrests,
    takeFault_still e _ (trippedAt a.channel f s) hinst hretire hcapture hlock,
    ((State.modCh_keptBut s _ _).trans (State.modCh_keptBut _ _ _)).mono (by decide) |>.trans
      (takeFault_keptBut e _ _)⟩

/-- Settles O56: the channel's owner and state decide whether an input that becomes active is a fault of its exhibit
or a level only. -/
theorem channelFaultsStopTheExhibit : Obligations.ChannelFaultsStopTheExhibit := by
  intro c s u x only faulted armed
  have hfaults {i : Instr} {k : FaultKind} {e : Nat} {a : AxisRec} {f : Channel → Channel} {v : State}
      (hexec : exec i s = .next (publish v)) (harmed : armed e a)
      (hv : v = brakingCheck e (takeFault e (reportOf u k a x.v) (trippedAt c.val f u))) : faulted i k e a := by
    obtain ⟨-, -, hchannel, hinst, hretire, hcapture, hlock⟩ := harmed
    obtain ⟨hstate, hcap, hrun, hrests, hstill, hframe⟩ :=
      trippedAt_faults hv.symm hchannel hinst hretire hcapture hlock
    exact ⟨_, hexec, hstate, hcap, hrun, hrests, hstill, hframe.trans ((publish_keptBut v).mono (by decide))⟩
  refine ⟨fun h => exec_modCh (i := .limitActive c) (act_eq (limitOn_level h)),
    fun e a harmed hlevel hmoves => ?_,
    fun h => exec_modCh (i := .drvFaultActive c) (act_eq (faultOn_level h)),
    fun e a harmed hlevel henergised => ?_⟩
  · obtain ⟨howner, haxis, -⟩ := id harmed
    exact hfaults (i := .limitActive c) (act_eq rfl) harmed (limitOn_faults howner haxis hlevel hmoves)
  · obtain ⟨howner, haxis, -⟩ := id harmed
    exact hfaults (i := .drvFaultActive c) (act_eq rfl) harmed (faultOn_faults howner haxis hlevel henergised)

end Sys2Proof.Machine
end

section
/-! PROOFS. HOME_ACTIVE, DRV_READY_ACTIVE and the sampled changes of a channel's inputs (R30, R107, R124, R133,
R135). -/

namespace Sys2Proof.Machine

/-! ### Axes marked as set (R30) -/

section
variable {e k : Nat} {s : State}

/-- An axis marked as set joins those set already. -/
theorem mem_markSet {j : Nat} : j ∈ ((markSet e [k] s).ex e).axesSet ↔ j = k ∨ j ∈ (s.ex e).axesSet := by
  rw [markSet, State.modEx_ex_same, List.mem_append, List.mem_filter]
  by_cases hj : j = k <;> simp [hj, em]

theorem allSet_markSet : allSet (markSet e [k] s) e = true ↔
    ∀ a ∈ (s.ex e).axes, a.slot ≠ k → a.slot ∈ (s.ex e).axesSet := by
  have haxes : ((markSet e [k] s).ex e).axes = (s.ex e).axes := by rw [markSet, State.modEx_ex_same]
  simp only [allSet, haxes, List.all_eq_true, List.contains_iff_mem, mem_markSet, or_iff_not_imp_left, ne_eq]

theorem markSet_state : ((markSet e [k] s).ex e).state = (s.ex e).state := by rw [markSet, State.modEx_ex_same]

variable (hhoming : (s.ex e).state = .homing)
include hhoming

/-- An axis set while another is not is marked, and homing goes on (R133). -/
theorem axisSet_marks {a' : AxisRec} (ha' : a' ∈ (s.ex e).axes) (hother : a'.slot ≠ k)
    (hunset : a'.slot ∉ (s.ex e).axesSet) : axisSet e k s = markSet e [k] s := by
  have hnot : allSet (markSet e [k] s) e = false := by
    rw [← Bool.not_eq_true, allSet_markSet]
    exact fun hall => hunset (hall a' ha' hother)
  have hstays := brakingCheck_of_not (e := e) (s := markSet e [k] s) (.inl (by rw [markSet_state, hhoming]; decide))
  simpa [axisSet, hnot] using hstays

/-- The last axis set ends homing (R30). -/
theorem axisSet_ends (hothers : ∀ a ∈ (s.ex e).axes, a.slot ≠ k → a.slot ∈ (s.ex e).axesSet) :
    axisSet e k s = homingEnd e (markSet e [k] s) := by
  simp [axisSet, allSet_markSet.2 hothers, markSet_state, hhoming]

end

/-! ### The end of homing (R30) -/

section
variable (e : Nat) (s : State)

/-- The end of a homing order is in its exhibit's entry and its slot alone. -/
theorem endHomingOrder_keptBut (o : OrderOutcome) :
    KeptBut [.exhibits, .slots, .notice] s (endHomingOrder e o s) := by
  unfold endHomingOrder
  split
  · exact .refl _ _
  · exact ((State.modEx_keptBut s e _).mono (by decide)).trans ((complete_keptBut _ _ _ _).mono (by decide))

theorem endHomingOrder_ex (o : OrderOutcome) :
    (endHomingOrder e o s).ex e = { s.ex e with homingOrder := none } := by
  unfold endHomingOrder
  split
  · next hnone => rw [← hnone]
  · exact (complete_ex ..).trans (State.modEx_ex_same ..)

theorem endHomingOrder_slot {o : OrderOutcome} {h : HomingOrder} (horder : (s.ex e).homingOrder = some h) :
    ((endHomingOrder e o s).slot h.slot).state = .done ∧ ((endHomingOrder e o s).slot h.slot).outcome = o ∧
      ((endHomingOrder e o s).slot h.slot).result = h.result := by
  simp [endHomingOrder, horder]

/-- An exhibit whose homing has ended, with its rest timer and its queued start yet to come. -/
def homingEnded : State := enter e .ready (endHomingOrder e .done (returnRun e s))

theorem homingEnd_of_none (hqueued : (s.ex e).queued = none) : homingEnd e s = startRest e (homingEnded e s) := by
  refine readyNow_of_none ?_
  rw [enter_ex, endHomingOrder_ex]
  simpa [hqueued] using congrArg Exhibit.queued (inner_own (returnRun_inner e s) e)

theorem homingEnded_ex : (homingEnded e s).ex e = { (returnRun e s).ex e with
    state := .ready, restTimer := none, target := none, heldAct := none, homingOrder := none } := by
  rw [homingEnded, enter_ex, endHomingOrder_ex]

theorem homingEnded_ch (c : Nat) : (homingEnded e s).ch c = s.ch c := by
  rw [homingEnded, enter_ch, (endHomingOrder_keptBut e _ _).ch (by decide), inner_ch (returnRun_inner e s)]

theorem homingEnded_slot {h : HomingOrder} (horder : (s.ex e).homingOrder = some h) :
    ((homingEnded e s).slot h.slot).state = .done ∧ ((homingEnded e s).slot h.slot).outcome = .done ∧
      ((homingEnded e s).slot h.slot).result = h.result := by
  rw [homingEnded, (enter_keptBut _ _ _).slot (by decide)]
  refine endHomingOrder_slot e _ ?_
  simpa [horder] using congrArg Exhibit.homingOrder (inner_own (returnRun_inner e s) e)

theorem homingEnded_keptBut :
    KeptBut [.exhibits, .groups, .handed, .slots, .views, .notice] s (homingEnded e s) :=
  ((returnUnits_keptBut s e _).mono (by decide)).trans <|
    ((endHomingOrder_keptBut e _ _).mono (by decide)).trans ((enter_keptBut _ _ _).mono (by decide))

end

/-! ### HOME_ACTIVE -/

/-- A channel whose HOME has become active and which is set at its home position (R133). -/
def homeFound (c : Nat) (a : AxisRec) (s : State) : State :=
  (s.modCh c fun y => { y with home := true }).modCh c (setHome a)

section
variable (c : Nat) (a : AxisRec) (s : State)

@[simp] theorem homeFound_ex (e : Nat) : (homeFound c a s).ex e = s.ex e := rfl

theorem homeFound_ch : (homeFound c a s).ch c = { s.ch c with
    home := true, state := .idle, kind := none, phase := none, v := 0, target := none, counter := 0, exp := 0,
    p := a.home * 1000 } := by
  rw [homeFound, State.modCh_ch_same, State.modCh_ch_same]
  rfl

theorem homeFound_otherChannels : OtherChannels c s (homeFound c a s) := fun j hj => by
  rw [homeFound, State.modCh_ch_other _ _ _ _ hj, State.modCh_ch_other _ _ _ _ hj]

theorem homeFound_keptBut : KeptBut [.channels] s (homeFound c a s) :=
  (State.modCh_keptBut _ _ _).trans (State.modCh_keptBut _ _ _)

end

/-- HOME on a channel without an owner, or that is not homing, is a level only (R133). -/
theorem homeOn_level {c : Nat} {s : State}
    (h : (s.ch c).owner = none ∨ (s.ch c).kind ≠ some .homing ∨ (s.ch c).isMoving = false) :
    homeOn c s = s.modCh c (fun y => { y with home := true }) := by
  unfold homeOn
  extract_lets x s1
  split
  · next howner _ =>
    refine if_neg ?_
    rcases h with h | h | h
    · exact absurd (h.symm.trans howner) (by simp)
    · simp [x, h]
    · simp [x, h]
  · rfl

/-- HOME on a channel that is homing sets its axis (R133). -/
theorem homeOn_sets {c e : Nat} {a : AxisRec} {s : State} (howner : (s.ch c).owner = some e)
    (haxis : (s.ch c).axis = some a) (hlevel : (s.ch c).home = false) (hkind : (s.ch c).kind = some .homing)
    (hmoving : (s.ch c).state = .moving) : homeOn c s = axisSet e a.slot (homeFound c a s) := by
  have hacts : (!(s.ch c).home && (s.ch c).kind == some .homing && (s.ch c).isMoving) = true := by
    simp [hlevel, hkind, Channel.isMoving, hmoving]
  simp only [homeOn, howner, haxis, hacts]
  rfl

section
variable {c e : Nat} {a : AxisRec} {s t : State} (hhoming : (s.ex e).state = .homing)
include hhoming

/-- An axis set before the last one (R133). -/
theorem homeFound_marks {a' : AxisRec} (ht : axisSet e a.slot (homeFound c a s) = t) (ha' : a' ∈ (s.ex e).axes)
    (hother : a'.slot ≠ a.slot) (hunset : a'.slot ∉ (s.ex e).axesSet) :
    t.ch c = (homeFound c a s).ch c ∧ a.slot ∈ (t.ex e).axesSet ∧ OtherChannels c s t ∧ OtherExhibits e s t ∧
      KeptBut [.channels, .exhibits] s t := by
  rw [axisSet_marks (s := homeFound c a s) hhoming ha' hother hunset] at ht
  subst ht
  exact ⟨rfl, mem_markSet.2 (.inl rfl), homeFound_otherChannels c a s,
    fun j hj => State.modEx_ex_other _ _ _ _ hj,
    ((homeFound_keptBut c a s).mono (by decide)).trans ((State.modEx_keptBut _ _ _).mono (by decide))⟩

/-- The last axis set: homing ends, with nothing queued to begin (R30, R133). -/
theorem homeFound_ends (ht : axisSet e a.slot (homeFound c a s) = t)
    (hothers : ∀ a' ∈ (s.ex e).axes, a'.slot ≠ a.slot → a'.slot ∈ (s.ex e).axesSet)
    (hqueued : (s.ex e).queued = none) (hreq : s.request e = none) :
    t.ch c = (homeFound c a s).ch c ∧ OtherChannels c s t ∧ (t.ex e).state = .ready ∧
      (t.ex e).homingOrder = none ∧ ((s.ex e).axes ≠ [] → (t.ex e).units ≤ (s.ex e).holdUnits) ∧
      (∀ h, (s.ex e).homingOrder = some h → (t.slot h.slot).state = .done ∧ (t.slot h.slot).outcome = .done ∧
        (t.slot h.slot).result = h.result) ∧
      KeptBut [.channels, .exhibits, .groups, .handed, .slots, .views, .notice] s t := by
  have hmarked : (markSet e [a.slot] (homeFound c a s)).ex e = { s.ex e with
      axesSet := (s.ex e).axesSet ++ [a.slot].filter (fun k => !(s.ex e).axesSet.contains k) } := by
    rw [markSet, State.modEx_ex_same, homeFound_ex]
  have hmarkedKept : KeptBut [.channels, .exhibits] s (markSet e [a.slot] (homeFound c a s)) :=
    ((homeFound_keptBut c a s).mono (by decide)).trans ((State.modEx_keptBut _ _ _).mono (by decide))
  have hmarkedReq : (markSet e [a.slot] (homeFound c a s)).request e = none := by
    unfold State.request at hreq ⊢
    rw [hmarked, hmarkedKept.group (by decide)]
    exact hreq
  rw [axisSet_ends (s := homeFound c a s) hhoming hothers,
    homingEnd_of_none e _ (by rw [hmarked]; exact hqueued)] at ht
  obtain ⟨hstate, hunits, horder, hch, hslot⟩ :=
    startRest_leaves e (homingEnded e (markSet e [a.slot] (homeFound c a s)))
  have hchannels : ∀ j, t.ch j = (homeFound c a s).ch j := fun j => by
    rw [← ht, hch, homingEnded_ch]
    rfl
  subst ht
  refine ⟨hchannels c, fun j hj => (hchannels j).trans (homeFound_otherChannels c a s j hj), ?_, ?_, fun haxes => ?_,
    fun h hh => ?_, (hmarkedKept.mono (by decide)).trans <|
      ((homingEnded_keptBut e _).mono (by decide)).trans ((startRest_keptBut e _).mono (by decide))⟩
  · rw [hstate, homingEnded_ex]
  · rw [horder, homingEnded_ex]
  · rw [hunits, homingEnded_ex]
    refine (returnRun_units (by rw [hmarked]; exact haxes) hmarkedReq).trans_eq ?_
    rw [hmarked]
    rfl
  · rw [hslot]
    exact homingEnded_slot e _ (by rw [hmarked]; exact hh)

end

/-! ### DRV_READY_ACTIVE -/

/-- A CONFIRMING channel whose DRV_READY has become active, its move ended (R124). -/
def confirmedAt (c : Nat) (s : State) : State := (s.modCh c fun y => { y with ready := true }).modCh c endMove

theorem confirmedAt_ch (c : Nat) (s : State) :
    (confirmedAt c s).ch c = endMove { s.ch c with ready := true } := by
  rw [confirmedAt, State.modCh_ch_same, State.modCh_ch_same]

/-- DRV_READY on a channel without an owner, or that is not CONFIRMING, is a level only (R124). -/
theorem readyOn_level {c : Nat} {s : State} (h : (s.ch c).owner = none ∨ (s.ch c).state ≠ .confirming) :
    readyOn c s = s.modCh c (fun y => { y with ready := true }) := by
  unfold readyOn
  extract_lets x s1
  split
  · next howner _ =>
    rcases h with h | h
    · exact absurd (h.symm.trans howner) (by simp)
    · exact if_neg h
  · rfl

/-- DRV_READY on a CONFIRMING channel completes its arrival (R124). -/
theorem readyOn_confirms {c e : Nat} {a : AxisRec} {s : State} (howner : (s.ch c).owner = some e)
    (haxis : (s.ch c).axis = some a) (hconfirming : (s.ch c).state = .confirming) :
    readyOn c s = axisArrived e a.slot (confirmedAt c s) := by
  simp only [readyOn, howner, haxis, hconfirming]
  rfl

section
variable {c e k : Nat} {s t : State} (ht : axisArrived e k (confirmedAt c s) = t)
include ht

/-- A confirmed arrival leaves the channel IDLE where it stands, and counts in its exhibit's run (R124, R107). -/
theorem confirmedAt_counts
    (hdwell : ∀ q, (s.ex e).run = some q → (s.waypoint q.routine q.index).dwell ≠ 0) :
    t.ch c = endMove { s.ch c with ready := true } ∧
      ∀ q, (s.ex e).run = some q → ∃ q', (t.ex e).run = some q' ∧ k ∈ q'.arrived := by
  obtain ⟨hchannels, -, hcounted⟩ := axisArrived_counts (k := k) (s := confirmedAt c s) hdwell
  rw [ht] at hchannels hcounted
  exact ⟨(hchannels c).trans (confirmedAt_ch c s), hcounted⟩

/-- A confirmed arrival of the last axis of the waypoint returns the run units and begins the dwell (R107). -/
theorem confirmedAt_dwells {q : Run} (hrun : (s.ex e).run = some q)
    (hdwell : (s.waypoint q.routine q.index).dwell ≠ 0) (hrunning : (s.ex e).state = .running)
    (hphase : q.phase = .moving) (hreq : s.request e = none) (haxes : (s.ex e).axes ≠ [])
    (hlast : ∀ j ∈ runSlots s (s.ex e) q, j ≠ k → j ∈ q.arrived) :
    (t.ex e).units ≤ (s.ex e).holdUnits ∧ ∃ q', (t.ex e).run = some q' ∧ q'.phase = .dwelling ∧
      q'.dwell = some (after s.tick (s.waypoint q.routine q.index).dwell) := by
  have hdwells := axisArrived_dwells (k := k) (s := confirmedAt c s) hrun hrunning hphase hdwell hreq haxes hlast
  rw [ht] at hdwells
  exact hdwells

end

/-- An input that becomes inactive is a level only (R135). -/
theorem exec_inactive {c : Fin 24} {i : ChanInput} {s : State} (f : Channel → Channel)
    (h : ∀ u, sampleChange c.val i false u = u.modCh c.val f) :
    ∃ t, exec (.channelInputChange c i false) s = .next t ∧ t.ch c.val = f ((settle s).ch c.val) ∧
      OtherChannels c.val (settle s) t ∧ KeptBut [.channels, .views, .notice] (settle s) t :=
  exec_modCh (act_eq (h _))

/-- Settles O55: each input that becomes active acts where the channel's move waits for it, and with the last axis of
the homing or of the waypoint the exhibit goes on; everywhere else a change is a level only. -/
theorem channelLevelsAreTaken : Obligations.ChannelLevelsAreTaken := by
  intro c s u x only set
  refine ⟨fun h => exec_modCh (i := .homeActive c) (act_eq (homeOn_level h)), ?_, ?_,
    fun h => exec_modCh (i := .drvReadyActive c) (act_eq (readyOn_level h)), ?_,
    exec_inactive (fun y => { y with home := false }) (fun _ => rfl),
    exec_inactive (fun y => { y with limit := false }) (fun _ => rfl),
    exec_inactive (fun y => { y with ready := false }) (fun _ => rfl),
    exec_inactive (fun y => { y with fault := false }) (fun _ => rfl), rfl, rfl, rfl, rfl⟩
  · intro e a a' howner haxis hlevel hkind hmoving hhoming ha' hother hunset
    have hsets := homeOn_sets howner haxis hlevel hkind hmoving
    obtain ⟨hch, hset, hchannels, hexhibits, hframe⟩ := homeFound_marks hhoming hsets.symm ha' hother hunset
    exact ⟨_, act_eq rfl, hch.trans (homeFound_ch c.val a u), hset, hchannels, hexhibits,
      (hframe.mono (by decide)).trans ((publish_keptBut _).mono (by decide))⟩
  · intro e a howner haxis hlevel hkind hmoving hhoming hothers hqueued hreq
    have hsets := homeOn_sets howner haxis hlevel hkind hmoving
    obtain ⟨hch, hchannels, hstate, horder, hunits, hslot, hframe⟩ :=
      homeFound_ends hhoming hsets.symm hothers hqueued hreq
    exact ⟨_, act_eq rfl, hch.trans (homeFound_ch c.val a u), hchannels, hstate, horder, hunits, hslot,
      hframe.trans ((publish_keptBut _).mono (by decide))⟩
  · intro e a howner haxis hconfirming hdwell
    have hconfirms := readyOn_confirms howner haxis hconfirming
    obtain ⟨hch, hcounted⟩ := confirmedAt_counts hconfirms.symm hdwell
    exact ⟨_, act_eq rfl, congrArg Channel.state hch, congrArg Channel.ready hch, (congrArg Channel.p hch :),
      congrArg Channel.kind hch, hcounted, fun q hrun hrunning hphase hreq haxes hlast =>
        confirmedAt_dwells hconfirms.symm hrun (hdwell q hrun) hrunning hphase hreq haxes hlast⟩

end Sys2Proof.Machine
end

section
/-! PROOFS. The arbiter's acts, one step each (R139 to R144): the head of the wait list comes first in the rotation,
an evaluation books it and goes on, and a request, a return and a withdrawal change one group record first. -/

namespace Sys2Proof.Machine

/-! ### The rotation (R138, R140) -/

theorem headOf_none (wait : List Request) : headOf none wait = wait.head? := rfl

/-- Past the last-granted exhibit, else at the front. -/
theorem headOf_some (l : Nat) (wait : List Request) :
    headOf (some l) wait = (wait.find? fun r => decide (l < r.ex)).or wait.head? := by
  cases hfind : wait.find? (fun r => decide (l < r.ex)) <;> simp [headOf, hfind]

/-- Only an empty wait list has no head. -/
theorem headOf_eq_none_iff {last : Option Nat} {wait : List Request} : headOf last wait = none ↔ wait = [] := by
  cases last with
  | none => simp [headOf_none]
  | some l =>
    rw [headOf_some, Option.or_eq_none_iff, List.head?_eq_none_iff]
    exact ⟨And.right, fun hnil => ⟨by simp [hnil], hnil⟩⟩

section
variable {g : Group} (hordered : WaitOrdered g) {q r : Request}
include hordered

/-- An exhibit has one place in an ordered wait list. -/
theorem WaitOrdered.eq_of_ex_eq (hq : q ∈ g.wait) (hr : r ∈ g.wait) (hex : q.ex = r.ex) : q = r := by
  have ⟨hpairs, _, _⟩ := hordered
  have hnodup : (g.wait.map (·.ex)).Nodup := List.pairwise_map.2 (hpairs.imp fun h => Nat.ne_of_lt h)
  exact List.inj_on_of_nodup_map hnodup hq hr hex

/-- The first entry of an ordered wait list that satisfies a test has the lowest number of those that do. -/
theorem WaitOrdered.find?_le {c : Request → Bool} (hfind : g.wait.find? c = some q) (hr : r ∈ g.wait)
    (hc : c r = true) : q.ex ≤ r.ex := by
  obtain ⟨-, before, rest, hsplit, hbefore⟩ := List.find?_eq_some_iff_append.1 hfind
  have ⟨hpairs, _, _⟩ := hordered
  rw [hsplit] at hr hpairs
  obtain ⟨-, hrest, -⟩ := List.pairwise_append.1 hpairs
  rcases List.mem_append.1 hr with hin | hin
  · exact absurd hc (by simpa using hbefore r hin)
  · rcases List.mem_cons.1 hin with rfl | hin
    · exact le_rfl
    · exact (List.rel_of_pairwise_cons hrest hin).le

/-- The entry at the front of an ordered wait list has the lowest number. -/
theorem WaitOrdered.head?_le (hhead : g.wait.head? = some q) (hr : r ∈ g.wait) : q.ex ≤ r.ex := by
  obtain ⟨rest, hwait⟩ := List.head?_eq_some_iff.1 hhead
  refine hordered.find?_le (c := fun _ => true) ?_ hr rfl
  simp [hwait]

/-- The head of an ordered wait list comes first in the rotation (R140). -/
theorem WaitOrdered.firstInRotation_of_headOf (hhead : headOf g.last g.wait = some q) : FirstInRotation g q := by
  refine ⟨headOf_mem hhead, fun r hr => ?_⟩
  have ⟨_, hbound, hlast⟩ := hordered
  have hqlt := hbound q (headOf_mem hhead)
  have hrlt := hbound r hr
  cases hl : g.last with
  | none =>
    rw [hl, headOf_none] at hhead
    exact hordered.head?_le hhead hr
  | some l =>
    rw [hl, headOf_some, Option.or_eq_some_iff] at hhead
    simp only [hl, Option.getD_some] at hlast
    simp only [rotationPlace]
    rcases hhead with hfind | ⟨hnone, hhead⟩
    · have habove : l < q.ex := by simpa using List.find?_some hfind
      have hle : l < r.ex → q.ex ≤ r.ex := fun h => hordered.find?_le hfind hr (by simpa using h)
      omega
    · have hbelow : ∀ p ∈ g.wait, p.ex ≤ l := by simpa using hnone
      have hqr := hordered.head?_le hhead hr
      have hrl := hbelow r hr
      omega

/-- Exhibits at the same place of the rotation are the same. -/
theorem WaitOrdered.eq_of_rotationPlace_eq (hq : q ∈ g.wait) (hr : r ∈ g.wait)
    (hplace : rotationPlace g.last q.ex = rotationPlace g.last r.ex) : q = r := by
  have ⟨_, hbound, hlast⟩ := hordered
  have hqlt := hbound q hq
  have hrlt := hbound r hr
  refine hordered.eq_of_ex_eq hq hr ?_
  cases hl : g.last with
  | none => simpa [hl, rotationPlace] using hplace
  | some l =>
    simp only [hl, rotationPlace, Option.getD_some] at hplace hlast
    omega

/-- The request that comes first in the rotation is the head of the ordered wait list (R140). -/
theorem WaitOrdered.headOf_eq (hfirst : FirstInRotation g r) : headOf g.last g.wait = some r := by
  obtain ⟨hr, hle⟩ := hfirst
  cases hhead : headOf g.last g.wait with
  | none => exact absurd hr (headOf_eq_none_iff.1 hhead ▸ List.not_mem_nil)
  | some q =>
    obtain ⟨hq, hqle⟩ := hordered.firstInRotation_of_headOf hhead
    rw [hordered.eq_of_rotationPlace_eq hq hr (le_antisymm (hqle r hr) (hle q hq))]

end

/-! ### Evaluations (R140, R142) -/

section
variable {g : Nat} {r : Request} {s : State}

theorem evaluateLoop_of_none (n : Nat) (hhead : headOf (s.group g).last (s.group g).wait = none) :
    evaluateLoop n g s = s := by
  cases n with
  | zero => rfl
  | succ n => simp [evaluateLoop, hhead]

/-- A booked request leaves the wait list shorter. -/
theorem book_wait_length_lt (hr : r ∈ (s.group g).wait) :
    ((book g r s).group g).wait.length < (s.group g).wait.length := by
  rw [book_group]
  exact List.length_filter_lt_length_iff_exists.2 ⟨r, hr, by simp⟩

/-- The loop ends by itself, at any bound that the wait list's length does not exceed. -/
theorem evaluateLoop_eq_of_le {n m : Nat} (hn : (s.group g).wait.length ≤ n) (hm : (s.group g).wait.length ≤ m) :
    evaluateLoop n g s = evaluateLoop m g s := by
  have hstops : ∀ {k : Nat} {u : State}, (u.group g).wait.length ≤ 0 → evaluateLoop k g u = u := fun hlen =>
    evaluateLoop_of_none _ (headOf_eq_none_iff.2 (List.length_eq_zero_iff.1 (Nat.le_zero.1 hlen)))
  induction n generalizing m s with
  | zero => rw [hstops hn, hstops hn]
  | succ n ih =>
    cases m with
    | zero => rw [hstops hm, hstops hm]
    | succ m =>
      unfold evaluateLoop
      split
      · rfl
      · next q hq =>
        have hlt := book_wait_length_lt (headOf_mem hq)
        split
        · exact ih (by omega) (by omega)
        · rfl

/-- An evaluation with nothing waiting changes nothing. -/
theorem evaluate_of_nil (hnil : (s.group g).wait = []) : evaluate g s = s :=
  evaluateLoop_of_none _ (headOf_eq_none_iff.2 hnil)

section
variable (hhead : headOf (s.group g).last (s.group g).wait = some r)
include hhead

/-- An evaluation takes its first step at the head of the wait list. -/
theorem evaluate_of_head : evaluate g s =
    if (s.group g).granted + r.units ≤ (s.group g).budget then evaluate g (book g r s) else s := by
  have hlt := book_wait_length_lt (headOf_mem hhead)
  obtain ⟨n, hn⟩ : ∃ n, (s.group g).wait.length = n + 1 := Nat.exists_eq_add_one.2 (by omega)
  rw [evaluate, hn, evaluateLoop, hhead]
  dsimp only
  rw [evaluate, evaluateLoop_eq_of_le (by omega) le_rfl]

/-- An evaluation ends at a head that does not fit (R140). -/
theorem evaluate_of_over (hover : (s.group g).budget < (s.group g).granted + r.units) : evaluate g s = s := by
  rw [evaluate_of_head hhead, if_neg (Nat.not_le.2 hover)]

/-- An evaluation grants a head that fits and goes on (R140). -/
theorem evaluate_of_fits (hfits : (s.group g).granted + r.units ≤ (s.group g).budget) :
    evaluate g s = evaluate g (book g r s) := by
  rw [evaluate_of_head hhead, if_pos hfits]

end

variable (g r s)

theorem book_group_other {j : Nat} (hj : j ≠ g) : (book g r s).group j = s.group j :=
  State.modGroup_group_other s g j (fun x =>
    { x with granted := x.granted + r.units, wait := x.wait.filter (fun q => q.ex != r.ex),
             last := some r.ex }) hj

theorem book_ex : (book g r s).ex r.ex = { s.ex r.ex with units := (s.ex r.ex).units + r.units } :=
  State.modEx_ex_same s r.ex (fun x => { x with units := x.units + r.units })

theorem book_otherExhibits : OtherExhibits r.ex s (book g r s) := fun j hj =>
  State.modEx_ex_other s r.ex j (fun x => { x with units := x.units + r.units }) hj

end

/-! ### Requests, withdrawals and returns (R139, R143, R144) -/

/-- A group record changed, with the notice that each act of the arbiter sets (R149). -/
def regrouped (g : Nat) (f : Group → Group) (s : State) : State := setNotice noticeExhibits (s.modGroup g f)

section
variable (g : Nat) (f : Group → Group) (s : State)

theorem regrouped_group : (regrouped g f s).group g = f (s.group g) := State.modGroup_group_same ..

theorem regrouped_group_other (j : Nat) (hj : j ≠ g) : (regrouped g f s).group j = s.group j :=
  State.modGroup_group_other s _ _ _ hj

theorem regrouped_keptBut : KeptBut [.groups, .notice] s (regrouped g f s) :=
  ((State.modGroup_keptBut s g f).mono (by decide)).trans ((setNotice_keptBut _ _).mono (by decide))

end

/-- A request put in its place leaves the wait list ordered where its exhibit has no other (R138). -/
theorem insertRequest_pairwise {r : Request} {l : List Request} (hl : l.Pairwise (fun a b => a.ex < b.ex))
    (hnone : ∀ q ∈ l, q.ex ≠ r.ex) : (insertRequest r l).Pairwise (fun a b => a.ex < b.ex) := by
  induction l with
  | nil => exact List.pairwise_singleton ..
  | cons q l ih =>
    obtain ⟨hq, hrest⟩ := List.pairwise_cons.1 hl
    obtain ⟨hqr, hnone⟩ := List.forall_mem_cons.1 hnone
    unfold insertRequest
    split
    · next hlt =>
      exact List.pairwise_cons.2 ⟨List.forall_mem_cons.2 ⟨hlt, fun p hp => hlt.trans (hq p hp)⟩, hl⟩
    · next hle =>
      refine List.pairwise_cons.2 ⟨fun p hp => ?_, ih hrest hnone⟩
      rcases mem_insertRequest.1 hp with rfl | hp
      · omega
      · exact hq p hp

/-- A wait list with a request in its exhibit's place (R139). -/
def Group.placed (r : Request) (x : Group) : Group :=
  { x with wait := insertRequest r (x.wait.filter (fun q => q.ex != r.ex)) }

theorem Group.mem_placed_wait {r q : Request} {x : Group} :
    q ∈ (x.placed r).wait ↔ q = r ∨ (q ∈ x.wait ∧ q.ex ≠ r.ex) := by
  simp [placed, mem_insertRequest]

theorem Group.placed_ordered {r : Request} {x : Group} (hordered : WaitOrdered x) (hr : r.ex < 32) :
    WaitOrdered (x.placed r) := by
  obtain ⟨hpairs, hbound, hlast⟩ := hordered
  refine ⟨insertRequest_pairwise (hpairs.filter _) (by simp), fun q hq => ?_, hlast⟩
  rcases mem_placed_wait.1 hq with rfl | ⟨hq, -⟩
  · exact hr
  · exact hbound q hq

section
variable (v : State) (e n : Nat) (p : Purpose)

/-- A request within the budget takes its exhibit's place, and the group is evaluated (R139). -/
theorem request_placed (hwithin : n ≤ (v.group (v.ex e).group).budget) : request e n p v =
    (evaluate (v.ex e).group (regrouped (v.ex e).group (Group.placed ⟨e, n, p⟩) v), false) :=
  if_neg (Nat.not_lt.2 hwithin)

theorem withdraw_of_none (hreq : v.request e = none) : withdraw e v = v := by
  simp [withdraw, hreq]

/-- A withdrawal takes the entry out, and the group is evaluated (R144). -/
theorem withdraw_of_some (hreq : v.request e ≠ none) : withdraw e v =
    evaluate (v.ex e).group (regrouped (v.ex e).group
      (fun x => { x with wait := x.wait.filter (fun q => q.ex != e) }) v) := by
  obtain ⟨r, hr⟩ := Option.ne_none_iff_exists'.1 hreq
  simp only [withdraw, hr]
  rfl

/-- An exhibit's holding with units taken from it (R143). -/
def unitsTaken : State := v.modEx e (fun x => { x with units := x.units - n })

theorem unitsTaken_ex : (unitsTaken v e n).ex e = { v.ex e with units := (v.ex e).units - n } :=
  State.modEx_ex_same v e (fun x => { x with units := x.units - n })

theorem unitsTaken_otherExhibits : OtherExhibits e v (unitsTaken v e n) := fun j hj =>
  State.modEx_ex_other v e j (fun x => { x with units := x.units - n }) hj

theorem unitsTaken_keptBut : KeptBut [.exhibits] v (unitsTaken v e n) := State.modEx_keptBut _ _ _

/-- A return takes the units from the holding and from the granted units, and the group is evaluated (R143). -/
theorem returnUnits_of_pos (hn : 0 < n) : returnUnits e n v =
    evaluate (v.ex e).group (regrouped (v.ex e).group (fun x => { x with granted := x.granted - n })
      (unitsTaken v e n)) :=
  if_neg (Nat.pos_iff_ne_zero.1 hn)

end

end Sys2Proof.Machine
end

section
/-! PROOFS. Nothing that follows an event changes a group's budget: only SET BUDGET does (R138, R146). -/

namespace Sys2Proof.Machine

/-- The budget of every power group. -/
def State.budgets (s : State) : Nat → Nat := fun g => (s.group g).budget

/-! ### Single updates -/

/-- An operation that keeps the group records keeps the budgets. -/
theorem KeptBut.budgets {fs : List Field} {s t : State} (h : KeptBut fs s t) (hf : Field.groups ∉ fs) :
    t.budgets = s.budgets :=
  funext fun g => congrArg Group.budget (h.group hf g)

section
variable (s : State)

@[simp] theorem State.modEx_budgets (e : Nat) (f : Exhibit → Exhibit) : (s.modEx e f).budgets = s.budgets := rfl
@[simp] theorem State.modCh_budgets (c : Nat) (f : Channel → Channel) : (s.modCh c f).budgets = s.budgets := rfl
@[simp] theorem setNotice_budgets (n : BitVec 6) : (setNotice n s).budgets = s.budgets := rfl
@[simp] theorem with_handed_budgets (l : List Handed) : State.budgets { s with handed := l } = s.budgets := rfl
@[simp] theorem publish_budgets : (publish s).budgets = s.budgets := rfl
@[simp] theorem publishExhibit_budgets (e : Nat) : (publishExhibit e s).budgets = s.budgets := rfl
@[simp] theorem complete_budgets (k : Nat) (o : OrderOutcome) (r : Word) :
    (complete k o r s).budgets = s.budgets := rfl

/-- A change of a group record that leaves its budget. -/
theorem State.modGroup_budgets (g : Nat) (f : Group → Group) (hf : (f (s.group g)).budget = (s.group g).budget) :
    (s.modGroup g f).budgets = s.budgets := by
  funext j
  by_cases hj : j = g
  · subst hj; simpa [State.budgets] using hf
  · simp [State.budgets, State.modGroup_group_other _ _ _ _ hj]

end

/-- A fold of operations that keep the budgets keeps them. -/
theorem budgets_foldl {α : Type} (f : State → α → State) (h : ∀ s a, (f s a).budgets = s.budgets)
    (l : List α) (s : State) : (l.foldl f s).budgets = s.budgets := by
  induction l generalizing s with
  | nil => rfl
  | cons a l ih => rw [List.foldl_cons, ih, h]

section
variable (e : Nat) (s : State)

/-! ### The load arbiter -/

@[simp] theorem evaluate_budgets (g : Nat) : (evaluate g s).budgets = s.budgets := funext (evaluate_budget g s)

@[simp] theorem withdraw_budgets : (withdraw e s).budgets = s.budgets := funext (withdraw_budget e s)

@[simp] theorem request_budgets (n : Nat) (p : Purpose) : (request e n p s).1.budgets = s.budgets := by
  unfold request
  dsimp only
  split
  · simp
  · simp only [evaluate_budgets, setNotice_budgets]
    exact State.modGroup_budgets _ _ _ rfl

@[simp] theorem returnUnits_budgets (n : Nat) : (returnUnits e n s).budgets = s.budgets := by
  unfold returnUnits
  split
  · rfl
  · simp only [evaluate_budgets, setNotice_budgets]
    exact (State.modGroup_budgets _ _ _ rfl).trans (State.modEx_budgets ..)

@[simp] theorem returnRun_budgets : (returnRun e s).budgets = s.budgets := returnUnits_budgets ..

@[simp] theorem returnAll_budgets : (returnAll e s).budgets = s.budgets := returnUnits_budgets ..

/-! ### Axes, states and endings -/

@[simp] theorem modAxes_budgets (f : AxisRec → Channel → Channel) : (modAxes e f s).budgets = s.budgets :=
  (modAxes_keptBut s e f).budgets (by decide)

@[simp] theorem enter_budgets (st : ExState) : (enter e st s).budgets = s.budgets := rfl

@[simp] theorem startRest_budgets : (startRest e s).budgets = s.budgets :=
  (startRest_keptBut e s).budgets (by decide)

@[simp] theorem completeAll_budgets (ks : List Nat) (o : OrderOutcome) : (completeAll ks o s).budgets = s.budgets :=
  budgets_foldl _ (fun _ _ => by rfl) _ _

@[simp] theorem completeOrigin_budgets (p : Origin) (o : OrderOutcome) (r : Word) :
    (completeOrigin p o r s).budgets = s.budgets :=
  (completeOrigin_keptBut s p o r).budgets (by decide)

@[simp] theorem decUse_budgets (r : Nat) : (decUse r s).budgets = s.budgets :=
  (decUse_keptBut s r).budgets (by decide)

@[simp] theorem endRun_budgets (o : OrderOutcome) : (endRun e o s).budgets = s.budgets := by
  unfold endRun
  split
  · rfl
  · dsimp only
    split <;> simp

@[simp] theorem dropQueued_budgets (o : OrderOutcome) : (dropQueued e o s).budgets = s.budgets :=
  (dropQueued_keptBut s e o).budgets (by decide)

@[simp] theorem endHomingOrder_budgets (o : OrderOutcome) : (endHomingOrder e o s).budgets = s.budgets :=
  (endHomingOrder_keptBut e s o).budgets (by decide)

@[simp] theorem endStopOrders_budgets (o : OrderOutcome) : (endStopOrders e o s).budgets = s.budgets :=
  completeAll_budgets ..

@[simp] theorem endLockOrders_budgets (o : OrderOutcome) : (endLockOrders e o s).budgets = s.budgets :=
  completeAll_budgets ..

@[simp] theorem lockDown_budgets : (lockDown e s).budgets = s.budgets := by simp [lockDown, deenergiseAxes]

/-! ### Faults -/

@[simp] theorem raiseCause_budgets (c : Cause) (v : Nat) : (raiseCause e c v s).budgets = s.budgets :=
  (raiseCause_keptBut e c v s).budgets (by decide)

@[simp] theorem firstFault_budgets (r : FaultReport) : (firstFault e r s).budgets = s.budgets := by
  simp [firstFault, tripAxes, releaseAxes]

@[simp] theorem takeFault_budgets (r : FaultReport) : (takeFault e r s).budgets = s.budgets := by
  unfold takeFault
  dsimp only
  split
  · rfl
  · split
    · rfl
    · split <;> simp

@[simp] theorem energiseFault_budgets : (energiseFault e s).budgets = s.budgets := by
  unfold energiseFault
  split
  · simp
  · rfl

@[simp] theorem checkFault_budgets (b : Bool) (r : FaultReport) : (checkFault e b r s).budgets = s.budgets := by
  unfold checkFault
  dsimp only
  split
  · split <;> simp
  · simp

/-! ### Runs -/

@[simp] theorem modRun_budgets (f : Run → Run) : (modRun e f s).budgets = s.budgets := rfl

@[simp] theorem formWaypoint_budgets : (formWaypoint e s).budgets = s.budgets :=
  formWaypoint_keptBut.budgets (by decide)

@[simp] theorem arrivedAll_budgets : (arrivedAll e s).1.budgets = s.budgets := by
  unfold arrivedAll
  split
  · rfl
  · simp

@[simp] theorem startRunAxes_budgets (r : Run) (l : List AxisRec) : (startRunAxes e r l s).budgets = s.budgets :=
  budgets_foldl _ (fun _ _ => by rfl) _ _

@[simp] theorem waypointGranted_budgets (b : Bool) : (waypointGranted e b s).1.budgets = s.budgets := by
  unfold waypointGranted
  split
  · rfl
  · extract_lets s1 s2 axes
    have htaken : s2.budgets = s.budgets :=
      ((completeAtGrant_keptBut e _).budgets (by decide)).trans ((pulseCue_keptBut s1 _).budgets (by decide))
    split
    · exact (checkFault_budgets ..).trans htaken
    · next s3 _ _ =>
      have hstarted : s3.budgets = s.budgets := (startRunAxes_budgets ..).trans htaken
      split
      · simpa using hstarted
      · split
        · exact (arrivedAll_budgets ..).trans hstarted
        · exact hstarted

@[simp] theorem beginOnce_budgets : (beginOnce e s).1.budgets = s.budgets := by
  unfold beginOnce
  split
  · rfl
  · dsimp only
    split <;> simp

@[simp] theorem beginQueued_budgets (q : Queued) : (beginQueued e q s).budgets = s.budgets := rfl

@[simp] theorem readyContinue_budgets : (readyContinue e s).1.budgets = s.budgets := by
  unfold readyContinue
  split
  · split <;> simp
  · simp

@[simp] theorem runRefused_budgets : (runRefused e s).budgets = s.budgets := by simp [runRefused, releaseAxes]

@[simp] theorem beginWaypoint_budgets : (beginWaypoint e s).1.budgets = s.budgets := by
  have hbegun := beginOnce_budgets e s
  unfold beginWaypoint
  split
  · next heq => simpa [heq] using hbegun
  · next heq => simpa [heq] using hbegun
  · next s1 heq =>
    have hready := readyContinue_budgets e (runRefused e s1)
    rw [heq] at hbegun
    rw [runRefused_budgets, hbegun] at hready
    split
    · next heq2 => simpa [heq2] using hready
    · next s2 heq2 =>
      have hagain := beginOnce_budgets e s2
      rw [heq2] at hready
      rw [hready] at hagain
      split
      · next heq3 => simpa [heq3] using hagain
      · next heq3 => simpa [heq3] using hagain
      · next heq3 => simpa [heq3] using hagain

@[simp] theorem advanceRun_budgets : (advanceRun e s).1.budgets = s.budgets := by
  unfold advanceRun
  split
  · rfl
  · extract_lets n
    split
    · rfl
    · split
      · rfl
      · split
        · rfl
        · simp [finishRun]

@[simp] theorem afterDwell_budgets : (afterDwell e s).1.budgets = s.budgets := by
  unfold afterDwell
  split
  · rfl
  · dsimp only
    split <;> simp

@[simp] theorem dwellChain_budgets (n : Nat) : (dwellChain n e s).budgets = s.budgets := by
  induction n generalizing s with
  | zero => rfl
  | succ n ih =>
    have hdwelt := afterDwell_budgets e s
    unfold dwellChain
    split
    · next heq => simpa [heq] using hdwelt
    · next s1 heq =>
      have hbegun := beginWaypoint_budgets e s1
      rw [heq] at hdwelt
      rw [hdwelt] at hbegun
      split
      · next heq2 => simpa [heq2] using hbegun
      · next heq2 => simpa [heq2, ih] using hbegun

@[simp] theorem goWaypoint_budgets : (goWaypoint e s).budgets = s.budgets := by
  have hbegun := beginWaypoint_budgets e s
  unfold goWaypoint
  split
  · next heq => simpa [heq] using hbegun
  · next heq => simpa [heq] using hbegun

@[simp] theorem goBegun_budgets (x : State × Begun) : (goBegun e x).budgets = x.1.budgets := by
  unfold goBegun
  split
  · simp
  · rfl

@[simp] theorem readyNow_budgets : (readyNow e s).budgets = s.budgets := by
  have hready := readyContinue_budgets e s
  unfold readyNow
  split
  · next heq => simpa [heq] using hready
  · next heq => simpa [heq] using hready

/-! ### Homing, wakes and resumptions -/

@[simp] theorem homingEnd_budgets : (homingEnd e s).budgets = s.budgets := by simp [homingEnd, toReady]

@[simp] theorem homeAxes_budgets (b : Bool) (l : List AxisRec) : (homeAxes e b l s).budgets = s.budgets := by
  unfold homeAxes
  split
  · simp
  · extract_lets s1 s2 s3
    have hstarted : s3.budgets = s.budgets := budgets_foldl _ (fun _ _ => by rfl) _ _
    split
    · exact (homingEnd_budgets ..).trans hstarted
    · exact hstarted

@[simp] theorem homingGranted_budgets : (homingGranted e s).budgets = s.budgets := by
  unfold homingGranted
  dsimp only
  split <;> simp [releaseAxes, energiseAxes]

@[simp] theorem homingRefused_budgets : (homingRefused e s).budgets = s.budgets := by simp [homingRefused]

@[simp] theorem wakeGranted_budgets : (wakeGranted e s).budgets = s.budgets := by
  unfold wakeGranted
  dsimp only
  split
  · simp [energiseAxes]
  · split <;> simp [energiseAxes]

@[simp] theorem wakeRefused_budgets : (wakeRefused e s).budgets = s.budgets := dropQueued_budgets ..

@[simp] theorem resumeGranted_budgets : (resumeGranted e s).1.budgets = s.budgets := by
  unfold resumeGranted
  split
  · rfl
  · split
    · simp
    · dsimp only
      split
      · simp
      · exact budgets_foldl _ (fun _ _ => by rfl) _ _

/-! ### What is handed, and the end of an event -/

@[simp] theorem takeGrant_budgets (p : Purpose) : (takeGrant e p s).budgets = s.budgets := by
  cases p with
  | waypoint => simp only [takeGrant]; split <;> simp
  | homing => simp only [takeGrant]; split <;> simp
  | resume =>
    simp only [takeGrant, resumeHoming]
    split
    · simp
    · split <;> simp
  | wake => simp only [takeGrant]; split <;> simp

@[simp] theorem deliver_budgets (d : Handed) : (deliver d s).budgets = s.budgets := by
  cases d with
  | grant e p => exact takeGrant_budgets e s p
  | overrun e r => exact takeFault_budgets e s r

theorem settleLoop_budgets (n : Nat) : (settleLoop n s).budgets = s.budgets := by
  induction n generalizing s with
  | zero => rfl
  | succ n ih =>
    unfold settleLoop
    split
    · rfl
    · simp [ih]

@[simp] theorem closeEvent_budgets : (closeEvent s).budgets = s.budgets := settleLoop_budgets ..

/-! ### Requests that SET BUDGET refuses (R145, R146) -/

theorem refuseWaiting_budgets (r : Request) : (refuseWaiting r s).budgets = s.budgets := by
  unfold refuseWaiting
  cases r.purpose with
  | waypoint => simp
  | homing => simp
  | wake => simp
  | resume => dsimp only; split <;> simp

theorem afterRefusal_budgets (r : Request) : (afterRefusal r s).budgets = s.budgets := by
  unfold afterRefusal
  split
  · simp
  · rfl

end

end Sys2Proof.Machine
end

section
/-! PROOFS. SET BUDGET, and the arbiter's acts in any state (R139 to R147). -/

namespace Sys2Proof.Machine

/-! ### SET BUDGET -/

/-- SET BUDGET is read from its slot as written. -/
theorem readOrder_setBudget (h : OrderHead) (g : Byte) (b : Half) :
    readOrder (hostFieldsOf h (.setBudget g b)).kind (hostFieldsOf h (.setBudget g b)).params =
      some (.setBudget g b) := by
  simp [hostFieldsOf, kindCodeOf, readOrder, paramBytes, paramField, halfBytes, peekHalf, byteOf_append_half]

/-- A group record with a new budget and without the requests over it (R146). -/
def Group.budgeted (b : Nat) (x : Group) : Group :=
  { x with budget := b, wait := x.wait.filter (fun r => decide (r.units ≤ b)) }

section
variable (k g b : Nat) (s : State)

/-- SET BUDGET is never refused by its own rule, and what follows its refusals changes no budget again; with nothing
waiting nothing follows (R146). -/
theorem budgetOrder_goes : ∃ t, budgetOrder k g b s = .go t ∧
    t.budgets = (s.modGroup g (Group.budgeted b)).budgets ∧
    ((s.group g).wait = [] →
      t = complete k .done (BitVec.ofNat 32 (s.group g).granted) (s.modGroup g (Group.budgeted b))) := by
  have hrefuse : ∀ (l : List Request) (u : State),
      (l.foldl (fun u r => publish (refuseWaiting r u)) u).budgets = u.budgets :=
    budgets_foldl _ fun u r => (publish_budgets _).trans (refuseWaiting_budgets u r)
  have hafter : ∀ (l : List Request) (u : State),
      (l.foldl (fun u r => afterRefusal r (closeEvent u)) u).budgets = u.budgets :=
    budgets_foldl _ fun u r => (afterRefusal_budgets _ r).trans (closeEvent_budgets u)
  refine ⟨_, rfl, ?_, fun hnil => ?_⟩
  · exact (hafter _ _).trans ((evaluate_budgets _ g).trans (hrefuse _ _))
  · have hnone : ((s.modGroup g (Group.budgeted b)).group g).wait = [] := by simp [Group.budgeted, hnil]
    have hsame : evaluate g (s.modGroup g (Group.budgeted b)) = s.modGroup g (Group.budgeted b) :=
      evaluate_of_nil hnone
    simp only [hnil, List.filter_nil, List.foldl_nil]
    refine (congrArg (fun w => complete k .done (BitVec.ofNat 32 (w.group g).granted) w) hsame).trans ?_
    simp [Group.budgeted]

end

section
variable {h : OrderHead} {g : Byte} {b : Half} {u : State}

@[simp] theorem accepted_group (c : OrderBody) (j : Nat) : (accepted h c u).group j = u.group j := rfl

/-- A SET BUDGET in range passes every check and is performed at its take. -/
theorem postAndTake_setBudget {t : State} (hmay : MayOrderGallery u h) (huntimed : Untimed h) (hg : g.toNat ≤ 3)
    (hb : b.toNat ≤ 1023)
    (hgo : budgetOrder h.slot.val g.toNat b.toNat (accepted h (.setBudget g b) u) = .go t) :
    postAndTake h (.setBudget g b) u = t := by
  obtain ⟨hopen, hsource⟩ := hmay
  have hparams : paramsOk (.setBudget g b) = true := by simp [paramsOk, inRange, hg, hb]
  exact postAndTake_of_go hopen (readOrder_setBudget h g b)
    (takeRefusal_none (readOrder_setBudget h g b) (exhibitCheck_gallery _ rfl (by simp) (by simp))
      ((accessAllowed_gallery _ _ rfl).trans hsource) hparams huntimed)
    huntimed (by simp [kindCodeOf]) hgo

end

/-- What an accepted SET BUDGET comes to: the budget set, and with nothing waiting nothing else (R146, R147). -/
theorem setBudget_sets {h : OrderHead} {g : Byte} {b : Half} {s : State} (hmay : MayOrderGallery (settle s) h)
    (huntimed : Untimed h) (hg : g.toNat ≤ 3) (hb : b.toNat ≤ 1023) :
    ∃ t, exec (.setBudget h g b) s = .next t ∧ (t.group g.toNat).budget = b.toNat ∧
      (((settle s).group g.toNat).wait = [] →
        SlotDone (settle s) t h (.setBudget g b) (BitVec.ofNat 32 ((settle s).group g.toNat).granted) ∧
        t.group g.toNat = { (settle s).group g.toNat with budget := b.toNat } ∧
        (∀ j, j ≠ g.toNat → t.group j = (settle s).group j) ∧ OtherSlots h.slot.val (settle s) t ∧
        KeptBut (.groups :: orderFields) (settle s) t) := by
  obtain ⟨t, hgo, hbudgets, hquiet⟩ :=
    budgetOrder_goes h.slot.val g.toNat b.toNat (accepted h (.setBudget g b) (settle s))
  refine ⟨publish t, exec_orderCommand (postAndTake_setBudget hmay huntimed hg hb hgo), ?_, fun hnil => ?_⟩
  · refine (congrFun hbudgets g.toNat).trans ?_
    simp [State.budgets, Group.budgeted]
  · obtain rfl := hquiet hnil
    refine ⟨slotDone_of_complete (accepted_take h _ _) rfl, ?_, fun j hj => ?_,
      otherSlots_publish_complete fun _ => State.modGroup_slot .., ?_⟩
    · simp [Group.budgeted, hnil]
    · simp [State.modGroup_group_other _ _ _ _ hj]
    · exact ((keptBut_accepted (by decide)).trans
        ((State.modGroup_keptBut _ _ _).mono (by decide))).publish_complete (by decide) _ _ _

/-- Settles O34: a SET BUDGET performs one update of its group's budget, which nothing that follows changes; the
arbiter's acts are each one update of a group record and an evaluation, which grants the head of the wait list. -/
theorem setBudgetSetsTheBudget : Obligations.SetBudgetSetsTheBudget := by
  refine ⟨fun h g b s => setBudget_sets, fun v g => ⟨evaluate_of_nil, fun r hordered hfirst => ?_⟩,
    fun v e n p => ⟨fun hover => ?_, fun hwithin => ?_, withdraw_of_none v e, fun hreq => ?_, fun hn => if_pos hn,
      fun hn => ?_⟩⟩
  · have hhead := hordered.headOf_eq hfirst
    exact ⟨evaluate_of_over hhead, fun hfits => ⟨book g r v, evaluate_of_fits hhead hfits, book_group g r v,
      fun _ => book_group_other g r v, book_ex g r v, book_otherExhibits g r v, book_handed g r v, rfl,
      (book_keptBut v g r).mono (by decide)⟩⟩
  · rw [request_over e v hover]
    refine ⟨rfl, fun hreq => ?_⟩
    rw [withdraw_of_none (setNotice noticeExhibits v) e hreq]
    exact ⟨rfl, setNotice_keptBut _ v⟩
  · refine ⟨_, _, request_placed v e n p hwithin, regrouped_group .., fun q => Group.mem_placed_wait,
      fun hordered he => ?_, regrouped_group_other _ _ v, rfl, regrouped_keptBut _ _ v⟩
    rw [regrouped_group]
    exact Group.placed_ordered hordered he
  · exact ⟨_, withdraw_of_some v e hreq, regrouped_group .., regrouped_group_other _ _ v, rfl,
      regrouped_keptBut _ _ v⟩
  · exact ⟨_, returnUnits_of_pos v e n hn, regrouped_group .., regrouped_group_other _ _ (unitsTaken v e n),
      unitsTaken_ex v e n, unitsTaken_otherExhibits v e n, rfl,
      ((unitsTaken_keptBut v e n).mono (by decide)).trans ((regrouped_keptBut _ _ _).mono (by decide))⟩

end Sys2Proof.Machine
end

section
/-! PROOFS. Orders that perform one effect and complete DONE: the slot, and what the effect leaves alone (R185).
SET ZONE stores the zone, or is refused where the beacon table has no room (R154, R167). -/

namespace Sys2Proof.Machine

/-! ### One effect, then DONE -/

section
variable {h : OrderHead} {b : OrderBody} {u v : State} {fs : List Field} {r : Word}

/-- An effect that leaves the slots alone, completed DONE: the order's slot shows it, and the frame is the effect's
own beside the order unit's fields. -/
theorem done_of_effect (hv : KeptBut fs (accepted h b u) v) (hslots : Field.slots ∉ fs)
    (hlast : Field.lastTaken ∉ fs) :
    SlotDone u (publish (complete h.slot.val .done r v)) h b r ∧
      OtherSlots h.slot.val u (publish (complete h.slot.val .done r v)) ∧
      KeptBut (fs ++ orderFields) u (publish (complete h.slot.val .done r v)) := by
  have hslot := hv.slot hslots
  refine ⟨slotDone_of_complete ?_ (hv .lastTaken hlast), otherSlots_publish_complete hslot, ?_⟩
  · rw [hslot]
    exact accepted_take h b u
  · have hsub : orderFields ⊆ fs ++ orderFields := List.subset_append_right ..
    exact ((keptBut_accepted hsub).trans (hv.mono (List.subset_append_left ..))).publish_complete hsub _ _ _

/-- A gallery-wide order of a source in the control mask, that names no exhibit, passes every check. -/
theorem takeRefusal_of_mayOrderGallery (hmay : MayOrderGallery u h) (huntimed : Untimed h)
    (hscope : scopeOf b = .gallery) (hbring : ∀ o, b ≠ .bringUp o) (haccess : ∀ m, b ≠ .setAccess m)
    (hparams : paramsOk b = true)
    (hread : readOrder (hostFieldsOf h b).kind (hostFieldsOf h b).params = some b) :
    takeRefusal u h.slot.val (hostFieldsOf h b) = none :=
  takeRefusal_none hread (exhibitCheck_gallery _ hscope hbring haccess)
    ((accessAllowed_gallery _ _ hscope).trans hmay.2) hparams huntimed

end

/-! ### The zone and beacon tables -/

section
variable (z : ZoneParams) (s : State)

theorem withZone_keptBut : KeptBut [.zones] s (withZone z s) := by
  intro g hg
  cases g <;> first | rfl | exact absurd List.mem_cons_self hg

theorem giveUpUnnamed_keptBut : KeptBut [.beacons] s (giveUpUnnamed s) :=
  .foldl _ (fun u b => by
    split
    · exact State.modBeacon_keptBut u _ _
    · exact .refl _ _) _ _

theorem claimAddr_keptBut (a : Nat) : KeptBut [.beacons] s (claimAddr a s) := by
  unfold claimAddr
  split
  · exact State.modBeacon_keptBut s _ _
  · split
    · exact .refl _ _
    · exact State.modBeacon_keptBut s _ _

theorem rechoose_keptBut (t : Nat → Bool) : KeptBut [.beacons] s (rechoose t s) :=
  .foldl _ (fun u b => by
    split
    · exact State.modBeacon_keptBut u _ _
    · exact .refl _ _) _ _

/-- After the zone is stored, SET ZONE changes beacon entries alone. -/
theorem applyZone_keptBut_withZone : KeptBut [.beacons] (withZone z s) (applyZone z s) := by
  unfold applyZone
  exact (giveUpUnnamed_keptBut _).trans <|
    (KeptBut.foldl _ (fun u a => claimAddr_keptBut u a) _ _).trans (rechoose_keptBut _ _)

theorem applyZone_keptBut : KeptBut [.zones, .beacons] s (applyZone z s) :=
  ((withZone_keptBut z s).mono (by decide)).trans ((applyZone_keptBut_withZone z s).mono (by decide))

theorem applyZone_zones : (applyZone z s).zones = store s.zones z.zone.toNat (zoneOf z) :=
  applyZone_keptBut_withZone z s .zones (by decide)

theorem applyZone_zone_same : (applyZone z s).zone z.zone.toNat = zoneOf z := by
  rw [State.zone, applyZone_zones, lookup_store_same]

theorem applyZone_zone_other {j : Nat} (hj : j ≠ z.zone.toNat) : (applyZone z s).zone j = s.zone j := by
  rw [State.zone, applyZone_zones, lookup_store_other _ _ _ _ _ hj, State.zone]

end

section
variable {s t : State}

/-- A fold of changes of beacon entries reads the beacon table alone. -/
theorem foldl_modBeacon_congr (hbeacons : t.beacons = s.beacons) (test : Nat → Bool) (f : Beacon → Beacon)
    (l : List Nat) :
    (l.foldl (fun u b => if test b then u.modBeacon b f else u) t).beacons =
      (l.foldl (fun u b => if test b then u.modBeacon b f else u) s).beacons := by
  induction l generalizing s t with
  | nil => exact hbeacons
  | cons b l ih =>
    refine ih ?_
    dsimp only
    split
    · simp [State.modBeacon, State.beacon, hbeacons]
    · exact hbeacons

/-- The named addresses are read from the zone table alone. -/
theorem namedAddrs_congr (hzones : t.zones = s.zones) : namedAddrs t = namedAddrs s := by
  have hzone : t.zone = s.zone := congrArg (lookup Zone.unset) hzones
  rw [namedAddrs, namedAddrs, hzones, hzone]

/-- Whether a SET ZONE would exceed the beacon table is read from the zone and beacon tables alone. -/
theorem zoneFull_congr (z : ZoneParams) (hzones : t.zones = s.zones) (hbeacons : t.beacons = s.beacons) :
    zoneFull z t = zoneFull z s := by
  have hstored : (withZone z t).zones = (withZone z s).zones := congrArg (store · _ _) hzones
  have hgiven : (giveUpUnnamed (withZone z t)).beacons = (giveUpUnnamed (withZone z s)).beacons := by
    have hkeys : (withZone z t).beacons = (withZone z s).beacons := hbeacons
    have hbeacon : (withZone z t).beacon = (withZone z s).beacon := congrArg (lookup Beacon.free) hkeys
    rw [giveUpUnnamed, namedAddrs_congr hstored, hbeacon, hkeys]
    exact foldl_modBeacon_congr hkeys _ _ _
  have hbeacon : (giveUpUnnamed (withZone z t)).beacon = (giveUpUnnamed (withZone z s)).beacon :=
    congrArg (lookup Beacon.free) hgiven
  have hnamed : namedAddrs (giveUpUnnamed (withZone z t)) = namedAddrs (giveUpUnnamed (withZone z s)) :=
    namedAddrs_congr <| (giveUpUnnamed_keptBut _ .zones (by decide)).trans <|
      hstored.trans (giveUpUnnamed_keptBut _ .zones (by decide)).symm
  rw [zoneFull, zoneFull, hnamed, hbeacon]

end

/-! ### SET ZONE -/

/-- SET ZONE is read from its slot as written. -/
theorem readOrder_setZone (h : OrderHead) (z : ZoneParams) :
    readOrder (hostFieldsOf h (.setZone z)).kind (hostFieldsOf h (.setZone z)).params = some (.setZone z) := by
  simp [hostFieldsOf, kindCodeOf, readOrder, paramBytes, paramField, addrBytes, halfBytes, zoneAt, addrsAt,
    peekHalf, byteOf_append_half]

section
variable {h : OrderHead} {z : ZoneParams} {u : State}

theorem zoneFull_accepted (b : OrderBody) : zoneFull z (accepted h b u) = zoneFull z u :=
  zoneFull_congr z rfl rfl

/-- A SET ZONE with parameters in range passes every check. -/
theorem takeRefusal_setZone (hmay : MayOrderGallery u h) (huntimed : Untimed h) (hz : zoneParamsOk z = true) :
    takeRefusal u h.slot.val (hostFieldsOf h (.setZone z)) = none :=
  takeRefusal_of_mayOrderGallery hmay huntimed rfl (by simp) (by simp) hz (readOrder_setZone h z)

/-- What a SET ZONE comes to where the beacon table has no room. -/
theorem postAndTake_setZone_full (hmay : MayOrderGallery u h) (huntimed : Untimed h)
    (hz : zoneParamsOk z = true) (hfull : zoneFull z u = true) :
    postAndTake h (.setZone z) u =
      refuseAtTake h.slot.val (hostFieldsOf h (.setZone z)) .full 0 (postedAndTaken h (.setZone z) u) := by
  refine postAndTake_of_refuse hmay.1 (readOrder_setZone h z) (takeRefusal_setZone hmay huntimed hz) huntimed ?_
  exact if_pos ((zoneFull_accepted _).trans hfull)

/-- What a SET ZONE comes to where the beacon table has room. -/
theorem postAndTake_setZone_stored (hmay : MayOrderGallery u h) (huntimed : Untimed h)
    (hz : zoneParamsOk z = true) (hroom : zoneFull z u = false) :
    postAndTake h (.setZone z) u =
      complete h.slot.val .done (BitVec.ofNat 32 (beaconsInUse (applyZone z (accepted h (.setZone z) u))))
        (applyZone z (accepted h (.setZone z) u)) := by
  refine postAndTake_of_go hmay.1 (readOrder_setZone h z) (takeRefusal_setZone hmay huntimed hz) huntimed
    (by simp [kindCodeOf]) ?_
  exact if_neg (by rw [zoneFull_accepted, hroom]; decide)

end

/-- Settles O35: whether the table has room is read before the order changes anything; with room the zone is stored
and only beacon entries change after it. -/
theorem setZoneStoresTheZone : Obligations.SetZoneStoresTheZone := by
  intro h z s u hmay huntimed hz
  refine ⟨fun hfull => ?_, fun hroom => ?_⟩
  · exact ⟨_, exec_orderCommand (postAndTake_setZone_full hmay huntimed hz hfull),
      refusedOnly_of_refuseAtTake (by decide)⟩
  · obtain ⟨hdone, hother, hkept⟩ := done_of_effect (r := BitVec.ofNat 32
      (beaconsInUse (applyZone z (accepted h (.setZone z) u)))) (applyZone_keptBut z _) (by decide) (by decide)
    exact ⟨_, exec_orderCommand (postAndTake_setZone_stored hmay huntimed hz hroom), hdone,
      applyZone_zone_same z _, fun j hj => applyZone_zone_other z _ hj, hother, hkept⟩

end Sys2Proof.Machine
end

section
/-! PROOFS. Causes raised, acknowledged and cleared by order: RAISE CALL, ACKNOWLEDGE CALL and CLEAR CALL (R152,
R153, R162 to R166). -/

namespace Sys2Proof.Machine

@[simp] theorem accepted_callEntry (h : OrderHead) (b : OrderBody) (u : State) (n : Nat) :
    (accepted h b u).callEntry n = u.callEntry n := rfl
@[simp] theorem accepted_zone (h : OrderHead) (b : OrderBody) (u : State) (z : Nat) :
    (accepted h b u).zone z = u.zone z := rfl

/-! ### One call changed and its beacons chosen again -/

section
variable (addrs : List Nat) (n : Nat) (f : CallEntry → CallEntry) (s : State)

theorem rechooseFor_modCall_same : (rechooseFor addrs (s.modCall n f)).callEntry n = f (s.callEntry n) := by
  rw [(rechooseFor_keptBut _ _).callEntry (by decide), State.modCall_callEntry_same]

theorem rechooseFor_modCall_other {j : Nat} (hj : j ≠ n) :
    (rechooseFor addrs (s.modCall n f)).callEntry j = s.callEntry j := by
  rw [(rechooseFor_keptBut _ _).callEntry (by decide), State.modCall_callEntry_other _ _ _ _ hj]

theorem rechooseFor_modCall_keptBut : KeptBut [.calls, .beacons] s (rechooseFor addrs (s.modCall n f)) :=
  ((State.modCall_keptBut _ _ _).mono (by decide)).trans ((rechooseFor_keptBut _ _).mono (by decide))

end

/-! ### A cause entered (R152, R153) -/

section
variable (n e : Nat) (c : Cause) (s : State)

theorem enterCall_ex_same (p : Pending) :
    (enterCall n e c p s).ex e = putCause ⟨c, .entered n⟩ (s.ex e) := by
  rw [enterCall, (rechooseFor_keptBut _ _).ex (by decide), State.modEx_ex_same, State.modCall_ex]

theorem enterCall_otherExhibits (p : Pending) : OtherExhibits e s (enterCall n e c p s) := fun j hj => by
  rw [enterCall, (rechooseFor_keptBut _ _).ex (by decide), State.modEx_ex_other _ _ _ _ hj, State.modCall_ex]

/-- A cause raised now rings at tier 1 in the entry that it enters, under the entry's next generation. -/
theorem enterCall_callEntry_same (sev : Nat) :
    (enterCall n e c ⟨s.tick, 0, sev, none⟩ s).callEntry n =
      ⟨((s.callEntry n).gen + 1) % 16, some (Call.mk e c sev 1 s.tick s.tick
        (some (after s.tick ((s.zone (s.ex e).call.zone).t1 * 1000))) 0 none)⟩ := by
  rw [enterCall, (rechooseFor_keptBut _ _).callEntry (by decide), State.modEx_callEntry,
    State.modCall_callEntry_same]

theorem enterCall_callEntry_other (p : Pending) {j : Nat} (hj : j ≠ n) :
    (enterCall n e c p s).callEntry j = s.callEntry j := by
  rw [enterCall, (rechooseFor_keptBut _ _).callEntry (by decide), State.modEx_callEntry,
    State.modCall_callEntry_other _ _ _ _ hj]

end

/-! ### The cases of a raised cause (R152) -/

/-- A pending cause raised again (R152). -/
def Pending.raisedAgain (sev : Nat) (p : Pending) : Pending :=
  { p with repeats := min 255 (p.repeats + 1), severity := max p.severity sev }

/-- A call whose cause is raised again (R152). -/
def Call.raisedAgain (sev : Nat) (c : Call) : Call :=
  { c with repeats := min 255 (c.repeats + 1), severity := max c.severity sev }

/-- No entry is FREE where all 48 hold calls. -/
theorem freeCall_of_full {s : State} (hfull : ∀ j, j < 48 → (s.callEntry j).call.isSome = true) :
    freeCall s = none :=
  List.find?_eq_none.2 fun j hj => by
    simpa [Option.isSome_iff_ne_none] using hfull j (List.mem_range.1 hj)

section
variable {s : State} {e : Nat} (sev : Nat)

theorem raiseCause_of_free {c : Cause} {n : Nat} (hnone : (s.ex e).causeRec c = none)
    (hfree : freeCall s = some n) :
    raiseCause e c sev s = enterCall n e c ⟨s.tick, 0, sev, none⟩ s := by
  simp only [raiseCause, hnone, hfree]

theorem raiseCause_of_full {c : Cause} (hnone : (s.ex e).causeRec c = none) (hfull : freeCall s = none) :
    raiseCause e c sev s = s.modEx e (putCause ⟨c, .pending ⟨s.tick, 0, sev, none⟩⟩) := by
  simp only [raiseCause, hnone, hfull]

theorem raiseCause_of_pending {d : Cause} {p : Pending}
    (hrec : (s.ex e).causeRec .ordered = some ⟨d, .pending p⟩) :
    raiseCause e .ordered sev s = s.modEx e (putCause ⟨.ordered, .pending (p.raisedAgain sev)⟩) := by
  simp only [raiseCause, hrec]
  rfl

theorem raiseCause_of_entered {d : Cause} {n : Nat} {c : Call}
    (hrec : (s.ex e).causeRec .ordered = some ⟨d, .entered n⟩) (hcall : (s.callEntry n).call = some c) :
    ∃ addrs, raiseCause e .ordered sev s =
      rechooseFor addrs (s.modCall n (fun x => { x with call := some (c.raisedAgain sev) })) := by
  refine ⟨beaconSet (s.modCall n (fun x => { x with call := some (c.raisedAgain sev) })) (c.raisedAgain sev), ?_⟩
  simp only [raiseCause, hrec, hcall]
  rfl

end

/-! ### RAISE CALL (R164) -/

/-- RAISE CALL is read from its slot as written. -/
theorem readOrder_raiseCall (h : OrderHead) (v : Byte) :
    readOrder (hostFieldsOf h (.raiseCall v)).kind (hostFieldsOf h (.raiseCall v)).params =
      some (.raiseCall v) := by
  simp [hostFieldsOf, kindCodeOf, readOrder, paramBytes, paramField]

section
variable {w : State} {e : Nat} {d : Cause}

theorem raiseWord_of_pending {p : Pending} (hrec : (w.ex e).causeRec .ordered = some ⟨d, .pending p⟩) :
    raiseWord w e = BitVec.ofNat 32 (255 + 65536 * p.repeats) := by
  simp only [raiseWord, hrec]

theorem raiseWord_of_entered {n : Nat} {c : Call} (hrec : (w.ex e).causeRec .ordered = some ⟨d, .entered n⟩)
    (hcall : (w.callEntry n).call = some c) : raiseWord w e = BitVec.ofNat 32 (n + 65536 * c.repeats) := by
  simp only [raiseWord, hrec, hcall, Option.map_some, Option.getD_some]

end

section
variable {h : OrderHead} {v : Byte} {u w : State} {fs : List Field}

/-- What an accepted RAISE CALL comes to. -/
theorem postAndTake_raiseCall (hmay : MayOrderExhibit u h) (huntimed : Untimed h) (hlow : 1 ≤ v.toNat)
    (hhigh : v.toNat ≤ 4)
    (hw : raiseCause (OrderHead.ex h) .ordered v.toNat (accepted h (.raiseCall v) u) = w) :
    postAndTake h (.raiseCall v) u = complete h.slot.val .done (raiseWord w (OrderHead.ex h)) w := by
  have hparams : paramsOk (.raiseCall v) = true := by simp [paramsOk, inRange, hlow, hhigh]
  subst hw
  exact postAndTake_of_go hmay.1 (readOrder_raiseCall h v)
    (takeRefusal_of_mayOrder hmay huntimed rfl hparams (readOrder_raiseCall h v)) huntimed
    (by simp [kindCodeOf]) rfl

/-- A RAISE CALL completes DONE with its result word, and beside the order's handling changes what the raised cause
changes. -/
theorem raiseCall_done {s : State} {r : Word} (hmay : MayOrderExhibit (settle s) h) (huntimed : Untimed h)
    (hlow : 1 ≤ v.toNat) (hhigh : v.toNat ≤ 4)
    (hw : raiseCause (OrderHead.ex h) .ordered v.toNat (accepted h (.raiseCall v) (settle s)) = w)
    (hkept : KeptBut fs (accepted h (.raiseCall v) (settle s)) w) (hslots : Field.slots ∉ fs)
    (hlast : Field.lastTaken ∉ fs) (hword : raiseWord w (OrderHead.ex h) = r) :
    ∃ t, exec (.raiseCall h v) s = .next t ∧ SlotDone (settle s) t h (.raiseCall v) r ∧
      (∀ j, t.ex j = w.ex j) ∧ (∀ j, t.callEntry j = w.callEntry j) ∧ OtherSlots h.slot.val (settle s) t ∧
      KeptBut (fs ++ orderFields) (settle s) t := by
  subst hword
  obtain ⟨hdone, hother, hframe⟩ :=
    done_of_effect (r := raiseWord w (OrderHead.ex h)) hkept hslots hlast
  exact ⟨_, exec_orderCommand (postAndTake_raiseCall hmay huntimed hlow hhigh hw), hdone, fun _ => rfl,
    fun _ => rfl, hother, hframe⟩

/-- A RAISE CALL of a cause that is not in the set enters the lowest FREE entry. -/
theorem raiseCall_enters {s : State} {n : Nat} (hmay : MayOrderExhibit (settle s) h) (huntimed : Untimed h)
    (hlow : 1 ≤ v.toNat) (hhigh : v.toNat ≤ 4)
    (hnone : ((settle s).ex (OrderHead.ex h)).causeRec .ordered = none) (hfree : freeCall (settle s) = some n) :
    ∃ t, exec (.raiseCall h v) s = .next t ∧ SlotDone (settle s) t h (.raiseCall v) (BitVec.ofNat 32 n) ∧
      (t.ex (OrderHead.ex h)).causeRec .ordered = some ⟨.ordered, .entered n⟩ ∧
      t.callEntry n = ⟨(((settle s).callEntry n).gen + 1) % 16, some (Call.mk (OrderHead.ex h) .ordered v.toNat 1
        (settle s).tick (settle s).tick (some (after (settle s).tick
          (((settle s).zone ((settle s).ex (OrderHead.ex h)).call.zone).t1 * 1000))) 0 none)⟩ ∧
      (∀ j, j ≠ n → t.callEntry j = (settle s).callEntry j) ∧ OtherExhibits (OrderHead.ex h) (settle s) t ∧
      OtherSlots h.slot.val (settle s) t ∧ KeptBut (callFields ++ orderFields) (settle s) t := by
  have hw := raiseCause_of_free (s := accepted h (.raiseCall v) (settle s)) v.toNat hnone hfree
  have hrec : ((enterCall n (OrderHead.ex h) .ordered ⟨(settle s).tick, 0, v.toNat, none⟩
      (accepted h (.raiseCall v) (settle s))).ex (OrderHead.ex h)).causeRec .ordered =
        some ⟨.ordered, .entered n⟩ := by
    rw [enterCall_ex_same, causeRec_putCause, if_pos rfl]
  have hentry := enterCall_callEntry_same n (OrderHead.ex h) .ordered (accepted h (.raiseCall v) (settle s)) v.toNat
  obtain ⟨t, hexec, hdone, hex, hcalls, hslots, hframe⟩ := raiseCall_done hmay huntimed hlow hhigh hw
    (enterCall_keptBut _ _ _ _ _) (by decide) (by decide) (raiseWord_of_entered hrec (congrArg CallEntry.call hentry))
  exact ⟨t, hexec, hdone, (hex _).symm ▸ hrec, (hcalls n).trans hentry,
    fun j hj => (hcalls j).trans (enterCall_callEntry_other _ _ _ _ _ hj),
    fun j hj => (hex j).trans (enterCall_otherExhibits _ _ _ _ _ j hj), hslots, hframe⟩

/-- A RAISE CALL that leaves the cause pending, new or raised again, has 255 as its call number. -/
theorem raiseCall_pends {s : State} {p : Pending} (hmay : MayOrderExhibit (settle s) h) (huntimed : Untimed h)
    (hlow : 1 ≤ v.toNat) (hhigh : v.toNat ≤ 4)
    (hw : raiseCause (OrderHead.ex h) .ordered v.toNat (accepted h (.raiseCall v) (settle s)) =
      (accepted h (.raiseCall v) (settle s)).modEx (OrderHead.ex h) (putCause ⟨.ordered, .pending p⟩)) :
    ∃ t, exec (.raiseCall h v) s = .next t ∧
      SlotDone (settle s) t h (.raiseCall v) (BitVec.ofNat 32 (255 + 65536 * p.repeats)) ∧
      (t.ex (OrderHead.ex h)).causeRec .ordered = some ⟨.ordered, .pending p⟩ ∧
      OtherExhibits (OrderHead.ex h) (settle s) t ∧ OtherSlots h.slot.val (settle s) t ∧
      KeptBut (.exhibits :: orderFields) (settle s) t := by
  have hrec : (((accepted h (.raiseCall v) (settle s)).modEx (OrderHead.ex h)
      (putCause ⟨.ordered, .pending p⟩)).ex (OrderHead.ex h)).causeRec .ordered =
        some ⟨.ordered, .pending p⟩ := by
    rw [State.modEx_ex_same, causeRec_putCause, if_pos rfl]
  obtain ⟨t, hexec, hdone, hex, -, hslots, hframe⟩ := raiseCall_done hmay huntimed hlow hhigh hw
    (State.modEx_keptBut _ _ _) (by decide) (by decide) (raiseWord_of_pending hrec)
  exact ⟨t, hexec, hdone, (hex _).symm ▸ hrec,
    fun j hj => (hex j).trans (State.modEx_otherExhibits _ _ _ j hj), hslots, hframe⟩

/-- A RAISE CALL of an entered cause repeats its call. -/
theorem raiseCall_repeats {s : State} {n : Nat} {d : Cause} {c : Call} (hmay : MayOrderExhibit (settle s) h)
    (huntimed : Untimed h) (hlow : 1 ≤ v.toNat) (hhigh : v.toNat ≤ 4)
    (hentered : ((settle s).ex (OrderHead.ex h)).causeRec .ordered = some ⟨d, .entered n⟩)
    (hcall : ((settle s).callEntry n).call = some c) :
    ∃ t, exec (.raiseCall h v) s = .next t ∧
      SlotDone (settle s) t h (.raiseCall v)
        (BitVec.ofNat 32 (n + 65536 * (c.raisedAgain v.toNat).repeats)) ∧
      t.callEntry n = ⟨((settle s).callEntry n).gen, some (c.raisedAgain v.toNat)⟩ ∧
      (∀ j, j ≠ n → t.callEntry j = (settle s).callEntry j) ∧ t.exhibits = (settle s).exhibits ∧
      OtherSlots h.slot.val (settle s) t ∧ KeptBut ([.calls, .beacons] ++ orderFields) (settle s) t := by
  obtain ⟨addrs, hw⟩ :=
    raiseCause_of_entered (s := accepted h (.raiseCall v) (settle s)) v.toNat hentered hcall
  have hkept := rechooseFor_modCall_keptBut addrs n (fun x => { x with call := some (c.raisedAgain v.toNat) })
    (accepted h (.raiseCall v) (settle s))
  have hentry := rechooseFor_modCall_same addrs n (fun x => { x with call := some (c.raisedAgain v.toNat) })
    (accepted h (.raiseCall v) (settle s))
  have hrec := (congrArg (·.causeRec Cause.ordered) (hkept.ex (by decide) (OrderHead.ex h))).trans hentered
  obtain ⟨t, hexec, hdone, -, hcalls, hslots, hframe⟩ := raiseCall_done hmay huntimed hlow hhigh hw hkept
    (by decide) (by decide) (raiseWord_of_entered hrec (congrArg CallEntry.call hentry))
  exact ⟨t, hexec, hdone, (hcalls n).trans hentry,
    fun j hj => (hcalls j).trans (rechooseFor_modCall_other _ _ _ _ hj), hframe .exhibits (by decide), hslots, hframe⟩

end

/-- Settles O37: a cause raised is new, pending, or entered (R152), and each case leaves one record, which the result
word reads. -/
theorem raiseCallRaisesOrdered : Obligations.RaiseCallRaisesOrdered := by
  intro h v s u e rest hmay huntimed hlow hhigh
  refine ⟨fun n hnone hn hfree hbelow => ?_, fun hnone hfull => ?_, fun p hpending => ?_,
    fun n c hentered hcall => ?_⟩
  · exact raiseCall_enters hmay huntimed hlow hhigh hnone (freeCall_of_lowest hn hfree hbelow)
  · exact raiseCall_pends hmay huntimed hlow hhigh (raiseCause_of_full _ hnone (freeCall_of_full hfull))
  · exact raiseCall_pends hmay huntimed hlow hhigh (raiseCause_of_pending _ hpending)
  · exact raiseCall_repeats hmay huntimed hlow hhigh hentered hcall

/-! ### ACKNOWLEDGE CALL and CLEAR CALL (R165, R166) -/

/-- ACKNOWLEDGE CALL is read from its slot as written. -/
theorem readOrder_ackCall (h : OrderHead) (c : Byte) :
    readOrder (hostFieldsOf h (.ackCall c)).kind (hostFieldsOf h (.ackCall c)).params = some (.ackCall c) := by
  simp [hostFieldsOf, kindCodeOf, readOrder, paramBytes, paramField]

/-- CLEAR CALL is read from its slot as written. -/
theorem readOrder_clearCall (h : OrderHead) (c : Byte) :
    readOrder (hostFieldsOf h (.clearCall c)).kind (hostFieldsOf h (.clearCall c)).params =
      some (.clearCall c) := by
  simp [hostFieldsOf, kindCodeOf, readOrder, paramBytes, paramField]

theorem ackCause_otherExhibits (e : Nat) (src : AckSource) (c : Cause) (s : State) :
    OtherExhibits e s (ackCause e src c s) := by
  unfold ackCause
  split
  · exact fun _ _ => rfl
  · exact fun j _ => (ackEntry_keptBut _ _ _ _).ex (by decide) j
  · split
    · exact fun _ _ => rfl
    · exact State.modEx_otherExhibits e s _

theorem ackCauses_otherExhibits (e : Nat) (src : AckSource) (cs : List Cause) (s : State) :
    OtherExhibits e s (ackCauses e src cs s) := by
  unfold ackCauses
  induction cs generalizing s with
  | nil => exact fun _ _ => rfl
  | cons c cs ih => exact (ackCause_otherExhibits e src c s).trans (ih _)

section
variable {h : OrderHead} {c : Byte} {u : State}

/-- What an accepted ACKNOWLEDGE CALL comes to. -/
theorem postAndTake_ackCall (hmay : MayOrderExhibit u h) (huntimed : Untimed h) (hc : c.toNat ≤ 5) :
    postAndTake h (.ackCall c) u =
      complete h.slot.val .done (BitVec.ofNat 32
        ((causesNamed allCauses c.toNat).filter (unacknowledged u (OrderHead.ex h))).length)
        (ackCauses (OrderHead.ex h) .order (causesNamed allCauses c.toNat) (accepted h (.ackCall c) u)) := by
  have hparams : paramsOk (.ackCall c) = true := by simp [paramsOk, inRange, hc]
  exact postAndTake_of_go hmay.1 (readOrder_ackCall h c)
    (takeRefusal_of_mayOrder hmay huntimed rfl hparams (readOrder_ackCall h c)) huntimed
    (by simp [kindCodeOf]) rfl

/-- A CLEAR CALL with a code in range passes every check. -/
theorem takeRefusal_clearCall (hmay : MayOrderExhibit u h) (huntimed : Untimed h) (hc : c.toNat ≤ 5) :
    takeRefusal u h.slot.val (hostFieldsOf h (.clearCall c)) = none :=
  takeRefusal_of_mayOrder hmay huntimed rfl (by simp [paramsOk, inRange, hc]) (readOrder_clearCall h c)

/-- What a CLEAR CALL that names a cause that is not cleared by order comes to. -/
theorem postAndTake_clearCall_refused (hmay : MayOrderExhibit u h) (huntimed : Untimed h) (hlow : 2 ≤ c.toNat)
    (hhigh : c.toNat ≤ 4) :
    postAndTake h (.clearCall c) u =
      refuseAtTake h.slot.val (hostFieldsOf h (.clearCall c)) .state 0 (postedAndTaken h (.clearCall c) u) := by
  refine postAndTake_of_refuse hmay.1 (readOrder_clearCall h c)
    (takeRefusal_clearCall hmay huntimed (by omega)) huntimed ?_
  exact if_pos (by simp [inRange, hlow, hhigh])

/-- What a CLEAR CALL that names HELP, ORDERED or both comes to. -/
theorem postAndTake_clearCall_cleared (hmay : MayOrderExhibit u h) (huntimed : Untimed h)
    (hc : c.toNat = 0 ∨ c.toNat = 1 ∨ c.toNat = 5) :
    postAndTake h (.clearCall c) u =
      complete h.slot.val .done (BitVec.ofNat 32 ((causesNamed [.help, .ordered] c.toNat).filter
          (fun x => ((u.ex (OrderHead.ex h)).causeRec x).isSome)).length)
        (clearCauses (OrderHead.ex h) (causesNamed [.help, .ordered] c.toNat)
          (accepted h (.clearCall c) u)) := by
  refine postAndTake_of_go hmay.1 (readOrder_clearCall h c)
    (takeRefusal_clearCall hmay huntimed (by omega)) huntimed (by simp [kindCodeOf]) ?_
  exact if_neg (by simp only [inRange, Bool.and_eq_true, decide_eq_true_eq]; omega)

end

/-- Settles O38: an acknowledged cause stays acknowledged while the other named ones are, and a cleared cause stays
out of the set while pending ones enter the freed entries. -/
theorem callOrdersAcknowledgeAndClear : Obligations.CallOrdersAcknowledgeAndClear := by
  intro h c s u e hmay huntimed hc
  refine ⟨?_, fun hlow hhigh => ?_, fun hcode => ?_⟩
  · obtain ⟨hdone, hother, hframe⟩ := done_of_effect (r := BitVec.ofNat 32
      ((causesNamed allCauses c.toNat).filter (unacknowledged u e)).length)
      (ackCauses_keptBut (accepted h (.ackCall c) u) e .order (causesNamed allCauses c.toNat))
      (by decide) (by decide)
    exact ⟨_, exec_orderCommand (postAndTake_ackCall hmay huntimed hc), hdone,
      fun x hx => ackCauses_acknowledges (accepted h (.ackCall c) u) e .order _ x (.inl hx),
      fun j hj => ackCauses_otherExhibits e .order _ (accepted h (.ackCall c) u) j hj, hother, hframe⟩
  · exact ⟨_, exec_orderCommand (postAndTake_clearCall_refused hmay huntimed hlow hhigh),
      refusedOnly_of_refuseAtTake (by decide)⟩
  · obtain ⟨hdone, hother, hframe⟩ := done_of_effect (r := BitVec.ofNat 32
      ((causesNamed [.help, .ordered] c.toNat).filter (fun x => ((u.ex e).causeRec x).isSome)).length)
      (clearCauses_keptBut (accepted h (.clearCall c) u) e (causesNamed [.help, .ordered] c.toNat))
      (by decide) (by decide)
    exact ⟨_, exec_orderCommand (postAndTake_clearCall_cleared hmay huntimed hcode), hdone,
      fun x hx => clearCauses_causeRec (accepted h (.clearCall c) u) e _ x hx, hother, hframe⟩

end Sys2Proof.Machine
end

section
/-! PROOFS. Calls that climb and expire, and the attendant's frames: ESCALATION_EXPIRY, HOLD_EXPIRY, ACK, BAD_FRAME
and INTERBYTE_GAP (R155, R160 to R163). -/

namespace Sys2Proof.Machine

/-- A frame of an effect is the command's frame beside the views. -/
theorem KeptBut.published {fs : List Field} {u v : State} (hv : KeptBut fs u v) :
    KeptBut (fs ++ viewFields) u (publish v) :=
  (hv.mono (List.subset_append_left ..)).trans ((publish_keptBut v).mono (List.subset_append_right ..))

/-- A command answers with its effect and the views. -/
theorem exec_of_effect {c : Instr} {s t : State} (ht : effect c (found c s) = t) : exec c s = .next (publish t) := by
  rw [exec_eq, ht]

/-! ### Escalation (R155) -/

/-- A call one tier up, with a next expiry where it has climbed to tier 2 (R155). -/
def Call.climbed (s : State) (c : Call) : Call :=
  { c with
    tier := c.tier + 1, tierTick := s.tick,
    escalation := if c.tier = 1 then some (after s.tick ((s.zone (s.ex c.ex).call.zone).t2 * 1000)) else none }

section
variable {s : State} {n : Nat} {c : Call} (hcall : (s.callEntry n).call = some c)
include hcall

theorem escalate_of_due (hack : c.ack = none) (hdue : dueNow s.tick c.escalation = true) :
    ∃ addrs, escalate n s =
      rechooseFor addrs (s.modCall n (fun x => { x with call := some (c.climbed s) })) := by
  have hacts : (c.ack.isNone && dueNow s.tick c.escalation) = true := by simp [hack, hdue]
  refine ⟨beaconSet (s.modCall n (fun x => { x with call := some (c.climbed s) })) (c.climbed s), ?_⟩
  simp only [escalate, hcall, if_pos hacts, Nat.reduceEqDiff]
  rfl

theorem escalate_of_not_due (h : c.ack.isSome = true ∨ dueNow s.tick c.escalation = false) :
    escalate n s = s := by
  have hrests : ¬ (c.ack.isNone && dueNow s.tick c.escalation) = true := by
    rcases h with hack | hdue
    · simp [Option.isSome_iff_ne_none.1 hack]
    · simp [hdue]
  simp only [escalate, hcall, if_neg hrests]

end

/-- Settles O57: each expiry tests its tick first; a climb changes one call and its beacons, and a HELP cause cleared
stays out of its set while pending causes enter the freed entry. -/
theorem callsEscalateAndExpire : Obligations.CallsEscalateAndExpire := by
  intro s u
  refine ⟨fun n c hcall => ⟨fun hack hdue => ?_, fun hrests => ?_⟩, fun e => ⟨fun hdue => ?_, fun hnot => ?_⟩⟩
  · obtain ⟨addrs, hclimb⟩ := escalate_of_due hcall hack hdue
    exact ⟨_, exec_of_effect (c := .escalationExpiry n) hclimb, rechooseFor_modCall_same addrs n.val _ u,
      fun j hj => rechooseFor_modCall_other addrs n.val _ u hj,
      (rechooseFor_modCall_keptBut addrs n.val _ u).published⟩
  · exact exec_of_effect (c := .escalationExpiry n) (escalate_of_not_due hcall hrests)
  · have hclear : helpHoldDue e.val u = clearCauses e.val [.help] u := if_pos hdue
    exact ⟨_, exec_of_effect (c := .holdExpiry e) hclear, clearCauses_causeRec u e.val _ .help (by simp),
      (clearCauses_keptBut u e.val _).published⟩
  · have hstands : helpHoldDue e.val u = u := if_neg (by rw [hnot]; decide)
    exact exec_of_effect (c := .holdExpiry e) hstands

/-! ### Views written twice -/

/-- Writing the views again changes nothing (R182). -/
theorem publish_publish (s : State) : publish (publish s) = publish s := by
  have hviews : newViews (publish s) = (publish s).views := publish_viewsCurrent s
  have hnone (v : Views) : viewNotices v v = 0 := by simp [viewNotices, noticeIf]
  have hnotice : (publish s).notice ||| 0 = (publish s).notice := BitVec.or_zero
  rw [publish, hviews, hnone, hnotice]

/-! ### Received bytes (R160) -/

/-- A state inside a frame: the bytes taken after SYNC. -/
def State.receiving (s : State) (bs : List Byte) : State := { s with rx := some bs }

@[simp] theorem State.receiving_rx (s : State) (bs : List Byte) : (s.receiving bs).rx = some bs := rfl

section
variable {s : State}

/-- A byte that is no SYNC is discarded while the receiver hunts. -/
theorem takeByte_of_hunting (hrx : s.rx = none) {b : RxByte} (hb : b.val ≠ 0x55 ∨ b.stopOk = false) :
    takeByte s b = s := by
  have hreceive : receiveByte b s = s := by
    have hsync : ¬ (b.val = 0x55 ∧ b.stopOk = true) := by
      rintro ⟨hval, hstop⟩
      rcases hb with hval' | hstop'
      · exact hval' hval
      · simp [hstop'] at hstop
    simp only [receiveByte, hrx, if_neg hsync]
  simp [takeByte, hreceive, hrx]

theorem takeByte_sync (hrx : s.rx = none) : takeByte s ⟨0x55, true⟩ = s.receiving [] := by
  simp [takeByte, receiveByte, hrx, State.receiving]

/-- A byte that ends no frame is kept after the bytes before it. -/
theorem takeByte_inside {bs all : List Byte} {v : Byte} (hall : bs ++ [v] = all)
    (hcount : all.length = 2 → v.toNat ≤ 8)
    (hlen : 2 ≤ all.length → all.length ≠ (all.getD 1 0).toNat + 3) :
    takeByte (s.receiving bs) ⟨v, true⟩ = s.receiving all := by
  have hshort : ¬ (all.length = 2 ∧ 8 < v.toNat) := fun h => absurd (hcount h.1) (Nat.not_le.2 h.2)
  have hpart : ¬ (2 ≤ all.length ∧ all.length = (all.getD 1 0).toNat + 3) := fun h => hlen h.1 h.2
  have hreceive : receiveByte ⟨v, true⟩ (s.receiving bs) = s.receiving all := by
    simp only [receiveByte, State.receiving, hall, if_neg hshort, if_neg hpart]
    rfl
  simp [takeByte, hreceive]

/-- A byte that ends a frame leaves the receiver hunting, and its event writes the views. -/
theorem takeByte_ends {b : RxByte} {t : State} (hrx : s.rx.isSome = true) (ht : receiveByte b s = t)
    (hhunts : t.rx = none) : takeByte s b = publish t := by
  simp [takeByte, ht, hrx, hhunts]

/-- A bad stop bit inside a frame ends the frame as a bad one. -/
theorem receiveByte_badStop {bs : List Byte} (hrx : s.rx = some bs) (v : Byte) :
    receiveByte ⟨v, false⟩ s = countBad { s with rx := none } := by
  simp [receiveByte, hrx]

/-- A COUNT above 8 ends the frame as a bad one. -/
theorem receiveByte_overCount {k v : Byte} (hrx : s.rx = some [k]) (hv : 8 < v.toNat) :
    receiveByte ⟨v, true⟩ s = countBad { s with rx := none } := by
  simp [receiveByte, hrx, hv]

/-- The sixth byte after SYNC ends a frame of three payload bytes. -/
theorem receiveByte_check {k a b c v : Byte} (hrx : s.rx = some [k, 3, a, b, c]) :
    receiveByte ⟨v, true⟩ s = judgeFrame [k, 3, a, b, c, v] { s with rx := none } := by
  simp [receiveByte, hrx]

end

/-! ### ACK frames (R161, R162) -/

section
variable (n g tag : Byte)

/-- The bytes of an ACK frame after SYNC sum to 0 (R158). -/
theorem ackFrame_sum : 0x81 + 3 + n + g + tag + checkByte [0x81, 3, n, g, tag] = 0 := by
  simp [checkByte]

theorem judgeFrame_ack (s : State) :
    judgeFrame [0x81, 3, n, g, tag, checkByte [0x81, 3, n, g, tag]] s = matchAck n g tag s :=
  if_pos ⟨rfl, rfl, ackFrame_sum n g tag⟩

theorem matchAck_keptBut (s : State) : KeptBut [.calls, .beacons, .staleAcks] s (matchAck n g tag s) := by
  unfold matchAck
  dsimp only
  split
  · exact (ackEntry_keptBut _ _ _ _).mono (by decide)
  · intro f hf
    cases f <;> first | rfl | exact absurd (by decide) hf

/-- An ACK frame that finds the receiver hunting is taken byte by byte and matched against the call table. -/
theorem receiveBytes_ackFrame {s : State} (hrx : s.rx = none) :
    receiveBytes (ackFrame n g tag) s = publish (matchAck n g tag s) := by
  have hhunting : { s with rx := none } = s := by rw [← hrx]
  have hjudged : receiveByte ⟨checkByte [0x81, 3, n, g, tag], true⟩ (s.receiving [0x81, 3, n, g, tag]) =
      matchAck n g tag s := by
    rw [receiveByte_check rfl, judgeFrame_ack]
    exact congrArg (matchAck n g tag) hhunting
  have hends : (matchAck n g tag s).rx = none := (matchAck_keptBut n g tag s .rx (by decide)).trans hrx
  simp only [receiveBytes, ackFrame, List.map_cons, List.map_nil, List.foldl_cons, List.foldl_nil]
  rw [takeByte_sync hrx, takeByte_inside (all := [0x81]) rfl (by simp) (by simp),
    takeByte_inside (all := [0x81, 3]) rfl (by simp) (by simp),
    takeByte_inside (all := [0x81, 3, n]) rfl (by simp) (by simp),
    takeByte_inside (all := [0x81, 3, n, g]) rfl (by simp) (by simp),
    takeByte_inside (all := [0x81, 3, n, g, tag]) rfl (by simp) (by simp)]
  exact takeByte_ends rfl hjudged hends

theorem matchAck_of_live {s : State} {c : Call} (hn : n.toNat < 48) (hcall : (s.callEntry n.toNat).call = some c)
    (hgen : (s.callEntry n.toNat).gen = g.toNat) : matchAck n g tag s = ackEntry n.toNat .frame tag s :=
  if_pos ⟨hn, by rw [hcall]; rfl, hgen⟩

theorem matchAck_of_stale {s : State}
    (h : 48 ≤ n.toNat ∨ (s.callEntry n.toNat).call = none ∨ (s.callEntry n.toNat).gen ≠ g.toNat) :
    matchAck n g tag s = { s with staleAcks := s.staleAcks + 1 } := by
  refine if_neg ?_
  rintro ⟨hn, hcall, hgen⟩
  rcases h with hbig | hnone | hother
  · omega
  · simp [hnone] at hcall
  · exact hother hgen

/-- What an ACK frame comes to. -/
theorem exec_ack {s : State} (hrx : (settle s).rx = none) :
    exec (.ack n g tag) s = .next (publish (matchAck n g tag (settle s))) := by
  have hreceived := receiveBytes_ackFrame n g tag hrx
  rw [← publish_publish]
  exact exec_of_effect (c := .ack n g tag) hreceived

end

/-! ### Bad frames (R160) -/

/-- A frame counted as bad leaves the receiver hunting. -/
theorem countBad_hunting_keptBut (u : State) : KeptBut [.rx, .badFrames] u (countBad { u with rx := none }) := by
  intro f hf
  cases f <;> first | rfl | exact absurd (by decide) hf

/-- A byte that ends a frame as a bad one, written once more at the command's end. -/
theorem exec_badFrame_counted {s : State} {b : RxByte} (hrx : (settle s).rx.isSome = true)
    (hbad : receiveByte b (settle s) = countBad { settle s with rx := none }) :
    exec (.badFrame [b]) s = .next (publish (countBad { settle s with rx := none })) := by
  have hends : takeByte (settle s) b = publish (countBad { settle s with rx := none }) := takeByte_ends hrx hbad rfl
  rw [← publish_publish]
  exact exec_of_effect (c := .badFrame [b]) hends

/-! ### Frames judged -/

section
variable {s : State}

/-- A live acknowledgement marks its call with source FRAME and its tag (R161, R162). -/
theorem ack_acknowledges {n g tag : Byte} {c : Call} (hrx : (settle s).rx = none) (hn : n.toNat < 48)
    (hcall : ((settle s).callEntry n.toNat).call = some c)
    (hgen : ((settle s).callEntry n.toNat).gen = g.toNat) (hack : c.ack = none) :
    ∃ t, exec (.ack n g tag) s = .next t ∧
      t.callEntry n.toNat = ⟨((settle s).callEntry n.toNat).gen,
        some (c.answered (ackMark (settle s) c.ex c.cause .frame tag))⟩ ∧
      (∀ j, j ≠ n.toNat → t.callEntry j = (settle s).callEntry j) ∧
      KeptBut [.calls, .beacons, .views, .notice] (settle s) t := by
  have hexec := exec_ack n g tag hrx
  rw [matchAck_of_live n g tag hn hcall hgen] at hexec
  have hentry (j : Nat) := congrArg (lookup CallEntry.fresh · j)
    (ackEntry_calls (settle s) n.toNat .frame tag hcall hack)
  exact ⟨_, hexec, (hentry n.toNat).trans (State.modCall_callEntry_same ..),
    fun j hj => (hentry j).trans (State.modCall_callEntry_other _ _ _ _ hj),
    (ackEntry_keptBut (settle s) n.toNat .frame tag).published⟩

/-- A byte that ends a frame as a bad one counts it and leaves the receiver hunting (R160). -/
theorem badFrame_counts {b : RxByte} (hrx : (settle s).rx.isSome = true)
    (hbad : receiveByte b (settle s) = countBad { settle s with rx := none }) :
    ∃ t, exec (.badFrame [b]) s = .next t ∧ t.rx = none ∧ t.badFrames = (settle s).badFrames + 1 ∧
      KeptBut [.rx, .badFrames, .views, .notice] (settle s) t :=
  ⟨_, exec_badFrame_counted hrx hbad, rfl, rfl, (countBad_hunting_keptBut _).published⟩

/-- Bytes without SYNC are discarded while the receiver hunts. -/
theorem receiveBytes_of_hunting {bs : List RxByte} (hrx : s.rx = none)
    (hbs : ∀ b ∈ bs, b.val ≠ 0x55 ∨ b.stopOk = false) : receiveBytes bs s = s := by
  induction bs with
  | nil => rfl
  | cons b bs ih =>
    rw [receiveBytes, List.foldl_cons, takeByte_of_hunting hrx (hbs b List.mem_cons_self)]
    exact ih fun b hb => hbs b (List.mem_cons_of_mem _ hb)

end

/-- Settles O59: a good ACK frame is taken byte by byte and matched against the call table, and every other byte is
discarded, kept, or ends its frame as a bad one. -/
theorem attendantFramesAreJudged : Obligations.AttendantFramesAreJudged := by
  intro s u bad
  refine ⟨fun hrx n g tag => ⟨fun c hn hcall hgen hack => ?_, fun c hn hcall hgen hack => ?_, fun hstale => ?_⟩,
    fun bs hrx hbs => ?_, fun f v hrx => ?_, fun k v hrx hv => ?_, fun k a b c v hrx hsum => ?_, fun hrx => ?_,
    fun hrx => ?_⟩
  · obtain ⟨t, hexec, hentry, hothers, hkept⟩ := ack_acknowledges (tag := tag) hrx hn hcall hgen hack
    exact ⟨t, ackMark u c.ex c.cause .frame tag, hexec, rfl, rfl, rfl, hentry, fun hcause => if_neg hcause,
      fun hcause => if_pos hcause, hothers, hkept⟩
  · have hexec := exec_ack n g tag hrx
    have hanswered : Answered u n.toNat := fun k hk => by
      rw [hcall] at hk
      rwa [← Option.some.inj hk]
    rwa [matchAck_of_live n g tag hn hcall hgen, ackEntry_of_answered _ _ _ hanswered] at hexec
  · have hexec := exec_ack n g tag hrx
    rw [matchAck_of_stale n g tag hstale] at hexec
    refine ⟨_, hexec, rfl, fun f hf => ?_⟩
    cases f <;> first | rfl | exact absurd (by decide) hf
  · exact exec_of_effect (c := .badFrame bs) (receiveBytes_of_hunting (s := u) hrx hbs)
  · exact badFrame_counts (by rw [hrx]; rfl) (receiveByte_badStop hrx v)
  · exact badFrame_counts (by rw [hrx]; rfl) (receiveByte_overCount hrx hv)
  · refine badFrame_counts (by rw [hrx]; rfl) ((receiveByte_check hrx).trans ?_)
    exact if_neg fun h => hsum h.2.2
  · obtain ⟨f, hf⟩ := Option.isSome_iff_exists.1 hrx
    have hgap : gapPasses u = countBad { u with rx := none } := by simp only [gapPasses, hf]
    exact ⟨_, exec_of_effect (c := .interbyteGap) hgap, rfl, rfl, (countBad_hunting_keptBut u).published⟩
  · have hgap : gapPasses u = u := by simp only [gapPasses, hrx]
    exact exec_of_effect (c := .interbyteGap) hgap

end Sys2Proof.Machine
end

section
/-! PROOFS. The beacons: the entry that the transmitter serves, the frames it sends, and the call that an entry shows
(R154, R156 to R159). -/

namespace Sys2Proof.Machine

/-! ### The entry served (R159) -/

/-- The entry comes first, in cyclic order after the one served last, of those that owe a frame. -/
def ServedFirst (s : State) (b : Nat) : Prop :=
  ∃ k, k < 64 ∧ b = (s.lastServed + 1 + k) % 64 ∧ Beacon.owes (s.beacon b) = true ∧
    ∀ j, j < k → Beacon.owes (s.beacon ((s.lastServed + 1 + j) % 64)) = false

section
variable {s : State} {b : Nat}

theorem find_resetDark_of_none (hdark : ∀ j, j < 64 → (s.beacon j).resetDark = false) :
    (List.range 64).find? (fun b => (s.beacon b).resetDark) = none :=
  List.find?_eq_none.2 fun j hj => by simp [hdark j (List.mem_range.1 hj)]

theorem nextServed_of_first (hdark : ∀ j, j < 64 → (s.beacon j).resetDark = false) (hfirst : ServedFirst s b) :
    nextServed s = some b := by
  obtain ⟨k, hk, rfl, howes, hbefore⟩ := hfirst
  have hfound : (List.range 64).find? ((fun b => (s.beacon b).owes) ∘ fun k => (s.lastServed + 1 + k) % 64) =
      some k :=
    List.find?_range_eq_some.2 ⟨howes, List.mem_range.2 hk, fun j hj => by simp [hbefore j hj]⟩
  simp only [nextServed, find_resetDark_of_none hdark, List.find?_map, hfound, Option.map_some]

theorem nextServed_of_none (hquiet : ∀ j, j < 64 → (s.beacon j).owes = false ∧ (s.beacon j).resetDark = false) :
    nextServed s = none := by
  have hfound : (List.range 64).find? ((fun b => (s.beacon b).owes) ∘ fun k => (s.lastServed + 1 + k) % 64) =
      none :=
    List.find?_eq_none.2 fun k _ => by
      simp [(hquiet ((s.lastServed + 1 + k) % 64) (Nat.mod_lt _ (by decide))).1]
  simp only [nextServed, find_resetDark_of_none fun j hj => (hquiet j hj).2, List.find?_map, hfound, Option.map_none]

theorem ServedFirst.lt (hfirst : ServedFirst s b) : b < 64 := by
  obtain ⟨k, -, rfl, -, -⟩ := hfirst
  exact Nat.mod_lt _ (by decide)

end

/-! ### Frames sent (R158, R159) -/

/-- Bytes and their CHECK byte sum to 0. -/
theorem foldl_checkByte (bs : List Byte) : (bs ++ [checkByte bs]).foldl (· + ·) 0 = 0 := by
  simp [checkByte]

/-- An entry whose BEACON has gone (R159). -/
def Beacon.beaconSent (now : Tick) (y : Beacon) : Beacon :=
  { y with beaconOwed := false, refresh := some (after now 2000) }

/-- An entry whose DARK has gone (R159). -/
def Beacon.darkSent (y : Beacon) : Beacon := { y with darkOwed := false }

/-- An entry whose refresh countdown has run out (R159). -/
def Beacon.owedAgain (y : Beacon) : Beacon := { y with beaconOwed := true, refresh := none }

/-- A beacon entry served: its new record, and the frame sent for it. -/
def served (b : Nat) (x : Beacon) (tx : List Byte) (s : State) : State :=
  { s.modBeacon b (fun _ => x) with lastServed := b, attTx := tx }

section
variable (b : Nat) (x : Beacon) (tx : List Byte) (s : State)

theorem served_beacon_same : (served b x tx s).beacon b = x :=
  State.modBeacon_beacon_same s b fun _ => x

theorem served_beacon_other {j : Nat} (hj : j ≠ b) : (served b x tx s).beacon j = s.beacon j :=
  State.modBeacon_beacon_other s b j (fun _ => x) hj

theorem served_keptBut : KeptBut [.beacons, .lastServed, .attTx] s (served b x tx s) := by
  intro g hg
  cases g <;> first | rfl | exact absurd (by decide) hg

end

section
variable {s : State} {b : Nat} (hnext : nextServed s = some b) (hdark : (s.beacon b).resetDark = false)
include hnext hdark

theorem sendBeacon_of_owed {p n : Nat} (hpattern : (s.beacon b).pattern = some p)
    (howed : (s.beacon b).beaconOwed = true) (hshows : (s.beacon b).shows = some n) :
    sendBeacon s = served b (Beacon.beaconSent s.tick (s.beacon b))
      (beaconFrame (s.beacon b).addr p n (s.callEntry n).gen) s := by
  simp only [sendBeacon, hnext, hpattern, howed, hdark, hshows, Bool.not_false, Bool.and_true, Option.getD_some]
  rfl

theorem sendDark_of_owed (hnamed : (s.beacon b).named = true) (hpattern : (s.beacon b).pattern = none)
    (howed : (s.beacon b).darkOwed = true) :
    sendDark s = served b (Beacon.darkSent (s.beacon b)) (darkFrame (s.beacon b).addr) s := by
  have howes : ((s.beacon b).resetDark || ((s.beacon b).darkOwed && (s.beacon b).pattern.isNone)) = true := by
    simp [howed, hpattern]
  have hrecord : Beacon.darkSent (s.beacon b) = { s.beacon b with darkOwed := false, resetDark := false } := by
    rw [Beacon.darkSent, ← hdark]
  simp only [sendDark, hnext, if_pos howes, served, hrecord, State.modBeacon, hnamed, if_true]

end

/-! ### Choosing again (R157) -/

section
variable {s : State} {y : Beacon}

theorem rechooseEntry_unlit (hchosen : chosenCall s y.addr = none) (hpattern : y.pattern = none) :
    rechooseEntry s y = { y with shows := none } := by
  simp only [rechooseEntry, hchosen, hpattern]

theorem rechooseEntry_dark (hchosen : chosenCall s y.addr = none) (hpattern : y.pattern.isSome = true) :
    rechooseEntry s y =
      { y with shows := none, pattern := none, refresh := none, beaconOwed := false, darkOwed := true } := by
  obtain ⟨p, hp⟩ := Option.isSome_iff_exists.1 hpattern
  simp only [rechooseEntry, hchosen, hp]

section
variable {n : Nat} {c : Call} (hchosen : chosenCall s y.addr = some (n, c))
include hchosen

theorem rechooseEntry_same (hpattern : y.pattern = some (callPattern s c)) :
    rechooseEntry s y = { y with shows := some n } := by
  simp only [rechooseEntry, hchosen, if_pos hpattern]

theorem rechooseEntry_changed (hpattern : y.pattern ≠ some (callPattern s c)) :
    rechooseEntry s y = { y with
      shows := some n, pattern := some (callPattern s c), beaconOwed := true, darkOwed := y.resetDark } := by
  simp only [rechooseEntry, hchosen, if_neg hpattern]

end

/-- An entry chosen again is as the choice leaves it. -/
theorem rechooseEntry_again (s : State) (y : Beacon) : rechooseEntry s (rechooseEntry s y) = rechooseEntry s y := by
  cases hchosen : chosenCall s y.addr with
  | none =>
    by_cases hpattern : y.pattern.isSome = true
    · rw [rechooseEntry_dark hchosen hpattern]
      exact rechooseEntry_unlit hchosen rfl
    · have hnone : y.pattern = none := by simpa using hpattern
      rw [rechooseEntry_unlit hchosen hnone]
      exact rechooseEntry_unlit hchosen hnone
  | some q =>
    by_cases hpattern : y.pattern = some (callPattern s q.2)
    · rw [rechooseEntry_same hchosen hpattern]
      exact rechooseEntry_same hchosen hpattern
    · rw [rechooseEntry_changed hchosen hpattern]
      exact rechooseEntry_same hchosen rfl

end

section
variable (s : State)

/-- A fold over entries that applies one settling change to those that pass a test leaves each entry as changed once,
however often it is listed. -/
theorem foldl_modBeacon_beacon (test : Nat → Bool) {f : Beacon → Beacon} (hf : ∀ y, f (f y) = f y) (l : List Nat)
    (b : Nat) :
    (l.foldl (fun u j => if test j then u.modBeacon j f else u) s).beacon b =
      if b ∈ l ∧ test b = true then f (s.beacon b) else s.beacon b := by
  induction l generalizing s with
  | nil => simp
  | cons j l ih =>
    rw [List.foldl_cons, ih]
    by_cases hj : b = j
    · subst hj
      cases ht : test b <;> simp [hf]
    · cases test j <;> simp [hj, State.modBeacon_beacon_other]

theorem rechooseFor_beacon (addrs : List Nat) (b : Nat) :
    (rechooseFor addrs s).beacon b =
      if (s.beacon b).named = true ∧ (s.beacon b).addr ∈ addrs then rechooseEntry s (s.beacon b)
      else s.beacon b := by
  have hlisted (hnamed : (s.beacon b).named = true) : b ∈ keys s.beacons := by
    refine mem_keys_of_lookup_ne (d := Beacon.free) fun hfree => ?_
    rw [State.beacon, hfree] at hnamed
    exact absurd hnamed (by decide)
  rw [rechooseFor, rechoose, foldl_modBeacon_beacon s _ (rechooseEntry_again s)]
  congr 1
  simp only [Bool.and_eq_true, List.contains_iff_mem, eq_iff_iff]
  exact ⟨fun h => h.2, fun h => ⟨hlisted h.1, h⟩⟩

end

/-! ### The call that a beacon shows (R157) -/

section
variable {α : Type} {better : α → α → Bool} {f : Option α → α → Option α} (hnone : ∀ p, f none p = some p)
  (hsome : ∀ q p, f (some q) p = if better p q then some p else some q)
include hsome

/-- Nothing replaces a member that no other betters. -/
theorem foldl_choice_stays {x : α} {l : List α} (hl : ∀ y ∈ l, y ≠ x → better y x = false) :
    l.foldl f (some x) = some x := by
  induction l with
  | nil => rfl
  | cons p l ih =>
    have hstep : f (some x) p = some x := by
      rw [hsome]
      by_cases hp : p = x
      · rw [hp, ite_self]
      · rw [hl p List.mem_cons_self hp]; rfl
    rw [List.foldl_cons, hstep]
    exact ih fun y hy => hl y (List.mem_cons_of_mem _ hy)

include hnone

/-- The choice is the one that it began with or a member. -/
theorem foldl_choice_mem (l : List α) (best : Option α) :
    l.foldl f best = best ∨ ∃ y ∈ l, l.foldl f best = some y := by
  induction l generalizing best with
  | nil => exact .inl rfl
  | cons p l ih =>
    have hstep : f best p = some p ∨ f best p = best := by
      cases best with
      | none => exact .inl (hnone p)
      | some q => rw [hsome]; exact ite_eq_or_eq ..
    rcases ih (f best p) with h | ⟨y, hy, h⟩
    · exact hstep.symm.imp h.trans fun hp => ⟨p, List.mem_cons_self, h.trans hp⟩
    · exact .inr ⟨y, List.mem_cons_of_mem _ hy, h⟩

/-- The member that betters every other, and that no other betters, is chosen. -/
theorem foldl_choice {x : α} {l : List α} (hx : x ∈ l)
    (hl : ∀ y ∈ l, y ≠ x → better x y = true ∧ better y x = false) : l.foldl f none = some x := by
  obtain ⟨before, rest, rfl⟩ := List.append_of_mem hx
  have hreached : f (before.foldl f none) x = some x := by
    rcases foldl_choice_mem hnone hsome before none with h | ⟨y, hy, h⟩
    · rw [h, hnone]
    · rw [h, hsome]
      by_cases hyx : y = x
      · rw [hyx, ite_self]
      · exact if_pos (hl y (List.mem_append_left _ hy) hyx).1
  rw [List.foldl_append, List.foldl_cons, hreached]
  exact foldl_choice_stays hsome fun y hy hyx =>
    (hl y (List.mem_append_right _ (List.mem_cons_of_mem _ hy)) hyx).2

end

/-- Each of two calls of which one is preferred comes before or after the other accordingly. -/
theorem callBefore_of_preferred {now : Tick} {n m : Nat} {c d : Call} (h : CallPreferred now n c m d) :
    callBefore now (n, c) (m, d) = true ∧ callBefore now (m, d) (n, c) = false := by
  unfold callBefore
  rcases h with ⟨hc, hd⟩ | ⟨hring, hrest⟩
  · have hd' : d.ack.isNone = false := by rw [← Option.not_isSome, hd]; rfl
    simp [hc, hd']
  · have hring' : d.ack.isNone = c.ack.isNone := by rw [← Option.not_isSome, ← Option.not_isSome, hring]
    rcases hrest with hsev | ⟨hsev, hage | ⟨hraise, hnum⟩⟩
    · simp [hring', hsev.ne, hsev.ne', hsev, hsev.le]
    · have hne : now - c.raise ≠ now - d.raise := fun h => by simp [h] at hage
      generalize now - c.raise = x, now - d.raise = y at hage hne
      simp [hring', hsev, hne, hne.symm, hage, hage.le]
    · simp [hring', hsev, hraise, hnum, hnum.le]

/-! ### Calls by number -/

/-- A table without a number listed twice reads a listed record, and lists a record that is not the default. -/
theorem mem_iff_lookup {α : Type} {d v : α} {t : Tab α} {k : Nat} (hnodup : (keys t).Nodup) (hv : v ≠ d) :
    (k, v) ∈ t ↔ lookup d t k = v := by
  induction t with
  | nil => simpa [lookup] using hv.symm
  | cons p r ih =>
    obtain ⟨j, w⟩ := p
    obtain ⟨hj, hr⟩ : j ∉ keys r ∧ (keys r).Nodup := List.nodup_cons.1 hnodup
    by_cases hk : j = k
    · subst hk
      have hnot : (j, v) ∉ r := fun h => hj (List.mem_map.2 ⟨_, h, rfl⟩)
      simp [lookup, hnot, eq_comm]
    · simp [lookup, hk, Ne.symm hk, ih hr]

section
variable {s : State} (hnodup : (keys s.calls).Nodup)
include hnodup

theorem mem_callsInUse {n : Nat} {c : Call} : (n, c) ∈ callsInUse s ↔ (s.callEntry n).call = some c := by
  have hentry (x : CallEntry) (hx : x.call = some c) : (n, x) ∈ s.calls ↔ s.callEntry n = x :=
    mem_iff_lookup hnodup fun h => by rw [h] at hx; exact absurd hx (by simp [CallEntry.fresh])
  simp only [callsInUse, List.mem_filterMap, Option.map_eq_some_iff, Prod.mk.injEq, Prod.exists]
  constructor
  · rintro ⟨m, x, hmem, d, hx, rfl, rfl⟩
    rw [(hentry x hx).1 hmem, hx]
  · exact fun hcall => ⟨n, s.callEntry n, (hentry _ hcall).2 rfl, c, hcall, rfl, rfl⟩

theorem mem_lighting {addr n : Nat} {c : Call} :
    (n, c) ∈ (callsInUse s).filter (fun p => (beaconSet s p.2).contains addr) ↔ CallLights s addr n c := by
  rw [List.mem_filter, mem_callsInUse hnodup, List.contains_iff_mem, CallLights]

/-- No call lights the address: none is chosen. -/
theorem chosenCall_of_none {addr : Nat} (hdark : ∀ n c, ¬ CallLights s addr n c) : chosenCall s addr = none := by
  have hnil : (callsInUse s).filter (fun p => (beaconSet s p.2).contains addr) = [] :=
    List.eq_nil_iff_forall_not_mem.2 fun ⟨n, c⟩ hmem => hdark n c ((mem_lighting hnodup).1 hmem)
  rw [chosenCall, hnil]
  rfl

/-- The call preferred to every other that lights the address is chosen (R157). -/
theorem chosenCall_of_preferred {addr n : Nat} {c : Call} (hlights : CallLights s addr n c)
    (hbest : ∀ m d, CallLights s addr m d → m ≠ n → CallPreferred s.tick n c m d) :
    chosenCall s addr = some (n, c) := by
  refine foldl_choice (better := callBefore s.tick) (fun _ => rfl) (fun _ _ => rfl)
    ((mem_lighting hnodup).2 hlights) ?_
  rintro ⟨m, d⟩ hmem hne
  have hlights' := (mem_lighting hnodup).1 hmem
  refine callBefore_of_preferred (hbest m d hlights' ?_)
  rintro rfl
  exact hne (by rw [Option.some.inj (hlights'.1.symm.trans hlights.1)])

end

/-- The pattern of a call, by its acknowledgement (R156). -/
theorem callPattern_eq (s : State) (c : Call) :
    callPattern s c =
      if c.ack.isSome then (s.zone (s.ex c.ex).call.zone).ack
      else (s.zone (s.ex c.ex).call.zone).base +
        (c.severity - 1) * min (s.ex c.ex).call.levels (s.zone (s.ex c.ex).call.zone).count / 4 := by
  unfold callPattern
  cases c.ack <;> rfl

/-! ### BEACON, DARK and REFRESH_EXPIRY -/

section
variable {s : State} {b : Nat}

/-- A command that serves an entry changes its record and sends one frame. -/
theorem exec_of_served {c : Instr} {x : Beacon} {tx : List Byte}
    (h : effect c (found c s) = served b x tx (settle s)) :
    ∃ t, exec c s = .next t ∧ t.lastServed = b ∧ t.attTx = tx ∧ t.beacon b = x ∧
      (∀ j, j ≠ b → t.beacon j = (settle s).beacon j) ∧
      KeptBut [.beacons, .lastServed, .attTx, .views, .notice] (settle s) t :=
  ⟨_, exec_of_effect h, rfl, rfl, served_beacon_same b x tx _, fun _ hj => served_beacon_other b x tx _ hj,
    (served_keptBut b x tx _).published⟩

/-- A BEACON frame goes to the entry served, and its refresh countdown starts (R158, R159). -/
theorem beacon_sends {p n : Nat} (hfirst : ServedFirst (settle s) b)
    (hdark : ∀ j, j < 64 → ((settle s).beacon j).resetDark = false)
    (hpattern : ((settle s).beacon b).pattern = some p) (howed : ((settle s).beacon b).beaconOwed = true)
    (hshows : ((settle s).beacon b).shows = some n) :
    ∃ t check, exec .beacon s = .next t ∧ t.lastServed = b ∧
      t.attTx = [0x55, 0x01, 0x04, BitVec.ofNat 8 ((settle s).beacon b).addr, BitVec.ofNat 8 p, BitVec.ofNat 8 n,
        BitVec.ofNat 8 ((settle s).callEntry n).gen, check] ∧
      (t.attTx.drop 1).foldl (· + ·) 0 = 0 ∧ t.beacon b = Beacon.beaconSent (settle s).tick ((settle s).beacon b) ∧
      (∀ j, j ≠ b → t.beacon j = (settle s).beacon j) ∧
      KeptBut [.beacons, .lastServed, .attTx, .views, .notice] (settle s) t := by
  have hsend := sendBeacon_of_owed (nextServed_of_first hdark hfirst) (hdark b hfirst.lt) hpattern howed hshows
  obtain ⟨t, hexec, hlast, htx, hbeacon, hothers, hkept⟩ := exec_of_served (c := .beacon) hsend
  exact ⟨t, _, hexec, hlast, htx, by rw [htx]; exact foldl_checkByte _, hbeacon, hothers, hkept⟩

/-- A DARK frame goes to the entry served, whose mark it clears (R158, R159). -/
theorem dark_sends (hfirst : ServedFirst (settle s) b)
    (hdark : ∀ j, j < 64 → ((settle s).beacon j).resetDark = false) (hnamed : ((settle s).beacon b).named = true)
    (hpattern : ((settle s).beacon b).pattern = none) (howed : ((settle s).beacon b).darkOwed = true) :
    ∃ t check, exec .dark s = .next t ∧ t.lastServed = b ∧
      t.attTx = [0x55, 0x02, 0x01, BitVec.ofNat 8 ((settle s).beacon b).addr, check] ∧
      (t.attTx.drop 1).foldl (· + ·) 0 = 0 ∧ t.beacon b = Beacon.darkSent ((settle s).beacon b) ∧
      (∀ j, j ≠ b → t.beacon j = (settle s).beacon j) ∧
      KeptBut [.beacons, .lastServed, .attTx, .views, .notice] (settle s) t := by
  have hsend := sendDark_of_owed (nextServed_of_first hdark hfirst) (hdark b hfirst.lt) hnamed hpattern howed
  obtain ⟨t, hexec, hlast, htx, hbeacon, hothers, hkept⟩ := exec_of_served (c := .dark) hsend
  exact ⟨t, _, hexec, hlast, htx, by rw [htx]; exact foldl_checkByte _, hbeacon, hothers, hkept⟩

end

/-- Settles O58: the transmitter's search finds the entry that comes first, and an entry chosen again takes the member
that wins the fold over the calls that light it. -/
theorem beaconsAreServedInTurn : Obligations.BeaconsAreServedInTurn := by
  refine ⟨fun s => ⟨fun b p n hfirst hdark hpattern howed hshows => ?_,
    fun b hfirst hdark hnamed hpattern howed => ?_, fun hquiet => ?_, fun b hdue hlit => ?_⟩,
    fun v addrs b => ⟨rechooseFor_keptBut v addrs, fun hout => ?_, fun hnamed haddr hnodup => ⟨fun hnone => ?_,
      fun n c hlights hbest => ?_⟩⟩⟩
  · exact beacon_sends hfirst hdark hpattern howed hshows
  · exact dark_sends hfirst hdark hnamed hpattern howed
  · have hnext := nextServed_of_none hquiet
    have hbeacon : sendBeacon (settle s) = settle s := by simp only [sendBeacon, hnext]
    have hdark : sendDark (settle s) = settle s := by simp only [sendDark, hnext]
    exact ⟨exec_of_effect (c := .beacon) hbeacon, exec_of_effect (c := .dark) hdark⟩
  · have hrefresh : refreshDue b.val (settle s) = (settle s).modBeacon b.val Beacon.owedAgain :=
      if_pos (by rw [hdue, hlit]; rfl)
    exact ⟨_, exec_of_effect (c := .refreshExpiry b) hrefresh,
      State.modBeacon_beacon_same (settle s) b.val Beacon.owedAgain,
      fun j hj => State.modBeacon_beacon_other (settle s) b.val j Beacon.owedAgain hj,
      (State.modBeacon_keptBut _ _ _).published⟩
  · refine (rechooseFor_beacon v addrs b).trans (if_neg ?_)
    rintro ⟨hnamed, haddr⟩
    rcases hout with hout | hout
    · rw [hout] at hnamed; exact absurd hnamed (by decide)
    · exact hout haddr
  · have hentry := (rechooseFor_beacon v addrs b).trans (if_pos ⟨hnamed, haddr⟩)
    have hchosen := chosenCall_of_none hnodup hnone
    exact ⟨fun hunlit => hentry.trans (rechooseEntry_unlit hchosen hunlit),
      fun hlit => hentry.trans (rechooseEntry_dark hchosen hlit)⟩
  · have hentry := (rechooseFor_beacon v addrs b).trans (if_pos ⟨hnamed, haddr⟩)
    have hchosen := chosenCall_of_preferred hnodup hlights hbest
    dsimp only
    rw [hentry, ← callPattern_eq]
    by_cases hpattern : (v.beacon b).pattern = some (callPattern v c)
    · rw [rechooseEntry_same hchosen hpattern]
      exact ⟨rfl, hpattern, fun _ => rfl, fun hne => absurd hpattern hne⟩
    · rw [rechooseEntry_changed hchosen hpattern]
      exact ⟨rfl, rfl, fun heq => absurd heq hpattern, fun _ => ⟨rfl, rfl⟩⟩

end Sys2Proof.Machine
end

section
/-! PROOFS. CLEAR FAULT (R177): the record cleared with its cause (R175), and what a FAULTED exhibit does then
(R30, R36). -/

namespace Sys2Proof.Machine

/-! ### An exhibit with no fault on record -/

/-- The capture record is empty, its later-fault count 0, and no MOTION FAULT stands in the cause set. -/
abbrev NoFaultRecorded (t : State) (e : Nat) : Prop :=
  (t.ex e).capture = none ∧ (t.ex e).laterFaults = 0 ∧ (t.ex e).causeRec .motionFault = none

theorem causes_congr {s t : State} (h : t.causeSets = s.causeSets) (e : Nat) : (t.ex e).causes = (s.ex e).causes :=
  congrFun (congrArg CauseSets.causes h) e

section
variable {e : Nat} {s : State} (hs : NoFaultRecorded s e)
include hs

/-- A record once cleared stays so while its two fields and the cause set stand. -/
theorem NoFaultRecorded.of_ex {t : State} (hcapture : (t.ex e).capture = (s.ex e).capture)
    (hlater : (t.ex e).laterFaults = (s.ex e).laterFaults) (hcauses : (t.ex e).causes = (s.ex e).causes) :
    NoFaultRecorded t e := by
  obtain ⟨hnone, hzero, hrec⟩ := hs
  refine ⟨hcapture.trans hnone, hlater.trans hzero, ?_⟩
  rwa [Exhibit.causeRec, hcauses]

theorem NoFaultRecorded.enter (st : ExState) : NoFaultRecorded (enter e st s) e := by
  apply hs.of_ex <;> rw [enter_ex]

theorem NoFaultRecorded.enterHeld (a : Activity) : NoFaultRecorded (enterHeld e a s) e := by
  apply hs.of_ex <;> simp [Machine.enterHeld]

theorem NoFaultRecorded.startRest : NoFaultRecorded (startRest e s) e := by
  obtain ⟨t, hex⟩ := startRest_ex e s
  apply hs.of_ex <;> rw [hex]

theorem NoFaultRecorded.unset : NoFaultRecorded (s.modEx e (fun x => { x with axesSet := [] })) e := by
  apply hs.of_ex <;> rw [State.modEx_ex_same]

theorem NoFaultRecorded.request (n : Nat) (p : Purpose) : NoFaultRecorded (request e n p s).1 e := by
  have hown := inner_own (request_inner e n p s) e
  exact hs.of_ex (by simpa using congrArg Exhibit.capture hown)
    (by simpa using congrArg Exhibit.laterFaults hown)
    (causes_congr (request_causeSets e s n p) e)

theorem NoFaultRecorded.homingRefused : NoFaultRecorded (homingRefused e s) e := by
  have hown := homingRefused_own e s
  have hcauses : (Machine.homingRefused e s).causeSets = s.causeSets := by
    rw [Machine.homingRefused, lockDown_causeSets,
      State.modEx_causeSets e _ (fun x => { x with lock := { x.lock with order := true } }) rfl,
      dropQueued_causeSets, endHomingOrder_causeSets]
  exact hs.of_ex (by simpa using congrArg Exhibit.capture hown)
    (by simpa using congrArg Exhibit.laterFaults hown) (causes_congr hcauses e)

/-- Homing asked for, refused, deferred or held back puts nothing on record; a claim of 0 would start moves. -/
theorem NoFaultRecorded.enterHoming (hclaim : (s.ex e).hold.isEmpty = true → homingClaim s e ≠ 0) :
    NoFaultRecorded (enterHoming e s) e := by
  have hentered : NoFaultRecorded (homingEntered e s) e := hs.unset.enter .homing
  cases hhold : (s.ex e).hold.isEmpty with
  | true =>
    rw [enterHoming_free e s hhold (hclaim hhold)]
    have hasked := hentered.request (homingClaim s e) .homing
    split
    · exact hasked.homingRefused
    · exact hasked
  | false =>
    cases hen : s.energised e with
    | true => rw [enterHoming_held e s hhold hen]; exact hs.unset.enterHeld .homing
    | false => rw [enterHoming_deferred e s hhold hen]; exact hentered

end

/-! ### The record and its cause cleared (R175) -/

/-- Every kind but GUARD TRIP raises MOTION FAULT (R170). -/
theorem FaultKind.cause_of_ne {k : FaultKind} (hk : k ≠ .guardTrip) : k.cause = .motionFault := by
  cases k with
  | guardTrip => exact absurd rfl hk
  | _ => rfl

/-- An exhibit whose capture record and cause of a fault of some kind are cleared. -/
def faultCleared (e : Nat) (k : FaultKind) (s : State) : State :=
  clearCauses e [k.cause] (s.modEx e (fun x => { x with capture := none, laterFaults := 0 }))

section
variable (e : Nat) (k : FaultKind) (s : State)

theorem faultCleared_own :
    ((faultCleared e k s).ex e).own = { (s.ex e).own with capture := none, laterFaults := 0 } := by
  rw [faultCleared, inner_own (clearCauses_inner ..), State.modEx_ex_same]
  rfl

theorem faultCleared_keptBut : KeptBut callFields s (faultCleared e k s) :=
  ((State.modEx_keptBut _ _ _).mono (by decide)).trans (clearCauses_keptBut _ _ _)

theorem faultCleared_axes : ((faultCleared e k s).ex e).axes = (s.ex e).axes := by
  simpa using congrArg Exhibit.axes (faultCleared_own e k s)

theorem faultCleared_state : ((faultCleared e k s).ex e).state = (s.ex e).state := by
  simpa using congrArg Exhibit.state (faultCleared_own e k s)

theorem faultCleared_hold : ((faultCleared e k s).ex e).hold = (s.ex e).hold := by
  simpa using congrArg Exhibit.hold (faultCleared_own e k s)

theorem faultCleared_lock : ((faultCleared e k s).ex e).lock = (s.ex e).lock := by
  simpa using congrArg Exhibit.lock (faultCleared_own e k s)

theorem faultCleared_queued : ((faultCleared e k s).ex e).queued = (s.ex e).queued := by
  simpa using congrArg Exhibit.queued (faultCleared_own e k s)

theorem faultCleared_ch (c : Nat) : (faultCleared e k s).ch c = s.ch c :=
  (faultCleared_keptBut e k s).ch (by decide) c

theorem faultCleared_claim : homingClaim (faultCleared e k s) e = homingClaim s e :=
  homingClaim_congr (faultCleared_axes e k s) (faultCleared_ch e k s)

theorem faultCleared_energised : (faultCleared e k s).energised e = s.energised e := by
  simp [State.energised, faultCleared_axes, faultCleared_ch]

theorem faultCleared_budget :
    ((faultCleared e k s).group ((faultCleared e k s).ex e).group).budget = (s.group (s.ex e).group).budget := by
  rw [group_congr (faultCleared_axes e k s), (faultCleared_keptBut e k s).group (by decide)]

theorem faultCleared_cleared (hk : k ≠ .guardTrip) : NoFaultRecorded (faultCleared e k s) e := by
  have hown := faultCleared_own e k s
  refine ⟨by simpa using congrArg Exhibit.capture hown, by simpa using congrArg Exhibit.laterFaults hown, ?_⟩
  exact clearCauses_causeRec _ e _ _ (by simp [FaultKind.cause_of_ne hk])

end

/-! ### What a cleared fault leads to (R30, R36) -/

section
variable (e : Nat) (c : Capture) (s : State)

/-- Only a FAULTED exhibit leaves its state when its fault is cleared. -/
theorem clearFaultOf_stays (hstate : (s.ex e).state ≠ .faulted) :
    clearFaultOf e c s = faultCleared e c.report.kind s := if_neg hstate

/-- A FAULTED exhibit goes on as one that leaves LOCKED OUT does. -/
theorem clearFaultOf_leaves (hstate : (s.ex e).state = .faulted) :
    clearFaultOf e c s = leaveLockedOut e (faultCleared e c.report.kind s) := by
  rw [leaveLockedOut, faultCleared_axes]
  exact if_pos hstate

theorem clearFaultOf_lasts : Lasts s (clearFaultOf e c s) := by
  have hcleared : Lasts s (faultCleared e c.report.kind s) :=
    ((Lasts.refl s).after_modEx e _ ⟨rfl, rfl, id⟩).after_inner (clearCauses_inner ..)
  by_cases hstate : (s.ex e).state = .faulted
  · rw [clearFaultOf_leaves e c s hstate]
    exact hcleared.after_leaveLockedOut e
  · rw [clearFaultOf_stays e c s hstate]
    exact hcleared

section
variable (hkind : c.report.kind ≠ .guardTrip)
include hkind

theorem clearFaultOf_locked (hstate : (s.ex e).state = .lockedOut) :
    ((clearFaultOf e c s).ex e).state = .lockedOut ∧ NoFaultRecorded (clearFaultOf e c s) e := by
  rw [clearFaultOf_stays e c s (by rw [hstate]; decide)]
  exact ⟨(faultCleared_state ..).trans hstate, faultCleared_cleared e _ s hkind⟩

section
variable (hstate : (s.ex e).state = .faulted)
include hstate

/-- Without axes and a queued start the exhibit is READY (R36). -/
theorem clearFaultOf_readies (haxes : (s.ex e).axes = []) (hqueued : (s.ex e).queued = none) :
    ((clearFaultOf e c s).ex e).state = .ready ∧ NoFaultRecorded (clearFaultOf e c s) e := by
  rw [clearFaultOf_leaves e c s hstate,
    leaveLockedOut_ready e _ ((faultCleared_axes ..).trans haxes) ((faultCleared_queued ..).trans hqueued)]
  have hready := (faultCleared_cleared e c.report.kind s hkind).enter .ready
  obtain ⟨t, hex⟩ := startRest_ex e (enter e .ready (faultCleared e c.report.kind s))
  exact ⟨by rw [hex, enter_ex], hready.startRest⟩

section
variable (haxes : (s.ex e).axes ≠ [])
include haxes

/-- Without hold reasons the exhibit homes, where its group can serve the homing claim (R30). -/
theorem clearFaultOf_homes (hhold : (s.ex e).hold = ⟨false, false, false⟩)
    (hbudget : WithinBudget s e (homingClaim s e)) :
    ((clearFaultOf e c s).ex e).state = .homing ∧ ((clearFaultOf e c s).ex e).axesSet = [] ∧
      Asked s (clearFaultOf e c s) e (homingClaim s e) .homing ∧ NoFaultRecorded (clearFaultOf e c s) e ∧
      KeptBut [.exhibits, .groups, .handed, .calls, .beacons, .views, .notice] s (clearFaultOf e c s) := by
  have haxes' : ((faultCleared e c.report.kind s).ex e).axes ≠ [] := by rwa [faultCleared_axes]
  have hbudget' : WithinBudget (faultCleared e c.report.kind s) e
      (homingClaim (faultCleared e c.report.kind s) e) := by
    rwa [faultCleared_claim, WithinBudget, faultCleared_budget]
  rw [clearFaultOf_leaves e c s hstate, leaveLockedOut_homing e _ haxes']
  obtain ⟨hasked, hown, hframe⟩ := enterHoming_asks e _ haxes' ((faultCleared_hold ..).trans hhold) hbudget'
  have hkept := faultCleared_keptBut e c.report.kind s
  rw [faultCleared_claim] at hasked
  refine ⟨by simpa using congrArg Exhibit.state hown, by simpa using congrArg Exhibit.axesSet hown,
    hasked.since ⟨[], by rw [List.append_nil]; exact hkept .handed (by decide)⟩,
    (faultCleared_cleared e _ s hkind).enterHoming fun _ => Nat.ne_of_gt hbudget'.1,
    (hkept.mono (by decide)).trans (hframe.mono (by decide))⟩

/-- A homing claim over the budget locks the exhibit out by ORDER (R30). -/
theorem clearFaultOf_over (hhold : (s.ex e).hold = ⟨false, false, false⟩)
    (hover : (s.group (s.ex e).group).budget < homingClaim s e) :
    ((clearFaultOf e c s).ex e).state = .lockedOut ∧
      ((clearFaultOf e c s).ex e).lock = { (s.ex e).lock with order := true } ∧
      NoFaultRecorded (clearFaultOf e c s) e := by
  rw [clearFaultOf_leaves e c s hstate, leaveLockedOut_homing e _ (by rwa [faultCleared_axes])]
  obtain ⟨hlocked, hlock, -⟩ := enterHoming_over e (faultCleared e c.report.kind s)
    ((faultCleared_hold ..).trans hhold) (by rwa [faultCleared_claim, faultCleared_budget])
  rw [faultCleared_lock] at hlock
  refine ⟨hlocked, hlock, (faultCleared_cleared e _ s hkind).enterHoming fun _ => ?_⟩
  rw [faultCleared_claim]
  exact Nat.ne_of_gt (Nat.zero_lt_of_lt hover)

/-- With a hold reason present the exhibit defers its claim, or is HELD to home later (R30). -/
theorem clearFaultOf_waits (hhold : (s.ex e).hold.isEmpty = false) :
    (s.energised e = true → ((clearFaultOf e c s).ex e).state = .held ∧
        ((clearFaultOf e c s).ex e).heldAct = some .homing) ∧
      (s.energised e = false → ((clearFaultOf e c s).ex e).state = .homing) ∧
      NoFaultRecorded (clearFaultOf e c s) e ∧
      KeptBut [.exhibits, .calls, .beacons, .views, .notice] s (clearFaultOf e c s) := by
  have hhold' : ((faultCleared e c.report.kind s).ex e).hold.isEmpty = false := by rwa [faultCleared_hold]
  rw [clearFaultOf_leaves e c s hstate, leaveLockedOut_homing e _ (by rwa [faultCleared_axes])]
  obtain ⟨-, -, -, hdeferred, hheld, hframe⟩ := enterHoming_waits e (faultCleared e c.report.kind s) hhold'
  rw [faultCleared_energised] at hdeferred hheld
  exact ⟨hheld, hdeferred,
    (faultCleared_cleared e _ s hkind).enterHoming fun hempty => absurd hempty (by simp [hhold']),
    ((faultCleared_keptBut e c.report.kind s).mono (by decide)).trans (hframe.mono (by decide))⟩

end

end

end

end

/-! ### The order (R177) -/

/-- What is asked for between the take and the completion of an order is asked for by the whole command. -/
theorem Asked.of_accepted {h : OrderHead} {b : OrderBody} {u v : State} {e n : Nat} {p : Purpose}
    (hasked : Asked (accepted h b u) v e n p) (o : OrderOutcome) (r : Word) :
    Asked u (publish (complete h.slot.val o r v)) e n p :=
  (hasked.since ⟨[], (List.append_nil _).symm⟩).of_keptBut
    ((KeptBut.refl orderFields v).publish_complete (List.Subset.refl _) _ _ _)

section
variable {e k : Nat} {c : Capture} {s : State}

theorem faultOrder_empty (hnone : (s.ex e).capture = none) : faultOrder e k s = .refuse .state 0 := by
  simp only [faultOrder, hnone]

theorem faultOrder_barred (hcapture : (s.ex e).capture = some c)
    (hbar : (s.ex e).call.remoteClear = false ∨ c.report.kind = .guardTrip) :
    faultOrder e k s = .refuse .state (BitVec.ofNat 32 c.report.kind.code) := by
  have hbarred : (!(s.ex e).call.remoteClear || c.report.kind == .guardTrip) = true := by simpa using hbar
  simp only [faultOrder, hcapture, if_pos hbarred]

theorem faultOrder_clears (hcapture : (s.ex e).capture = some c) (hremote : (s.ex e).call.remoteClear = true)
    (hkind : c.report.kind ≠ .guardTrip) :
    faultOrder e k s = .go (complete k .done
      (BitVec.ofNat 32 (c.report.kind.code + 65536 * (s.ex e).laterFaults)) (clearFaultOf e c s)) := by
  have hfree : ¬ (!(s.ex e).call.remoteClear || c.report.kind == .guardTrip) = true := by simp [hremote, hkind]
  simp only [faultOrder, hcapture, if_neg hfree, doneWith]

end

section
variable {h : OrderHead} {u : State} (hmay : MayOrderExhibit u h) (huntimed : Untimed h)
include hmay huntimed

/-- CLEAR FAULT refused by its own rule. -/
theorem postAndTake_clearFault_refused {r : Word}
    (hrefuse : faultOrder (OrderHead.ex h) h.slot.val (accepted h .clearFault u) = .refuse .state r) :
    postAndTake h .clearFault u =
      refuseAtTake h.slot.val (hostFieldsOf h .clearFault) .state r (postedAndTaken h .clearFault u) :=
  postAndTake_of_refuse hmay.1 rfl (takeRefusal_of_mayOrder hmay huntimed rfl rfl rfl) huntimed hrefuse

/-- What an accepted CLEAR FAULT comes to. -/
theorem postAndTake_clearFault {c : Capture} (hcapture : (u.ex (OrderHead.ex h)).capture = some c)
    (hremote : (u.ex (OrderHead.ex h)).call.remoteClear = true) (hkind : c.report.kind ≠ .guardTrip) :
    postAndTake h .clearFault u = complete h.slot.val .done
      (BitVec.ofNat 32 (c.report.kind.code + 65536 * (u.ex (OrderHead.ex h)).laterFaults))
      (clearFaultOf (OrderHead.ex h) c (accepted h .clearFault u)) :=
  postAndTake_of_go hmay.1 rfl (takeRefusal_of_mayOrder hmay huntimed rfl rfl rfl) huntimed (by decide)
    (faultOrder_clears hcapture hremote hkind)

end

/-- Settles O39: the record decides between a refusal and the clearing, after which a FAULTED exhibit goes on as one
that leaves LOCKED OUT, and nothing on that way puts a fault on record again. -/
theorem clearFaultClearsTheRecord : Obligations.ClearFaultClearsTheRecord := by
  intro h s u e x claim hmay huntimed
  have hclaim : homingClaim (accepted h .clearFault u) e = claim := accepted_claim h _ u e
  refine ⟨fun hnone => ?_, fun c hcapture hbar => ?_, fun c hcapture hremote hkind => ?_⟩
  · exact ⟨_, exec_orderCommand (postAndTake_clearFault_refused hmay huntimed (faultOrder_empty hnone)),
      refusedOnly_of_refuseAtTake (by decide)⟩
  · exact ⟨_, exec_orderCommand (postAndTake_clearFault_refused hmay huntimed (faultOrder_barred hcapture hbar)),
      refusedOnly_of_refuseAtTake (by decide)⟩
  refine ⟨_, exec_orderCommand (postAndTake_clearFault hmay huntimed hcapture hremote hkind), ?_, ?_,
    fun hstate => ?_, fun hstate haxes hqueued => ?_, fun hstate haxes hhold hbudget => ?_,
    fun hstate haxes hhold hover => ?_, fun hstate haxes hhold => ?_⟩
  · exact slotDone_of_complete (((clearFaultOf_lasts e c _).take _).trans (accepted_take h _ u))
      (outer_lastTaken (clearFaultOf_outer ..))
  · exact exhibits_publish_complete (keptBut_of_outer (clearFaultOf_outer ..)) (by decide) (by decide) _ _
  · rw [publish_ex, complete_ex]
    exact clearFaultOf_locked e c (accepted h .clearFault u) hkind hstate
  · rw [publish_ex, complete_ex]
    exact clearFaultOf_readies e c (accepted h .clearFault u) hkind hstate haxes hqueued
  · obtain ⟨hhoming, hset, hasked, hcleared, hframe⟩ := clearFaultOf_homes e c (accepted h .clearFault u) hkind
      hstate haxes hhold (by rw [hclaim]; exact hbudget)
    rw [hclaim] at hasked
    rw [publish_ex, complete_ex]
    exact ⟨hhoming, hset, hasked.of_accepted _ _, hcleared,
      exhibits_publish_complete hframe (by decide) (by decide) _ _⟩
  · rw [publish_ex, complete_ex]
    exact clearFaultOf_over e c (accepted h .clearFault u) hkind hstate haxes hhold (by rw [hclaim]; exact hover)
  · obtain ⟨hheld, hdeferred, hcleared, hframe⟩ := clearFaultOf_waits e c (accepted h .clearFault u) hkind hstate
      haxes hhold
    rw [publish_ex, complete_ex]
    exact ⟨hheld, hdeferred, hcleared, exhibits_publish_complete hframe (by decide) (by decide) _ _⟩

end Sys2Proof.Machine
end

section
/-! PROOFS. The order unit stays sound: the control mask is never empty, and the due list never holds more than 16
orders or one of a kind that may carry no due tick (R186, R188). -/

namespace Sys2Proof.Machine

/-! ### The first of a list that passes a test -/

/-- What the first member that passes a test is, and what stays of the list without it. -/
theorem takeFirst_eq_some {α : Type} {p : α → Bool} {l r : List α} {a : α} (h : takeFirst p l = some (a, r)) :
    a ∈ l ∧ p a = true ∧ r.Sublist l := by
  induction l generalizing r with
  | nil => simp [takeFirst] at h
  | cons b l ih =>
    by_cases hb : p b = true
    · obtain ⟨rfl, rfl⟩ : b = a ∧ l = r := by simpa [takeFirst, hb] using h
      exact ⟨List.mem_cons_self, hb, List.sublist_cons_self b l⟩
    · obtain ⟨q, hq, hr⟩ : ∃ q, takeFirst p l = some (a, q) ∧ b :: q = r := by
        simpa [takeFirst, hb] using h
      obtain ⟨hmem, ha, hsub⟩ := ih hq
      exact ⟨List.mem_cons_of_mem b hmem, ha, hr ▸ hsub.cons_cons b⟩

/-! ### Orders that pass their checks -/

/-- What an order that no take-time check refuses meets (R185). -/
theorem of_takeRefusal_none {s : State} {k : Nat} {d : HostFields} {b : OrderBody}
    (hread : readOrder d.kind d.params = some b) (hchecks : takeRefusal s k d = none) :
    paramCheck d b = true ∧ (dueAllowed b = true → d.duePresent = true → s.dueList.length < 16) := by
  have hexhibit : exhibitCheck s d.exhibit.toNat b = none := by
    cases hcheck : exhibitCheck s d.exhibit.toNat b with
    | none => rfl
    | some a => simp [takeRefusal, hread, hcheck] at hchecks
  simp only [takeRefusal, hread, hexhibit] at hchecks
  split_ifs at hchecks with haccess hparam hfull
  refine ⟨by simpa using hparam, fun hdue hpresent => ?_⟩
  simpa [hdue, hpresent] using hfull

/-- A SET CONTROL mask that passes the parameter check is not empty (R186). -/
theorem controlMask_ne_zero {m : Byte} (h : paramsOk (.setControl m) = true) : BitVec.ofNat 4 m.toNat ≠ 0 := by
  obtain ⟨hlt, hne⟩ : m.toNat < 16 ∧ m ≠ 0 := by simpa [paramsOk, sourceMask] using h
  intro hzero
  refine hne (BitVec.eq_of_toNat_eq ?_)
  have hmod : m.toNat % 16 = 0 := congrArg BitVec.toNat hzero
  rw [Nat.mod_eq_of_lt hlt] at hmod
  exact hmod

/-- The order that a sound due-list entry spells. -/
theorem DueEntry.allowed_iff {d : DueEntry} :
    d.allowed = true ↔ ∃ b, readOrder d.host.kind d.host.params = some b ∧ dueAllowed b = true := by
  unfold DueEntry.allowed
  cases readOrder d.host.kind d.host.params <;> simp

namespace OrderUnitSound

section
variable {s : State} (h : OrderUnitSound s) (k : Nat)
include h

/-! ### What the order unit's soundness depends on -/

/-- The control mask and the due list alone decide, and a due list may lose entries or change their order. -/
theorem of_fewer {t : State} (hcontrol : t.control = s.control)
    (hdue : ∃ l, t.dueList.Perm l ∧ l.Sublist s.dueList) : OrderUnitSound t := by
  obtain ⟨hmask, hlen, hall⟩ := h
  obtain ⟨l, hperm, hsub⟩ := hdue
  refine ⟨hcontrol ▸ hmask, ?_, fun d hd => hall d (hsub.subset (hperm.subset hd))⟩
  rw [hperm.length_eq]
  exact hsub.length_le.trans hlen

theorem of_port {t : State} (ht : t.outer.port = s.outer.port) : OrderUnitSound t := by
  have hdue : t.dueList = s.dueList := congrArg PortFields.dueList ht
  exact h.of_fewer (congrArg PortFields.control ht) ⟨s.dueList, hdue ▸ .refl _, .refl _⟩

theorem of_outer {t : State} (ht : t.outer = s.outer) : OrderUnitSound t := h.of_port (congrArg _ ht)

/-! ### HALT and the gallery mode -/

theorem after_enterHalt : OrderUnitSound (enterHalt s) := by
  unfold enterHalt
  split
  · exact h
  · exact of_outer (s := { s with mode := .halt }) h (holdGallery_outer _)

theorem after_setMode (m : GalleryMode) : OrderUnitSound (setMode m s) := by
  unfold setMode
  split
  · exact h.after_enterHalt
  · split
    · exact of_outer (s := { s with mode := m }) h (releaseGallery_outer _)
    · exact h

theorem after_haltIfLow : OrderUnitSound (haltIfLow s) := by
  unfold haltIfLow
  split
  · exact h
  · exact h.after_enterHalt

theorem after_haltPinLow : OrderUnitSound (haltPinLow s) := by
  unfold haltPinLow
  split
  · exact after_enterHalt (s := { s with haltPin := false }) h
  · exact h

/-! ### Performing an order -/

/-- SET CONTROL stores a mask in range; SET CLOCK puts the due list in order, CANCEL takes an entry out of it, and
no other order touches either (R186, R189, R190). -/
theorem after_performOrder (d : HostFields) {b : OrderBody}
    (hmask : ∀ m, b = .setControl m → paramsOk b = true) : (performOrder k d b s).Gives OrderUnitSound := by
  have ofOuter : ∀ {v : Verdict}, v.Gives (fun t => t.outer = s.outer) → v.Gives OrderUnitSound :=
    fun hv => hv.imp fun _ => h.of_outer
  have ofPort : ∀ {v : Verdict}, v.Gives (fun t => t.outer.port = s.outer.port) → v.Gives OrderUnitSound :=
    fun hv => hv.imp fun _ => h.of_port
  cases b with
  | bringUp o => exact ofPort (bringUpOrder_port ..)
  | retire => exact h.of_port (retireExhibit_port ..)
  | setAccess m => exact h
  | home => exact ofOuter (homeOrder_outer ..)
  | stop => exact ofOuter (stopOrder_outer ..)
  | hold => exact h.of_outer (addHold_outer ..)
  | release => exact h.of_outer (removeHold_outer ..)
  | lockOut => exact ofOuter (lockOrder_outer ..)
  | returnToService => exact ofOuter (returnOrder_outer ..)
  | setMode m =>
    simp only [performOrder, modeOrder]
    split
    · trivial
    · exact h.after_setMode _
  | setLamps p => exact h
  | setLink m t d => exact ofPort (linkOrder_port ..)
  | runRoutine r => exact ofOuter (runOrder_outer ..)
  | stepRun => exact ofOuter (stepOrder_outer ..)
  | commit r o => exact ofPort (commitOrder_port ..)
  | clearRoutine r => exact ofOuter (clearRoutineOrder_outer ..)
  | setBudget g b => exact ofOuter (budgetOrder_outer ..)
  | setZone z => exact ofPort (zoneOrder_port ..)
  | raiseCall v => exact h.of_outer (raiseCause_outer ..)
  | ackCall c => exact h.of_outer (ackCauses_outer ..)
  | clearCall c => exact ofOuter (clearOrder_outer ..)
  | clearFault => exact ofOuter (faultOrder_outer ..)
  | setControl m => exact ⟨controlMask_ne_zero (hmask m rfl), h.2⟩
  | setClock t => exact h.of_fewer rfl ⟨s.dueList, (sortDue_spec t s.dueList).1, .refl _⟩
  | cancel n =>
    simp only [performOrder, cancelOrder]
    split
    · exact h.of_fewer rfl ⟨_, .refl _, List.filter_sublist⟩
    · exact h

theorem after_captureDenial (d : HostFields) : OrderUnitSound (captureDenial k d s) := by
  unfold captureDenial
  split <;> exact h

theorem after_refuseAtTake (d : HostFields) (a : Acceptance) (r : Word) :
    OrderUnitSound (refuseAtTake k d a r s) := by
  unfold refuseAtTake
  dsimp only
  split
  · refine after_captureDenial ?_ k d
    exact h
  · exact h

/-! ### The due list -/

/-- An order that may carry a due tick is no SET CONTROL, so performing it when due stores no mask. -/
theorem after_performDue {d : DueEntry} (hd : d.allowed = true) : OrderUnitSound (performDue d s) := by
  obtain ⟨b, hread, hallowed⟩ := DueEntry.allowed_iff.1 hd
  have hgives : (performOrder d.slot d.host b s).Gives OrderUnitSound :=
    h.after_performOrder d.slot d.host fun m hb => by simp [hb, dueAllowed] at hallowed
  simp only [performDue, hread]
  split
  · exact h
  · split
    · refine after_captureDenial ?_ d.slot d.host
      exact h
    · split
      · next hgo => rw [hgo] at hgives; exact hgives
      · exact h

theorem after_dueNext : OrderUnitSound (dueNext s) := by
  unfold dueNext
  split
  · exact h
  · next d r hfirst =>
    obtain ⟨hmem, _, hsub⟩ := takeFirst_eq_some hfirst
    exact (h.of_fewer (t := { s with dueList := r }) rfl ⟨r, .refl _, hsub⟩).after_performDue (h.2.2 d hmem)

theorem after_dueEvent : OrderUnitSound (dueEvent s) := by
  unfold dueEvent
  split
  · exact h
  · next d r hlist =>
    split
    · refine (h.of_fewer (t := { s with dueList := r }) rfl ⟨r, .refl _, ?_⟩).after_performDue (h.2.2 d ?_)
      · rw [hlist]; exact List.sublist_cons_self d r
      · rw [hlist]; exact List.mem_cons_self
    · exact h

theorem after_evaluateDue : OrderUnitSound (evaluateDue s) :=
  eachEvent_induct _ _ s h fun _ _ _ ht => ht.after_dueNext.of_outer (closeEvent_outer _)

/-- An order enters the due list only with room in it (R185 check 5, R188). -/
theorem after_enterDue {d : HostFields} {b : OrderBody} (hread : readOrder d.kind d.params = some b)
    (hallowed : dueAllowed b = true) (hroom : s.dueList.length < 16) : OrderUnitSound (enterDue k d s) := by
  obtain ⟨hmask, _, hall⟩ := h
  have hperm := insertDue_perm s.tick ⟨k, d.due, d⟩ s.dueList
  have hentered : OrderUnitSound { s with dueList := insertDue s.tick ⟨k, d.due, d⟩ s.dueList } := by
    refine ⟨hmask, ?_, fun x hx => ?_⟩
    · rw [hperm.length_eq]
      exact hroom
    · rcases List.mem_cons.1 (hperm.subset hx) with rfl | hx
      · exact DueEntry.allowed_iff.2 ⟨b, hread, hallowed⟩
      · exact hall x hx
  unfold enterDue
  dsimp only
  split
  · exact hentered.after_evaluateDue
  · exact hentered

/-! ### The take -/

theorem after_decideOrder (d : HostFields) : OrderUnitSound (decideOrder k d s) := by
  have haccepted : OrderUnitSound (acceptOrder k s) := h
  unfold decideOrder
  split
  · exact h.after_refuseAtTake k d _ _
  · exact h.after_refuseAtTake k d _ _
  · next b hchecks hread =>
    obtain ⟨hparam, hroom⟩ := of_takeRefusal_none hread hchecks
    split
    · next hdue =>
      obtain ⟨hallowed, hpresent⟩ : dueAllowed b = true ∧ d.duePresent = true := by simpa using hdue
      exact haccepted.after_enterDue k hread hallowed (hroom hallowed hpresent)
    · have hgives := haccepted.after_performOrder k d (b := b) fun m hb => by
        subst hb
        simp only [paramCheck, Bool.and_eq_true] at hparam
        exact hparam.1
      split
      · exact h.after_refuseAtTake k d _ _
      · next hgo =>
        rw [hgo] at hgives
        split
        · exact after_evaluateDue hgives
        · exact hgives

theorem after_takeSlot : OrderUnitSound (takeSlot k s) := by
  refine after_decideOrder ?_ k _
  exact h

theorem after_postAndTake (d : OrderHead) (b : OrderBody) : OrderUnitSound (postAndTake d b s) := by
  unfold postAndTake
  dsimp only
  split
  · exact h
  · refine after_takeSlot ?_ _
    exact h

theorem after_takeNext : OrderUnitSound (takeNext s) := by
  unfold takeNext
  split
  · exact h
  · split
    · exact h
    · refine after_takeSlot ?_ _
      exact h

theorem after_startPass : OrderUnitSound (startPass s) := by
  unfold startPass
  split <;> exact h

/-! ### Resets, registers and host writes -/

omit h in
/-- A reset sets the control mask to source 0 and empties the due list (R191). -/
theorem of_powerOn : OrderUnitSound (powerOn s) :=
  after_haltIfLow ⟨by simp [powerBlocks, State.reset], by simp [powerBlocks, State.reset],
    by simp [powerBlocks, State.reset]⟩

omit h in
theorem of_partReset : OrderUnitSound (partReset s) :=
  after_haltIfLow ⟨by simp [powerBlocks, State.reset], by simp [powerBlocks, State.reset],
    by simp [powerBlocks, State.reset]⟩

theorem after_writeControl (b : Byte) : OrderUnitSound (writeControl b s) := by
  have hreset : OrderUnitSound (if b.getLsbD 0 then partReset s else s) := by
    split
    · exact of_partReset
    · exact h
  unfold writeControl
  dsimp only
  split
  · exact hreset.after_enterHalt
  · exact hreset

theorem after_writeRegister (o : Nat) (b : Byte) : OrderUnitSound (writeRegister o b s) := by
  unfold writeRegister
  split
  · split <;> exact h
  · exact h
  · exact h
  · exact h.after_writeControl b
  · exact h

theorem after_hostPost : OrderUnitSound (hostPost k s) := by
  unfold hostPost
  split <;> exact h

theorem after_hostEmpty : OrderUnitSound (hostEmpty k s) := by
  unfold hostEmpty
  split <;> exact h

theorem after_writeSlotByte (o : Nat) (b : Byte) : OrderUnitSound (writeSlotByte k o b s) := by
  unfold writeSlotByte
  split
  · split
    · exact h.after_hostPost k
    · split
      · exact h.after_hostEmpty k
      · exact h
  · split <;> exact h

theorem after_writeByte (a : Nat) (b : Byte) : OrderUnitSound (writeByte a b s) := by
  unfold writeByte
  split
  · exact h.after_writeSlotByte _ _ b
  · split
    · unfold writeJournalByte
      split
      · exact h.of_port (giveBack_port ..)
      · exact h
    · split
      · exact h
      · split
        · exact h.after_writeRegister _ b
        · exact h

theorem after_hostWriteOf (a : Nat) (d : HostData) : OrderUnitSound (hostWriteOf a d s) := by
  cases d with
  | byte b => exact h.after_writeByte a b
  | half v => exact (h.after_writeByte a _).after_writeByte _ _

/-! ### Every command -/

theorem after_portEffect (c : Instr) : OrderUnitSound (portEffect c s) := by
  cases c with
  | powerOn => exact of_powerOn
  | partReset => exact of_partReset
  | controlHalt => exact h.after_enterHalt
  | registerWrite o v => exact h.after_writeRegister o.val v
  | hostWrite o d => exact h.after_hostWriteOf o.toNat d
  | slotPost k => exact h.after_hostPost k.val
  | slotEmpty k => exact h.after_hostEmpty k.val
  | pageFree k => exact h.of_port (giveBack_port ..)
  | scanPass => exact h.after_startPass
  | take => exact h.after_takeNext
  | dueExpiry => exact h.after_dueEvent
  | galleryHaltLow => exact h.after_haltPinLow
  | poll => exact h.of_port (sendPoll_port _)
  | reply bs => exact h.of_port (receiveReply_port ..)
  | replyTimeout => exact h.of_port (windowCloses_port _)
  | refillExpiry i => exact h.of_port (refillDue_port ..)
  | lingerExpiry => exact h.of_port (lingerDue_port _)
  | restTimerExpiry e => exact h.of_outer (restExpired_outer ..)
  | grant => exact h.of_outer (deliverFirst_outer ..)
  | cuePulseEnd l => exact h.of_outer (cueEnd_outer ..)
  | motionTick c => exact h.of_outer (motionTickOf_outer ..)
  | homingTick c => exact h.of_outer (homingTickOf_outer ..)
  | brakingTick c => exact h.of_outer (brakingTickOf_outer ..)
  | deadlineOverrun c => exact h.of_outer (deliverFirst_outer ..)
  | dwellExpiry e => exact h.of_outer (dwellExpired_outer ..)
  | homeActive c => exact h.of_outer (homeOn_outer ..)
  | limitActive c => exact h.of_outer (limitOn_outer ..)
  | drvReadyActive c => exact h.of_outer (readyOn_outer ..)
  | drvFaultActive c => exact h.of_outer (faultOn_outer ..)
  | channelInputChange c i l => exact h.of_outer (sampleChange_outer ..)
  | escalationExpiry n => exact h.of_outer (escalate_outer ..)
  | holdExpiry e => exact h.of_outer (helpHoldDue_outer ..)
  | refreshExpiry b => exact h.of_outer (refreshDue_outer ..)
  | beacon => exact h.of_port (sendBeacon_port _)
  | dark => exact h.of_port (sendDark_port _)
  | ack c g t => exact h.of_port (receiveBytes_port ..)
  | badFrame bs => exact h.of_port (receiveBytes_port ..)
  | interbyteGap => exact h.of_port (gapPasses_port _)
  | _ => exact h

theorem after_effect (c : Instr) : OrderUnitSound (effect c s) := by
  cases hc : c.order with
  | some o => rw [effect_of_order hc]; exact h.after_postAndTake _ _
  | none => rw [effect_of_no_order hc]; exact h.after_portEffect c

end

end OrderUnitSound

/-- Settles O6: only an accepted SET CONTROL stores a mask, which its parameter check has found not empty, and only
an accepted order with a due tick enters the due list, with room in it; a due-list entry that is performed is thus
no SET CONTROL. -/
theorem stepKeepsOrderUnitSound : Obligations.StepKeepsOrderUnitSound := by
  intro s t h hstep
  obtain ⟨_, rfl⟩ | ⟨c, r, _, rfl⟩ := step_cases hstep
  · exact h
  · have hfound : OrderUnitSound (found c { s with pending := r }) :=
      OrderUnitSound.of_outer (s := { s with pending := r }) h (found_outer c _)
    exact (hfound.after_effect c).of_outer (publish_outer _)

end Sys2Proof.Machine
end

section
/-! PROOFS. Idle milliseconds and the reset state, and the resets: POWER_ON and PART_RESET (R38, R169, R182, R190,
R191). -/

namespace Sys2Proof.Machine

/-! ### An idle millisecond and the reset state -/

theorem with_tick_keptBut (s : State) (n : Tick) : KeptBut [.tick] s { s with tick := n } := by
  intro g hg
  cases g <;> first | rfl | exact absurd List.mem_cons_self hg

/-- Settles O2: with no command waiting the step changes the tick alone. -/
theorem idleStepCountsTick : Obligations.IdleStepCountsTick := fun s hidle =>
  ⟨{ s with tick := s.tick + 1 }, by simp [step, hidle], rfl, with_tick_keptBut s _⟩

/-- The views of the reset state are current: every record stands at its reset value. -/
theorem reset_viewsCurrent : ViewsCurrent State.reset := by decide

/-- Settles O3: every table of the reset state is empty, so each record of it reads its default. -/
theorem resetHoldsInvariants : Obligations.ResetHoldsInvariants := by
  refine ⟨⟨rfl, rfl, rfl, rfl, rfl, rfl, rfl, rfl, rfl, rfl, rfl, rfl, rfl, rfl, rfl⟩, fun _ => rfl, fun _ => rfl,
    fun _ => rfl, fun _ => rfl, fun _ => rfl, fun _ => ⟨rfl, rfl⟩, fun _ => rfl, rfl, fun _ => rfl, ?_,
    reset_viewsCurrent⟩
  simp [OrderUnitSound, State.reset]

/-! ### Views already current -/

/-- Writing current views sets no notice. -/
theorem ViewsCurrent.publish_eq {s : State} (h : ViewsCurrent s) : publish s = s := by
  have hnone : viewNotices s.views s.views = 0 := by simp [viewNotices, noticeIf]
  have hnotice : s.notice ||| 0 = s.notice := BitVec.or_zero
  rw [publish, h, hnone, hnotice]

/-- The header of current views reads as the blocks give it. -/
theorem ViewsCurrent.header {s : State} (h : ViewsCurrent s) : s.views.header.body = headerBody s := by
  rw [← h]
  exact View.put_body _ _

/-- A changed mode stands in the header and in no other record, and sets the EXHIBITS notice alone (R37). -/
theorem ViewsCurrent.publish_with_mode {s : State} (h : ViewsCurrent s) {m : GalleryMode}
    (hm : s.mode.code ≠ m.code) : (publish { s with mode := m }).notice = s.notice ||| noticeExhibits := by
  have hexhibits : (newViews { s with mode := m }).exhibits = s.views.exhibits :=
    (congrArg Views.exhibits h : (newViews s).exhibits = s.views.exhibits)
  have hcalls : (newViews { s with mode := m }).calls = s.views.calls :=
    (congrArg Views.calls h : (newViews s).calls = s.views.calls)
  have hbeacons : (newViews { s with mode := m }).beacons = s.views.beacons :=
    (congrArg Views.beacons h : (newViews s).beacons = s.views.beacons)
  have hheader : (newViews { s with mode := m }).header.body = headerBody { s with mode := m } :=
    View.put_body _ _
  have hnotices : viewNotices s.views (newViews { s with mode := m }) = noticeExhibits := by
    simp [viewNotices, noticeIf, hexhibits, hcalls, hbeacons, hheader, h.header, headerBody, hm, pendingCount,
      State.ex]
  exact congrArg (s.notice ||| ·) hnotices

/-- Where the blocks list no record but beacons, current header and beacon records make every view current. -/
theorem viewsCurrent_of_bare {s : State} (hexhibits : s.exhibits = []) (hcalls : s.calls = [])
    (hgroups : s.groups = []) (hinputs : s.inputs = []) (hheader : s.views.header.body = headerBody s)
    (hbeacons : ∀ b ∈ keys s.beacons, (lookup ⟨0, ⟨0, 0⟩⟩ s.views.beacons b).body = beaconBody s b) :
    ViewsCurrent s := by
  unfold ViewsCurrent newViews
  rw [View.put_of_body_eq hheader, putAll_of_current _ (fun b _ => beaconBody s b) _ _ hbeacons, hexhibits, hcalls,
    hgroups, hinputs]
  rfl

/-! ### HALT at the end of a reset (R38) -/

theorem haltIfLow_of_high {s : State} (h : s.haltPin = true) : haltIfLow s = s := if_pos h

/-- What a reset leaves to the level of the pin: CLOSED, no exhibit, no notice, and every view current. -/
structure Cleared (s : State) : Prop where
  exhibits : s.exhibits = []
  mode : s.mode = .closed
  notice : s.notice = 0
  views : ViewsCurrent s

namespace Cleared

variable {s : State} (h : Cleared s)
include h

/-- With no exhibit to hold, entering HALT changes the mode alone. -/
theorem haltIfLow_of_low (hpin : s.haltPin = false) : haltIfLow s = { s with mode := .halt } := by
  have hne : s.mode ≠ .halt := by rw [h.mode]; decide
  have hnone : holdGallery { s with mode := .halt } = { s with mode := .halt } := by
    simp [holdGallery, h.exhibits, keys, eachEvent]
  rw [haltIfLow, if_neg (by simp [hpin]), enterHalt_of_ne hne, hnone]

theorem haltIfLow_mode : (haltIfLow s).mode = if s.haltPin then .closed else .halt := by
  cases hpin : s.haltPin with
  | true => rw [haltIfLow_of_high hpin]; exact h.mode
  | false => rw [h.haltIfLow_of_low hpin]; rfl

/-- The pin found low is noticed as an entry of HALT (log entry 20). -/
theorem publish_haltIfLow_notice :
    (publish (haltIfLow s)).notice = if s.haltPin then 0 else noticeExhibits := by
  cases hpin : s.haltPin with
  | true => rw [haltIfLow_of_high hpin, h.views.publish_eq]; exact h.notice
  | false =>
    rw [h.haltIfLow_of_low hpin, h.views.publish_with_mode (by rw [h.mode]; decide), h.notice]
    rfl

theorem publish_haltIfLow_keptBut : KeptBut [.mode, .views, .notice] s (publish (haltIfLow s)) := by
  refine KeptBut.trans ?_ ((publish_keptBut _).mono (by decide))
  cases hpin : s.haltPin with
  | true => rw [haltIfLow_of_high hpin]; exact .refl _ s
  | false => rw [h.haltIfLow_of_low hpin]; exact (with_mode_keptBut s _).mono (by decide)

end Cleared

/-! ### POWER_ON -/

/-- The blocks as power-on leaves them, with the views of a cleared exchange memory (R191). -/
def powered (s : State) : State :=
  { powerBlocks s with views := { State.reset.views with header := ⟨0, headerBody (powerBlocks s)⟩ } }

theorem powerOn_eq (s : State) : powerOn s = haltIfLow (powered s) := rfl

/-- Only the header shows what power-on need not leave at its reset value: the pin and the sampled levels. -/
theorem powered_cleared (s : State) : Cleared (powered s) where
  exhibits := rfl
  mode := rfl
  notice := rfl
  views := viewsCurrent_of_bare rfl rfl rfl rfl rfl (fun _ hb => absurd hb List.not_mem_nil)

theorem powered_keptBut (s : State) :
    KeptBut [.pending, .haltPin, .channels, .views] State.reset (powered s) := by
  intro g hg
  cases g <;> first | rfl | exact absurd (by decide) hg

/-- Settles O8: power-on leaves the reset state but for the wiring's levels, and with no exhibit installed entering
HALT sets the mode and the notice of its header alone. -/
theorem powerOnResetsEveryBlock : Obligations.PowerOnResetsEveryBlock := by
  intro s u
  have hcleared := powered_cleared u
  have hkept := hcleared.publish_haltIfLow_keptBut
  refine ⟨publish (haltIfLow (powered u)), rfl,
    ((powered_keptBut u).mono (by decide)).trans (hkept.mono (by decide)), hkept .pending (by decide),
    hkept .haltPin (by decide), hcleared.haltIfLow_mode, ?_, fun c => ?_⟩
  · exact hcleared.publish_haltIfLow_notice
  · rw [hkept.ch (by decide)]
    exact lookup_mapTab unowned Channel.fresh rfl u.channels c

/-! ### PART_RESET -/

/-- The first numbers of a list of pairs numbered from 0 read their records. -/
theorem lookup_numbered {α : Type} (d : α) (g : Nat → α) (l : List Nat) (k : Nat) :
    lookup d (l.map (fun j => (j, g j))) k = if k ∈ l then g k else d := by
  induction l with
  | nil => rfl
  | cons j l ih =>
    by_cases hj : j = k
    · subst hj; simp [lookup]
    · simp [lookup, hj, ih, Ne.symm hj]

/-- What a table with every record listed reads. -/
theorem lookup_everyRecord {α : Type} (d : α) (n : Nat) (f : Nat → α → α) (t : Tab α) (k : Nat) :
    lookup d (everyRecord d n f t) k = if k < n then f k (lookup d t k) else d := by
  rw [everyRecord, lookup_numbered d (fun k => f k (lookup d t k))]
  simp only [List.mem_range]

/-- The blocks as PART RESET leaves them, with what it keeps (R191). -/
def partBlocks (s : State) : State :=
  { powerBlocks s with
    tick := s.tick
    mem := s.mem
    slots := everyRecord .zero 32 (fun _ x => { Slot.zero with edit := x.edit + 2 }) s.slots
    beacons := mapTab resetBeacon s.beacons
    linkTx := s.linkTx
    attTx := s.attTx }

/-- The blocks as PART RESET leaves them, with every view cleared under its edit count (R182). -/
def partCleared (s : State) : State :=
  { partBlocks s with views := resetViews (headerBody (partBlocks s)) s.views }

theorem partReset_eq (s : State) : partReset s = haltIfLow (partCleared s) := rfl

theorem partCleared_beacon (s : State) (b : Nat) : (partCleared s).beacon b = resetBeacon (s.beacon b) :=
  lookup_mapTab resetBeacon Beacon.free rfl s.beacons b

/-- A beacon entry after PART RESET reads FREE, whether it is or owes a DARK (R169). -/
theorem partCleared_beaconBody (s : State) (b : Nat) : beaconBody (partCleared s) b = ⟨0, 0⟩ := by
  simp only [beaconBody, partCleared_beacon, resetBeacon]
  split <;> rfl

/-- Every beacon record after PART RESET is cleared, listed or not. -/
theorem partCleared_beaconView (s : State) (b : Nat) :
    (lookup ⟨0, ⟨0, 0⟩⟩ (partCleared s).views.beacons b).body = ⟨0, 0⟩ := by
  have hrecord : lookup ⟨0, ⟨0, 0⟩⟩ (partCleared s).views.beacons b =
      if b < 64 then clearView ⟨0, 0⟩ (lookup ⟨0, ⟨0, 0⟩⟩ s.views.beacons b) else ⟨0, ⟨0, 0⟩⟩ :=
    lookup_everyRecord _ _ (fun _ => clearView (⟨0, 0⟩ : BeaconBody)) _ _
  rw [hrecord]
  split <;> rfl

theorem partCleared_cleared (s : State) : Cleared (partCleared s) where
  exhibits := rfl
  mode := rfl
  notice := rfl
  views := viewsCurrent_of_bare rfl rfl rfl rfl rfl fun b _ =>
    (partCleared_beaconView s b).trans (partCleared_beaconBody s b).symm

theorem partCleared_keptBut (s : State) :
    KeptBut [.pending, .tick, .mem, .slots, .beacons, .linkTx, .attTx, .haltPin, .channels, .views] State.reset
      (partCleared s) := by
  intro g hg
  cases g <;> first | rfl | exact absurd (by decide) hg

theorem KeptBut.beacon {fs : List Field} {s t : State} (h : KeptBut fs s t) (hf : Field.beacons ∉ fs) (b : Nat) :
    t.beacon b = s.beacon b :=
  congrArg (lookup Beacon.free · b) (h .beacons hf : t.beacons = s.beacons)

/-- Settles O9: PART RESET leaves the reset state but for the wiring's levels and what R191 keeps, with every record
of the views cleared, so that the views that follow change only where the pin is low. -/
theorem partResetKeepsTickAndAreas : Obligations.PartResetKeepsTickAndAreas := by
  intro s u
  have hcleared := partCleared_cleared u
  have hkept := hcleared.publish_haltIfLow_keptBut
  refine ⟨publish (haltIfLow (partCleared u)), rfl,
    ((partCleared_keptBut u).mono (by decide)).trans (hkept.mono (by decide)), hkept .pending (by decide),
    hkept .tick (by decide), hkept .mem (by decide), hkept .haltPin (by decide), hcleared.haltIfLow_mode, ?_,
    fun k hk => ?_, fun b => ?_, fun c => ?_⟩
  · exact hcleared.publish_haltIfLow_notice
  · rw [hkept.slot (by decide)]
    exact (lookup_everyRecord Slot.zero 32 (fun _ x => { Slot.zero with edit := x.edit + 2 }) u.slots k).trans
      (if_pos hk)
  · rw [hkept.beacon (by decide), partCleared_beacon]
  · rw [hkept.ch (by decide)]
    exact lookup_mapTab unowned Channel.fresh rfl u.channels c

end Sys2Proof.Machine
end

section
/-! PROOFS. The exchange port: the registers, the slot states, and host writes to the slots and the two stored areas
(R179 to R181, R183, R187). -/

namespace Sys2Proof.Machine

/-! ### The registers (R180, R181, R187) -/

section
variable (s : State)

theorem requestOrdersScan_keptBut : KeptBut [.scanBit, .scanKept] s (requestOrdersScan s) := by
  intro g hg
  cases g <;> first | rfl | exact absurd (by decide) hg

theorem writeEnable_keptBut (bits : BitVec 6) : KeptBut [.enable] s (writeEnable bits s) := by
  intro g hg
  cases g <;> first | rfl | exact absurd List.mem_cons_self hg

theorem clearNotices_keptBut (bits : BitVec 6) : KeptBut [.denial, .notice] s (clearNotices bits s) := by
  intro g hg
  cases g <;> first | rfl | exact absurd (by decide) hg

/-- Writing the views sets no category but CALLS and EXHIBITS (R2, R168). -/
theorem viewNotices_and (v w : Views) : viewNotices v w &&& 0b110011 = 0 := by
  unfold viewNotices
  generalize (v.exhibits != w.exhibits || v.header.body.mode != w.header.body.mode ||
    v.header.body.haltPin != w.header.body.haltPin) = a
  generalize (v.calls != w.calls || v.beacons != w.beacons ||
    v.header.body.pending != w.header.body.pending || v.header.body.bad != w.header.body.bad ||
    v.header.body.stale != w.header.body.stale) = b
  cases a <;> cases b <;> rfl

/-- A record of the header that no notice category belongs to sets none. -/
theorem viewNotices_eq_zero {v w : Views} {d : Option Denial} (hexhibits : w.exhibits = v.exhibits)
    (hcalls : w.calls = v.calls) (hbeacons : w.beacons = v.beacons)
    (hheader : w.header.body = { v.header.body with denial := d }) : viewNotices v w = 0 := by
  simp [viewNotices, noticeIf, hexhibits, hcalls, hbeacons, hheader]

/-- The notices stand in no view, and the denial capture in the header alone. -/
theorem ViewsCurrent.publish_clearNotices {s : State} (h : ViewsCurrent s) (bits : BitVec 6) :
    (publish (clearNotices bits s)).notice = s.notice &&& ~~~bits := by
  have hheader : (newViews (clearNotices bits s)).header.body =
      { s.views.header.body with denial := (clearNotices bits s).denial } := by
    rw [h.header]
    exact View.put_body _ _
  have hnone : viewNotices s.views (newViews (clearNotices bits s)) = 0 :=
    viewNotices_eq_zero (congrArg Views.exhibits h : (newViews s).exhibits = s.views.exhibits)
      (congrArg Views.calls h : (newViews s).calls = s.views.calls)
      (congrArg Views.beacons h : (newViews s).beacons = s.views.beacons) hheader
  exact (congrArg ((s.notice &&& ~~~bits) ||| ·) hnone).trans BitVec.or_zero

/-- Bits cleared stay clear in a mask that the bits set afterwards avoid. -/
theorem and_and_eq_zero_of_cleared {w : Nat} {n b v m : BitVec w} (hv : v &&& m = 0) :
    (n &&& ~~~b ||| v) &&& b &&& m = 0 := by
  refine BitVec.eq_of_getLsbD_eq fun i hi => ?_
  have hbit : (v.getLsbD i && m.getLsbD i) = false := by simpa using congrArg (BitVec.getLsbD · i) hv
  have hlogic : ∀ n b v m : Bool, (v && m) = false → ((n && !b || v) && b && m) = false := by decide
  simpa [hi] using hlogic (n.getLsbD i) (b.getLsbD i) _ _ hbit

end

/-- Settles O10: each command is one update of its register, and writing the views sets no category but CALLS and
EXHIBITS, and those only for a record that was not current. -/
theorem registerCommandsAct : Obligations.RegisterCommandsAct := by
  intro s u
  refine ⟨⟨_, rfl, rfl, rfl, ?_⟩, fun bits => ⟨_, rfl, rfl, ?_⟩,
    fun bits => ⟨publish (clearNotices bits u), rfl, rfl, ?_, fun hviews => hviews.publish_clearNotices bits, ?_⟩⟩
  · exact ((requestOrdersScan_keptBut u).mono (by decide)).trans ((publish_keptBut _).mono (by decide))
  · exact ((writeEnable_keptBut u bits).mono (by decide)).trans ((publish_keptBut _).mono (by decide))
  · exact and_and_eq_zero_of_cleared (viewNotices_and _ _)
  · exact ((clearNotices_keptBut u bits).mono (by decide)).trans ((publish_keptBut _).mono (by decide))

/-- Settles O11: each offset's update is that of the command of its register, the bits that are not named having
been cut off. -/
theorem registerWriteActsByOffset : Obligations.RegisterWriteActsByOffset := by
  intro o v s u
  have hcut : BitVec.ofNat 6 v.toNat = v.setWidth 6 := BitVec.ofNat_toNat 6 v
  have hexec : exec (.registerWrite o v) s = .next (publish (writeRegister o.val v u)) := rfl
  refine ⟨fun h2 h4 h6 h8 => ?_, fun ho => ?_, fun ho => ?_, fun ho => ?_, fun ho hreset hhalt => ?_,
    fun ho hreset hhalt => ?_, fun ho hreset hhalt => ?_, fun ho hreset hhalt => ?_⟩
  · have hdiscard : writeRegister o.val v u = u := by
      unfold writeRegister
      split <;> first | rfl | contradiction
    rw [hexec, hdiscard]
  · rw [hexec, ho, writeRegister]
    split <;> rfl
  · rw [hexec, ho, writeRegister, hcut]
    rfl
  · rw [hexec, ho, writeRegister, hcut]
    rfl
  all_goals
    rw [hexec, ho, writeRegister, writeControl, hreset, hhalt]
    rfl

/-! ### The slot state (R183) -/

section
variable (k : Nat) (s : State)

theorem hostPost_keptBut : KeptBut [.slots] s (hostPost k s) := by
  unfold hostPost
  split
  · exact State.modSlot_keptBut s k _
  · exact .refl _ s

theorem hostEmpty_keptBut : KeptBut [.slots] s (hostEmpty k s) := by
  unfold hostEmpty
  split
  · exact State.modSlot_keptBut s k _
  · exact .refl _ s

theorem hostPost_otherSlots : OtherSlots k s (hostPost k s) := fun j hj => by
  unfold hostPost
  split
  · exact State.modSlot_slot_other s k j _ hj
  · rfl

theorem hostEmpty_otherSlots : OtherSlots k s (hostEmpty k s) := fun j hj => by
  unfold hostEmpty
  split
  · exact State.modSlot_slot_other s k j _ hj
  · rfl

theorem hostPost_slot : (hostPost k s).slot k = if (s.slot k).state = .empty ∨ (s.slot k).state = .done
    then { s.slot k with state := .posted } else s.slot k := by
  unfold hostPost
  split <;> simp

theorem hostEmpty_slot : (hostEmpty k s).slot k = if (s.slot k).state = .posted ∨ (s.slot k).state = .done
    then { s.slot k with state := .empty } else s.slot k := by
  unfold hostEmpty
  split <;> simp

end

/-- Settles O15: each write is one update of its slot where it is accepted, and none where it is not. -/
theorem slotStateWritesAreFiltered : Obligations.SlotStateWritesAreFiltered := by
  intro k s u
  refine ⟨⟨publish (hostPost k.val u), rfl, hostPost_otherSlots k.val u, ?_, hostPost_slot k.val u⟩,
    ⟨publish (hostEmpty k.val u), rfl, hostEmpty_otherSlots k.val u, ?_, hostEmpty_slot k.val u⟩⟩
  · exact ((hostPost_keptBut k.val u).mono (by decide)).trans ((publish_keptBut _).mono (by decide))
  · exact ((hostEmpty_keptBut k.val u).mono (by decide)).trans ((publish_keptBut _).mono (by decide))

/-! ### The descriptor and staging areas (R179, R3) -/

theorem with_mem_keptBut (s : State) (m : List Host.Cell) : KeptBut [.mem] s { s with mem := m } := by
  intro g hg
  cases g <;> first | rfl | exact absurd List.mem_cons_self hg

/-- A byte of the stored areas is stored. -/
theorem writeByte_stored {a : Nat} (hlow : 0x4000 ≤ a) (hhigh : a < 0xC000) (b : Byte) (s : State) :
    writeByte a b s = { s with mem := poke s.mem a b } := by
  rw [writeByte, if_neg (by omega), if_neg (by omega), if_pos ⟨hlow, hhigh⟩]

/-- A byte written to a view or an unassigned offset is discarded. -/
theorem writeByte_discarded {a : Nat}
    (h : a < 0x200 ∨ (0xA00 ≤ a ∧ a < 0x3000) ∨ (0xC000 ≤ a ∧ a < 0xFFF0)) (b : Byte) (s : State) :
    writeByte a b s = s := by
  rw [writeByte, if_neg (by omega), if_neg (by omega), if_neg (by omega), if_neg (by omega)]

/-- A halfword of the stored areas is stored as its two bytes. -/
theorem hostWriteOf_half_stored {a : Nat} (hlow : 0x4000 ≤ a) (hhigh : a + 1 < 0xC000) (v : Half) (s : State) :
    hostWriteOf a (.half v) s =
      { s with mem := poke (poke s.mem a (byteOf 0 v)) (a + 1) (byteOf 1 v) } := by
  rw [hostWriteOf, Nat.mod_eq_of_lt (by omega), writeByte_stored hlow (by omega),
    writeByte_stored (by omega) hhigh]

/-- Settles O13: a stored byte is one write of the stored bytes, a halfword two, and the other offsets' write is no
change. -/
theorem hostWriteStoresItsBytes : Obligations.HostWriteStoresItsBytes := by
  intro a s u
  have hframe (m : List Host.Cell) : KeptBut [.mem, .views, .notice] u (publish { u with mem := m }) :=
    ((with_mem_keptBut u m).mono (by decide)).trans ((publish_keptBut _).mono (by decide))
  refine ⟨fun b hlow hhigh => ?_, fun v hlow hhigh => ?_, fun b harea => ?_⟩
  · refine ⟨publish { u with mem := poke u.mem a.toNat b }, ?_, peek_poke_same .., fun j hj => ?_, hframe _⟩
    · rw [← writeByte_stored hlow hhigh]
      rfl
    · exact peek_poke_other _ _ _ _ hj
  · refine ⟨publish { u with mem := poke (poke u.mem a.toNat (byteOf 0 v)) (a.toNat + 1) (byteOf 1 v) }, ?_, ?_,
      fun j hj hj' => ?_, hframe _⟩
    · rw [← hostWriteOf_half_stored hlow hhigh]
      rfl
    · simp [peekHalf, byteOf_append_half]
    · simp [hj, hj']
  · have hdiscard : hostWriteOf a.toNat (.byte b) u = u := writeByte_discarded harea b u
    exact congrArg (fun t => Host.Outcome.next (publish t)) hdiscard

/-! ### The host fields of a slot (R183) -/

/-- What each bit of a bit vector is after a byte of it is replaced. -/
theorem getLsbD_putByte {n : Nat} (v : BitVec n) (i : Nat) (b : Byte) {p : Nat} (hp : p < n) :
    (putByte v i b).getLsbD p = if 8 * i ≤ p ∧ p < 8 * i + 8 then b.getLsbD (p - 8 * i) else v.getLsbD p := by
  have hmask : Nat.testBit (255 * 2 ^ (8 * i)) p = decide (8 * i ≤ p ∧ p < 8 * i + 8) := by
    rw [Nat.testBit_mul_two_pow, show 255 = 2 ^ 8 - 1 from rfl, Nat.testBit_two_pow_sub_one, Bool.eq_iff_iff]
    simp only [Bool.and_eq_true, decide_eq_true_eq]
    omega
  have hbyte : Nat.testBit (b.toNat * 2 ^ (8 * i)) p = (decide (8 * i ≤ p) && b.getLsbD (p - 8 * i)) := by
    rw [Nat.testBit_mul_two_pow]
    rfl
  simp only [putByte, BitVec.getLsbD_or, BitVec.getLsbD_and, BitVec.getLsbD_not, BitVec.getLsbD_ofNat, hmask, hbyte,
    hp, decide_true, Bool.true_and]
  split
  · next h => simp [h]
  · next h =>
    have habove : (decide (8 * i ≤ p) && b.getLsbD (p - 8 * i)) = false := by
      by_cases hlow : 8 * i ≤ p
      · simp [BitVec.getLsbD_of_ge b (p - 8 * i) (by omega)]
      · simp [hlow]
    simp [h, habove]

/-- A byte put in a bit vector reads as put. -/
theorem byteOf_putByte_same {n : Nat} (v : BitVec n) (i : Nat) (b : Byte) (hi : 8 * i + 8 ≤ n) :
    byteOf i (putByte v i b) = b := by
  refine BitVec.eq_of_getLsbD_eq fun j hj => ?_
  rw [byteOf, BitVec.getLsbD_extractLsb', getLsbD_putByte v i b (by omega), if_pos (by omega)]
  simp [hj]

/-- A byte put in a bit vector leaves its other bytes as they are. -/
theorem byteOf_putByte_other {n : Nat} (v : BitVec n) {i j : Nat} (b : Byte) (hij : j ≠ i)
    (hj : 8 * j + 8 ≤ n) : byteOf j (putByte v i b) = byteOf j v := by
  refine BitVec.eq_of_getLsbD_eq fun p hp => ?_
  rw [byteOf, byteOf, BitVec.getLsbD_extractLsb', BitVec.getLsbD_extractLsb', getLsbD_putByte v i b (by omega),
    if_neg (by omega)]

/-- A byte written in a slot elsewhere than in its state byte changes a host field, unless the slot is TAKEN. -/
theorem writeSlotByte_host {k o : Nat} (ho : o ≠ 2) (b : Byte) (s : State) : writeSlotByte k o b s =
    if (s.slot k).state = .taken then s
    else s.modSlot k (fun x => { x with host := putHostByte o b x.host }) := if_neg ho

/-- A part-written field discards the byte. -/
theorem putHostByte_discarded {o : Nat} (ho : o < 2 ∨ (12 ≤ o ∧ o < 26)) (b : Byte) (x : HostFields) :
    putHostByte o b x = x := by
  unfold putHostByte
  split_ifs <;> first | omega | rfl

section
variable (k : Nat) (o : Nat) (b : Byte) (s : State) (ho : o ≠ 2)
include ho

theorem writeSlotByte_otherSlots : OtherSlots k s (writeSlotByte k o b s) := fun j hj => by
  rw [writeSlotByte_host ho]
  split
  · rfl
  · exact State.modSlot_slot_other s k j _ hj

theorem writeSlotByte_keptBut : KeptBut [.slots] s (writeSlotByte k o b s) := by
  rw [writeSlotByte_host ho]
  split
  · exact .refl _ s
  · exact State.modSlot_keptBut s k _

theorem writeSlotByte_slot_taken (htaken : (s.slot k).state = .taken) :
    (writeSlotByte k o b s).slot k = s.slot k := by
  rw [writeSlotByte_host ho, if_pos htaken]

theorem writeSlotByte_slot_open (hopen : (s.slot k).state ≠ .taken) :
    (writeSlotByte k o b s).slot k = { s.slot k with host := putHostByte o b (s.slot k).host } := by
  rw [writeSlotByte_host ho, if_neg hopen, State.modSlot_slot_same]

end

/-- The slot area, by slot and offset in the slot. -/
theorem writeByte_slot (k : Fin 32) (o : Fin 64) (b : Byte) (s : State) :
    writeByte (0x200 + 64 * k.val + o.val) b s = writeSlotByte k.val o.val b s := by
  have hslot : (0x200 + 64 * k.val + o.val - 0x200) / 64 = k.val := by omega
  have hoffset : (0x200 + 64 * k.val + o.val - 0x200) % 64 = o.val := by omega
  rw [writeByte, if_pos (by omega), hslot, hoffset]

/-- Settles O14: the write changes one byte of one host field of its slot, in a slot that is not TAKEN. -/
theorem hostWriteReachesHostFields : Obligations.HostWriteReachesHostFields := by
  intro k o b s u a x ho
  have haddr : a.toNat = 0x200 + 64 * k.val + o.val := by
    simp only [a, BitVec.toNat_ofNat]
    omega
  have hexec : exec (.hostWrite a (.byte b)) s = .next (publish (writeSlotByte k.val o.val b u)) := by
    rw [← writeByte_slot, ← haddr]
    rfl
  have htaken := writeSlotByte_slot_taken k.val o.val b u ho
  have hopen := writeSlotByte_slot_open k.val o.val b u ho
  refine ⟨_, hexec, writeSlotByte_otherSlots k.val o.val b u ho,
    ((writeSlotByte_keptBut k.val o.val b u ho).mono (by decide)).trans ((publish_keptBut _).mono (by decide)),
    htaken, fun hpart => ?_, fun hstate => ?_⟩
  · rw [publish_slot]
    by_cases hstate : x.state = .taken
    · exact htaken hstate
    · rw [hopen hstate, putHostByte_discarded hpart]
  · rw [publish_slot, hopen hstate]
    unfold putHostByte
    refine ⟨fun h => ?_, fun h => ?_, fun h => ?_, fun hlow hhigh => ?_, fun hlow hhigh => ?_, fun hlow => ?_⟩
    · rw [if_pos h]
    · rw [if_neg (by omega), if_pos h]
    · rw [if_neg (by omega), if_neg (by omega), if_pos h]
    · rw [if_neg (by omega), if_neg (by omega), if_neg (by omega), if_pos ⟨hlow, hhigh⟩]
      exact ⟨_, rfl, byteOf_putByte_same _ _ b (by omega), byteOf_putByte_other _ b (by omega) (by omega)⟩
    · rw [if_neg (by omega), if_neg (by omega), if_neg (by omega), if_neg (by omega), if_pos ⟨hlow, hhigh⟩]
      exact ⟨_, rfl, byteOf_putByte_same _ _ b (by omega),
        fun j hj hne => byteOf_putByte_other _ b hne (by omega)⟩
    · rw [if_neg (by omega), if_neg (by omega), if_neg (by omega), if_neg (by omega), if_neg (by omega),
        if_pos ⟨hlow, by omega⟩]
      exact ⟨_, rfl, peek_poke_same .., fun j hj => peek_poke_other _ _ _ _ hj⟩

end Sys2Proof.Machine
end

section
/-! PROOFS. What becomes of the order slots once an order has been taken: whatever any order sets going, a slot is
only accepted, refused or completed, so that it stays as posted and taken, and is TAKEN until it is DONE (R183 to
R185). -/

namespace Sys2Proof.Machine

/-! ### Slots handled -/

/-- One slot comes from another by the order unit's handling after a take: the host's fields and the taken tick stand,
and the slot is DONE or in the state it was in. -/
abbrev Slot.Handled (x y : Slot) : Prop :=
  y.host = x.host ∧ y.takenTick = x.takenTick ∧ (y.state = x.state ∨ y.state = .done)

/-- Every slot comes from another state's slot by such handling, and the slot taken last is the same. -/
structure Handled (s t : State) : Prop where
  lastTaken : t.lastTaken = s.lastTaken
  slot : ∀ j, (s.slot j).Handled (t.slot j)

namespace Handled

theorem refl (s : State) : Handled s s := ⟨rfl, fun _ => ⟨rfl, rfl, .inl rfl⟩⟩

theorem trans {s t u : State} (h : Handled s t) (k : Handled t u) : Handled s u where
  lastTaken := k.lastTaken.trans h.lastTaken
  slot j := by
    obtain ⟨hhost, htick, hstate⟩ := h.slot j
    obtain ⟨khost, ktick, kstate⟩ := k.slot j
    refine ⟨khost.trans hhost, ktick.trans htick, ?_⟩
    rcases kstate with kstate | kdone
    · rwa [kstate]
    · exact .inr kdone

/-- Slots that stand are handled. -/
theorem of_slots {s t : State} (hlast : t.lastTaken = s.lastTaken) (hslot : ∀ j, t.slot j = s.slot j) :
    Handled s t where
  lastTaken := hlast
  slot j := by rw [hslot]; exact ⟨rfl, rfl, .inl rfl⟩

theorem of_keptBut {fs : List Field} {s t : State} (h : KeptBut fs s t) (hslots : Field.slots ∉ fs)
    (hlast : Field.lastTaken ∉ fs) : Handled s t := of_slots (h .lastTaken hlast) (h.slot hslots)

/-- A change of one slot that is such handling. -/
theorem of_modSlot (s : State) (k : Nat) {f : Slot → Slot} (hf : ∀ x : Slot, x.Handled (f x)) :
    Handled s (s.modSlot k f) where
  lastTaken := rfl
  slot j := by
    by_cases hj : j = k
    · subst hj; rw [State.modSlot_slot_same]; exact hf _
    · rw [State.modSlot_slot_other _ _ _ _ hj]; exact ⟨rfl, rfl, .inl rfl⟩

theorem of_complete (k : Nat) (o : OrderOutcome) (r : Word) (s : State) : Handled s (complete k o r s) :=
  (of_modSlot s k (f := fun x => { x with
    edit := x.edit + 2, state := .done, outcome := o, doneTick := s.tick, result := r })
    fun _ => ⟨rfl, rfl, .inr rfl⟩).trans (of_slots rfl fun _ => rfl)

theorem after_complete {s v : State} (h : Handled s v) (k : Nat) (o : OrderOutcome) (r : Word) :
    Handled s (complete k o r v) := h.trans (of_complete k o r v)

theorem of_accept (k : Nat) (s : State) : Handled s (acceptOrder k s) :=
  of_modSlot s k fun _ => ⟨rfl, rfl, .inl rfl⟩

/-- The exhibits and the blocks they act on handle slots by completing orders alone. -/
theorem of_worked {A : Set Nat} {u t : State} (h : Worked A u t) : Handled u t := by
  induction h with
  | refl => exact refl u
  | after_complete _ k o r ih => exact ih.trans (of_complete k o r _)
  | _ => rename_i ih; exact ih.trans (of_slots rfl fun _ => rfl)

/-- Events that handle slots do so together. -/
theorem of_eachEvent (f : Nat → State → State) {ks : List Nat} (hf : ∀ k ∈ ks, ∀ s, Handled s (f k s)) (s : State) :
    Handled s (eachEvent f ks s) :=
  eachEvent_induct _ _ s (refl s) fun k _ hk ht =>
    (ht.trans (hf k hk _)).trans (of_worked (A := ∅) Worked.refl.after_closeEvent)

/-! ### HALT, the station link and the routine store -/

theorem of_mode (m : GalleryMode) (s : State) : Handled s { s with mode := m } :=
  of_keptBut (with_mode_keptBut s m) (by decide) (by decide)

theorem of_enterHalt (s : State) : Handled s (enterHalt s) := by
  unfold enterHalt
  split
  · exact refl s
  · exact (of_mode .halt s).trans
      (of_eachEvent _ (fun k _ _ => of_worked (A := ∅) (Worked.refl.after_addHold k .gallery)) _)

theorem of_setMode (m : GalleryMode) (s : State) : Handled s (setMode m s) := by
  unfold setMode
  split
  · exact of_enterHalt s
  · split
    · exact (of_mode m s).trans
        (of_eachEvent _ (fun k _ _ => of_worked (A := ∅) (Worked.refl.after_removeHold k .gallery)) _)
    · exact of_mode m s

theorem of_remask (old new : Word) (n : Nat) (s : State) : Handled s (remask old new n s) := by
  have hnode (f : Node → Node) : Handled s (s.modNode n f) := of_slots rfl fun _ => rfl
  unfold remask
  split
  · exact hnode _
  · split
    · split
      · exact refl s
      · exact (of_keptBut (nodeLeaving_keptBut .unknown s) (by decide) (by decide)).trans
          (of_worked (handLevels_worked _ _ _))
      · exact (hnode _).trans (of_worked (A := ∅) ((Worked.refl.after_notice _).after_clearCausesOf _ _))
    · exact refl s

theorem of_applyLink (m : Word) (timeout depth : Nat) (s : State) : Handled s (applyLink m timeout depth s) := by
  rw [applyLink_eq]
  exact (of_keptBut (linkSet_keptBut m timeout depth s) (by decide) (by decide)).trans
    (of_eachEvent _ (fun n _ u => of_remask _ _ n u) _)

theorem of_placeCopy (k r : Nat) (c : RoutineCopy) (s : State) : Handled s (placeCopy k r c s) := by
  have hplaced (f : Routine → Routine) : Worked ∅ s (s.modRoutine r f) := Worked.refl.after_modRoutine r f
  unfold placeCopy
  dsimp only
  split
  · exact of_worked (hplaced _)
  · exact of_worked ((hplaced _).after_complete _ _ _)
  · exact of_worked ((hplaced _).after_complete _ _ _)

/-! ### Installation and retirement -/

theorem of_claimAll (e : Nat) (d : Head) (w : Walk) (s : State) : Handled s (claimAll e d w s) := by
  refine of_slots (port_lastTaken (claimAll_port ..)) fun j => ?_
  have hinputs (is : List Nat) (u : State) : (is.foldl (fun u i =>
      reform i (u.modInp i (restartInput (some e) (fullBucket (u.ex e) i)))) u).slot j = u.slot j := by
    induction is generalizing u with
    | nil => rfl
    | cons i is ih => exact (ih _).trans rfl
  simp only [claimAll, State.modEx_slot, modAxes_slot, hinputs]

theorem of_install (e k : Nat) (d : Head) (w : Walk) (s : State) : Handled s (install e k d w s) := by
  have hchosen (u : State) : Worked ∅ u (chooseState e k w.parts u) := by
    unfold chooseState
    dsimp only
    split
    · exact (Worked.refl.after_enter e .lockedOut).after_complete k _ _
    · split
      · exact (Worked.refl.after_toReady e).after_complete k _ _
      · exact (Worked.refl.after_modEx e _).after_enterHoming e
  refine (of_claimAll e d w s).trans (of_worked (A := ∅) ?_)
  unfold install raiseSilent
  dsimp only
  split
  · split
    · exact hchosen _
    · exact (hchosen _).after_raiseCause e _ _
  · exact hchosen _

/-- A retirement's endings and clears up to the inputs given up are work of the exhibits alone (R16). -/
theorem retireEmptied_worked (e k : Nat) (s : State) :
    Worked ∅ s (emptied e (retireEndings e (s.modEx e (fun x => { x with retire := some k })))) := by
  have hmarked : Worked ∅ s (s.modEx e (fun x => { x with retire := some k })) := Worked.refl.after_modEx e _
  have hended : Worked ∅ s (retireEndings e (s.modEx e (fun x => { x with retire := some k }))) := by
    unfold retireEndings
    exact (((((hmarked.after_endRun e .stopped).after_dropQueued e .stopped).after_endHomingOrder e
      .stopped).after_endStopOrders e .stopped).after_endLockOrders e .stopped).after_withdraw e
  unfold emptied
  exact ((hended.after_modEx e _).after_clearCauses e allCauses).after_modEx e _

theorem of_retireExhibit (e k : Nat) (s : State) : Handled s (retireExhibit e k s) := by
  have hcleared : Handled s (retireCleared e k s) := by
    rw [retireCleared, retireClears_eq]
    exact (of_worked (retireEmptied_worked e k s)).trans
      (of_keptBut (disownInputs_keptBut _ _) (by decide) (by decide))
  have hprepared : Worked ∅ (retireCleared e k s) (retirePrepared e k s) := by
    unfold retirePrepared releaseResting
    exact Worked.refl.after_modAxes e _
  refine hcleared.trans (of_worked (A := ∅) ?_)
  rw [retireExhibit_eq]
  split
  · exact (hprepared.after_brakeAxes e).after_enterBraking e _ _
  · exact ((((((hprepared.after_publishExhibit e).after_deenergiseAxes e).after_returnAll e).after_modAxes e
      _).after_modEx e _).after_publishExhibit e).after_complete k _ _

end Handled

/-! ### Performing an order -/

section
variable (e k : Nat) {s u : State} (h : Worked ∅ u s)
include h

/-- STOP EXHIBIT is work of the exhibits alone. -/
theorem Worked.after_stopExhibit : Worked ∅ u (stopExhibit e k s) := by
  have hready {t : State} (ht : Worked ∅ u t) : Worked ∅ u (complete k .done 0 (toReady e (releaseAxes e t))) :=
    ((ht.after_releaseAxes e).after_toReady e).after_complete k _ _
  have hawait {t : State} (ht : Worked ∅ u t) : Worked ∅ u (awaitStop e k t) := ht.after_modEx e _
  unfold stopExhibit
  dsimp only
  cases (s.ex e).state with
  | running =>
    have hstopped := (hawait h).after_stopRunning e false
    unfold stopExhibit.brakingOrDone
    dsimp only
    split
    · exact hstopped
    · exact hstopped.after_endStopOrders e .done
  | homing =>
    have hdropped := (h.after_endHomingOrder e .stopped).after_dropQueued e .stopped
    dsimp only
    split
    · exact ((hawait hdropped).after_brakeAxes e).after_enterBraking e _ _
    · exact hready (hdropped.after_withdraw e)
  | braking =>
    dsimp only
    split
    · exact (hawait (((h.after_endRun e .stopped).after_endHomingOrder e .stopped).after_dropQueued e
        .stopped)).after_enterBraking e _ _
    · refine hawait ?_
      unfold dropReplace
      split
      · exact h
      · split
        · exact h.after_dropQueued e .stopped
        · exact h
  | held => exact hready (((h.after_endRun e .stopped).after_endHomingOrder e .stopped).after_dropQueued e .stopped)
  | ready => exact (h.after_dropQueued e .stopped).after_complete k _ _
  | resting => exact (((h.after_withdraw e).after_modEx e _).after_dropQueued e .stopped).after_complete k _ _
  | absent => exact h
  | faulted => exact h
  | lockedOut => exact h

/-- A cleared fault is work of the exhibits alone. -/
theorem Worked.after_clearFaultOf (c : Capture) : Worked ∅ u (clearFaultOf e c s) := by
  have hcleared := (h.after_modEx e (fun x => { x with capture := none, laterFaults := 0 })).after_clearCauses e
    [c.report.kind.cause]
  unfold clearFaultOf
  dsimp only
  split
  · split
    · exact hcleared.after_toReady e
    · exact hcleared.after_enterHoming e
  · exact hcleared

end

section
variable {u s : State} (h : Worked ∅ u s) (r : Request)
include h

/-- A request that SET BUDGET refuses is work of the exhibits alone. -/
theorem Worked.after_refuseWaiting : Worked ∅ u (refuseWaiting r s) := by
  unfold refuseWaiting
  cases r.purpose with
  | waypoint => exact h.after_runRefused _
  | homing => exact h.after_homingRefused _
  | wake => exact (h.after_modEx _ _).after_dropQueued _ _
  | resume =>
    dsimp only
    split
    · exact h.after_homingRefused _
    · exact h.after_runRefused _

theorem Worked.after_afterRefusal : Worked ∅ u (afterRefusal r s) := by
  unfold afterRefusal
  split
  · exact h.after_readyNow _
  · exact h

end

/-- SET BUDGET is work of the load arbiter and of the exhibits that it refuses (R145, R146). -/
theorem budgetOrder_worked (k g b : Nat) (s : State) : (budgetOrder k g b s).Gives (Worked ∅ s) := by
  have hrefused (l : List Request) {v : State} (hv : Worked ∅ s v) :
      Worked ∅ s (l.foldl (fun u r => publish (refuseWaiting r u)) v) :=
    hv.after_foldl _ l fun r hu => (hu.after_refuseWaiting r).after_publish
  have hfollowed (l : List Request) {v : State} (hv : Worked ∅ s v) :
      Worked ∅ s (l.foldl (fun u r => afterRefusal r (closeEvent u)) v) :=
    hv.after_foldl _ l fun r hu => hu.after_closeEvent.after_afterRefusal r
  exact hfollowed _ (((hrefused _ (Worked.refl.after_modGroup g _)).after_evaluate g).after_complete k _ _)

namespace Handled

section
variable (k : Nat) (s : State)

theorem with_dueList (l : List DueEntry) : Handled s { s with dueList := l } := of_slots rfl fun _ => rfl

/-- Whatever an order performs, it handles slots. -/
theorem performOrder_gives (d : HostFields) (b : OrderBody) : (performOrder k d b s).Gives (Handled s) := by
  have ofWorked : ∀ {v : Verdict}, v.Gives (Worked ∅ s) → v.Gives (Handled s) :=
    fun hv => hv.imp fun _ => of_worked
  have hself : Worked ∅ s s := .refl
  cases b with
  | bringUp o =>
    simp only [performOrder, bringUpOrder]
    split
    · trivial
    · split
      · trivial
      · exact of_install _ k _ _ s
  | retire => exact of_retireExhibit _ k s
  | setAccess m => exact of_worked ((hself.after_modEx _ _).after_notice _ |>.after_complete k _ _)
  | home =>
    simp only [performOrder, homeOrder]
    split
    · trivial
    · split
      · exact of_complete ..
      · exact of_worked ((hself.after_modEx _ _).after_enterHoming _)
  | stop =>
    simp only [performOrder, stopOrder]
    split
    · trivial
    · exact of_worked (hself.after_stopExhibit _ k)
  | hold => exact of_worked ((hself.after_addHold _ _).after_complete k _ _)
  | release => exact of_worked ((hself.after_removeHold _ _).after_complete k _ _)
  | lockOut =>
    simp only [performOrder, lockOrder]
    split
    · exact of_worked ((hself.after_addLock _ _).after_complete k _ _)
    · exact of_worked ((hself.after_modEx _ _).after_addLock _ _)
  | returnToService =>
    simp only [performOrder, returnOrder]
    split
    · trivial
    · exact of_worked ((hself.after_removeLock _ _).after_complete k _ _)
  | setMode m =>
    simp only [performOrder, modeOrder]
    split
    · trivial
    · exact (of_setMode _ s).after_complete _ _ _
  | setLamps p => exact of_worked ((hself.after_modEx _ _).after_complete k _ _)
  | setLink m t d => exact (of_applyLink ..).after_complete _ _ _
  | runRoutine r =>
    simp only [performOrder, runOrder]
    split
    · trivial
    · cases (s.ex d.exhibit.toNat).state with
      | ready =>
        dsimp only
        split
        · exact of_worked (hself.after_startRun _ _ _ _)
        · exact of_worked (hself.after_setQueued _ _)
      | braking =>
        dsimp only
        split
        · trivial
        · exact of_worked (hself.after_setQueued _ _)
      | resting => exact of_worked ((hself.after_setQueued _ _).after_wake _)
      | homing => exact of_worked (hself.after_setQueued _ _)
      | running => exact of_worked (hself.after_setQueued _ _)
      | held => exact of_worked (hself.after_setQueued _ _)
      | absent => trivial
      | faulted => trivial
      | lockedOut => trivial
  | stepRun =>
    simp only [performOrder, stepOrder]
    split
    · exact of_worked ((hself.after_stepWaiting _).after_complete k _ _)
    · trivial
  | commit r o =>
    simp only [performOrder, commitOrder, commitRecord]
    split
    · trivial
    · cases firstFit (stageByte s.mem o.toNat) s with
      | none => trivial
      | some f =>
        exact (of_keptBut (fillPool_keptBut _ _ _ s) (by decide) (by decide)).trans (of_placeCopy ..)
  | clearRoutine r =>
    simp only [performOrder, clearRoutineOrder]
    split
    · trivial
    · exact of_worked ((hself.after_modRoutine _ _).after_complete k _ _)
  | setBudget g b => exact ofWorked (budgetOrder_worked ..)
  | setZone z =>
    simp only [performOrder, zoneOrder]
    split
    · trivial
    · exact (of_keptBut (applyZone_keptBut z s) (by decide) (by decide)).after_complete _ _ _
  | raiseCall v => exact of_worked ((hself.after_raiseCause _ _ _).after_complete k _ _)
  | ackCall c => exact of_worked ((hself.after_ackCauses _ _ _).after_complete k _ _)
  | clearCall c =>
    simp only [performOrder, clearOrder]
    split
    · trivial
    · exact of_worked ((hself.after_clearCauses _ _).after_complete k _ _)
  | clearFault =>
    simp only [performOrder, faultOrder]
    split
    · trivial
    · split
      · trivial
      · exact of_worked ((hself.after_clearFaultOf _ _).after_complete k _ _)
  | setControl m =>
    have hset : Handled s { s with control := BitVec.ofNat 4 m.toNat } := of_slots rfl fun _ => rfl
    exact hset.after_complete k _ _
  | setClock t =>
    have hshifted : Handled s (shiftClock t s) := of_slots rfl fun _ => rfl
    exact hshifted.after_complete k _ _
  | cancel n =>
    simp only [performOrder, cancelOrder]
    split
    · exact ((with_dueList s _).after_complete _ _ _).after_complete k _ _
    · exact of_complete ..

/-! ### The order unit -/

theorem of_captureDenial (d : HostFields) : Handled s (captureDenial k d s) := by
  unfold captureDenial
  split <;> exact of_slots rfl fun _ => rfl

theorem of_refuseAtTake (d : HostFields) (a : Acceptance) (r : Word) : Handled s (refuseAtTake k d a r s) := by
  have hdone : Handled s (s.modSlot k (fun x => { x with
      edit := x.edit + 2, state := .done, acceptance := a, outcome := .refused, doneTick := x.takenTick,
      result := r })) := of_modSlot s k fun _ => ⟨rfl, rfl, .inr rfl⟩
  have hrefused := hdone.trans (of_keptBut (setNotice_keptBut noticeOrders _) (by decide) (by decide))
  unfold refuseAtTake
  dsimp only
  split
  · exact hrefused.trans (of_captureDenial ..)
  · exact hrefused

theorem of_performDue (d : DueEntry) : Handled s (performDue d s) := by
  unfold performDue
  split
  · exact refl s
  · next b _ =>
    split
    · exact of_complete ..
    · split
      · exact (of_complete ..).trans (of_captureDenial ..)
      · have hgives := performOrder_gives d.slot s d.host b
        split
        · next hgo => rw [hgo] at hgives; exact hgives
        · exact of_complete ..

theorem of_evaluateDue : Handled s (evaluateDue s) :=
  of_eachEvent _ (fun _ _ u => by
    unfold dueNext
    split
    · exact refl u
    · exact (with_dueList u _).trans (of_performDue ..)) s

theorem of_enterDue (d : HostFields) : Handled s (enterDue k d s) := by
  unfold enterDue
  dsimp only
  split
  · exact (with_dueList s _).trans (of_evaluateDue _)
  · exact with_dueList s _

/-- Whatever a taken order is decided to come to, it handles slots. -/
theorem of_decideOrder (d : HostFields) : Handled s (decideOrder k d s) := by
  unfold decideOrder
  split
  · exact of_refuseAtTake ..
  · exact of_refuseAtTake ..
  · next b _ _ =>
    split
    · exact (of_accept k s).trans (of_enterDue ..)
    · have hgives := performOrder_gives k (acceptOrder k s) d b
      split
      · exact of_refuseAtTake ..
      · next hgo =>
        rw [hgo] at hgives
        split
        · exact ((of_accept k s).trans hgives).trans (of_evaluateDue _)
        · exact (of_accept k s).trans hgives

end

end Handled

/-! ### A refusal at the take (R185) -/

section
variable (k : Nat) (d : HostFields) (a : Acceptance) (r : Word) (s : State)

theorem captureDenial_keptBut : KeptBut [.denial, .notice] s (captureDenial k d s) := by
  intro g hg
  unfold captureDenial
  split <;> cases g <;> first | rfl | exact absurd (by decide) hg

@[simp] theorem captureDenial_slot (j : Nat) : (captureDenial k d s).slot j = s.slot j :=
  (captureDenial_keptBut k d s).slot (by decide) j

theorem captureDenial_notice_of (i : Nat) (h : s.notice.getLsbD i = true) :
    (captureDenial k d s).notice.getLsbD i = true := by
  unfold captureDenial
  split
  · exact h
  · simp [setNotice, h]

theorem refuseAtTake_slot_same : (refuseAtTake k d a r s).slot k = { s.slot k with
    edit := (s.slot k).edit + 2, state := .done, acceptance := a, outcome := .refused,
    doneTick := (s.slot k).takenTick, result := r } := by
  unfold refuseAtTake
  dsimp only
  split <;> simp

theorem refuseAtTake_slot_other {j : Nat} (hj : j ≠ k) : (refuseAtTake k d a r s).slot j = s.slot j := by
  have hmod (f : Slot → Slot) : (s.modSlot k f).slot j = s.slot j := State.modSlot_slot_other _ _ _ _ hj
  unfold refuseAtTake
  dsimp only
  split <;> simp [hmod]

theorem refuseAtTake_notice : (refuseAtTake k d a r s).notice.getLsbD 0 = true := by
  have horders (v : State) : (setNotice noticeOrders v).notice.getLsbD 0 = true := by
    simp [setNotice, noticeOrders]
  unfold refuseAtTake
  dsimp only
  split
  · exact captureDenial_notice_of k d _ 0 (horders _)
  · exact horders _

theorem slotRefused_keptBut (f : Slot → Slot) :
    KeptBut [.slots, .notice] s (setNotice noticeOrders (s.modSlot k f)) :=
  ((State.modSlot_keptBut s k f).mono (by decide)).trans ((setNotice_keptBut _ _).mono (by decide))

/-- A refusal that is no denial leaves the denial capture. -/
theorem refuseAtTake_keptBut (ha : a ≠ .denied) : KeptBut [.slots, .notice] s (refuseAtTake k d a r s) := by
  unfold refuseAtTake
  dsimp only
  rw [if_neg ha]
  exact slotRefused_keptBut k s _

theorem refuseAtTake_denied_keptBut :
    KeptBut [.denial, .slots, .notice] s (refuseAtTake k d .denied r s) := by
  unfold refuseAtTake
  dsimp only
  rw [if_pos rfl]
  exact ((slotRefused_keptBut k s _).mono (by decide)).trans ((captureDenial_keptBut k d _).mono (by decide))

end

/-! ### Scanning (R184) -/

theorem requestScan_keptBut (s : State) : KeptBut [.scanKept] s (requestScan s) := by
  intro g hg
  cases g <;> first | rfl | exact absurd List.mem_cons_self hg

theorem with_pass_keptBut (s : State) (p : Option (List Nat)) : KeptBut [.pass] s { s with pass := p } := by
  intro g hg
  cases g <;> first | rfl | exact absurd List.mem_cons_self hg

/-- A pass newly started visits the slots in cyclic order after the slot taken last. -/
theorem startPass_starts {s : State} (hkept : s.scanKept = true) (hpass : s.pass = none) :
    startPass s = { s with pass := some (passOrder s.lastTaken), scanBit := false, scanKept := false } :=
  if_pos (by simp [hkept, passEnded, hpass])

theorem startPass_keptBut (s : State) : KeptBut [.scanKept, .scanBit, .pass] s (startPass s) := by
  intro g hg
  unfold startPass
  split <;> cases g <;> first | rfl | exact absurd (by decide) hg

theorem startPass_unkept {s : State} (hkept : s.scanKept = false) : startPass s = s :=
  if_neg (by simp [hkept])

/-- While a POSTED slot is ahead of the pass the pass goes on. -/
theorem startPass_running {s : State} {l : List Nat} (hpass : s.pass = some l)
    (hposted : ∃ k ∈ l, (s.slot k).state = .posted) : startPass s = s := by
  obtain ⟨k, hk, hstate⟩ := hposted
  have hrunning : passEnded s = false := by
    simp only [passEnded, hpass, Bool.not_eq_false', List.any_eq_true]
    exact ⟨k, hk, by simp [hstate]⟩
  exact if_neg (by simp [hrunning])

theorem passOrder_length (last : Nat) : (passOrder last).length = 32 := by simp [passOrder]

theorem passOrder_getElem? (last : Nat) {k : Nat} (hk : k < 32) :
    (passOrder last)[k]? = some ((last + 1 + k) % 32) := by simp [passOrder, hk]

theorem exec_scanPass {s t : State} (ht : startPass (settle s) = t) : exec .scanPass s = .next (publish t) :=
  ht ▸ rfl

/-- Settles O18: a request is one update, and a pass starts by one update where one is kept and the pass before has
ended. -/
theorem scanRequestStartsPass : Obligations.ScanRequestStartsPass := by
  intro s u
  refine ⟨⟨publish (requestScan u), rfl, rfl, ?_⟩, fun hkept hpass => ?_, fun hkept => ?_, fun l hpass hposted => ?_⟩
  · exact ((requestScan_keptBut u).mono (by decide)).trans ((publish_keptBut _).mono (by decide))
  · refine ⟨publish (startPass u), rfl, ?_, ?_, ?_, passOrder u.lastTaken, ?_, passOrder_length _,
      fun k hk => passOrder_getElem? _ hk⟩
    · rw [startPass_starts hkept hpass, publish_scanKept]
    · rw [startPass_starts hkept hpass, publish_scanBit]
    · exact ((startPass_keptBut u).mono (by decide)).trans ((publish_keptBut _).mono (by decide))
    · rw [startPass_starts hkept hpass, publish_pass]
  · exact exec_scanPass (startPass_unkept hkept)
  · exact exec_scanPass (startPass_running hpass hposted)

/-! ### The take (R184, R185) -/

/-- The next POSTED slot is the first one, the slots before it being passed over. -/
theorem nextPosted_append {s : State} {l r : List Nat} {k : Nat} (hl : ∀ j ∈ l, (s.slot j).state ≠ .posted)
    (hk : (s.slot k).state = .posted) : nextPosted s (l ++ k :: r) = some (k, r) := by
  induction l with
  | nil => exact if_pos hk
  | cons j l ih =>
    obtain ⟨hj, hrest⟩ := List.forall_mem_cons.1 hl
    exact (if_neg hj).trans (ih hrest)

theorem nextPosted_none {s : State} {l : List Nat} (hl : ∀ j ∈ l, (s.slot j).state ≠ .posted) :
    nextPosted s l = none := by
  induction l with
  | nil => rfl
  | cons j l ih =>
    obtain ⟨hj, hrest⟩ := List.forall_mem_cons.1 hl
    exact (if_neg hj).trans (ih hrest)

theorem takeNext_ends {s : State} {l : List Nat} (hpass : s.pass = some l)
    (hl : ∀ j ∈ l, (s.slot j).state ≠ .posted) : takeNext s = { s with pass := none } := by
  simp only [takeNext, hpass, nextPosted_none hl]

theorem takeNext_idle {s : State} (hpass : s.pass = none) : takeNext s = s := by simp only [takeNext, hpass]

section
variable (k : Nat) (s : State)

theorem markTaken_slot_same : (markTaken k s).slot k = { s.slot k with
    edit := (s.slot k).edit + 2, state := .taken, outcome := .none, takenTick := s.tick, doneTick := 0,
    result := 0 } := by
  simp [markTaken, State.slot, State.modSlot]

theorem markTaken_slot_other {j : Nat} (hj : j ≠ k) : (markTaken k s).slot j = s.slot j := by
  simp [markTaken, State.slot, State.modSlot, hj]

theorem markTaken_keptBut : KeptBut [.slots, .lastTaken] s (markTaken k s) := by
  intro g hg
  cases g <;> first | rfl | exact absurd (by decide) hg

end

/-- The state from which the next POSTED slot of a pass is decided: marked TAKEN, the rest of the pass left. -/
def nextMarked (s : State) (k : Nat) (r : List Nat) : State :=
  markTaken k { s with pass := if r.isEmpty then none else some r }

section
variable {s : State} {l r : List Nat} {k : Nat}

theorem nextMarked_slot_same : (nextMarked s k r).slot k = { s.slot k with
    edit := (s.slot k).edit + 2, state := .taken, outcome := .none, takenTick := s.tick, doneTick := 0,
    result := 0 } := markTaken_slot_same ..

theorem nextMarked_keptBut : KeptBut [.slots, .lastTaken, .pass] s (nextMarked s k r) :=
  ((with_pass_keptBut s _).mono (by decide)).trans ((markTaken_keptBut k _).mono (by decide))

theorem exec_take {s t : State} (ht : takeNext (settle s) = t) : exec .take s = .next (publish t) := ht ▸ rfl

/-- A take with a POSTED slot ahead marks it TAKEN and decides its order. -/
theorem takeNext_takes (hpass : s.pass = some (l ++ k :: r)) (hl : ∀ j ∈ l, (s.slot j).state ≠ .posted)
    (hk : (s.slot k).state = .posted) :
    takeNext s = decideOrder k (s.slot k).host (nextMarked s k r) := by
  simp only [takeNext, hpass, nextPosted_append hl hk]
  rfl

theorem decideOrder_unknown {v : State} {d : HostFields} (hread : readOrder d.kind d.params = none) :
    decideOrder k d v = refuseAtTake k d .unknownKind 0 v := by
  simp only [decideOrder, takeRefusal, hread]

end

/-- Settles O19: the take marks the first POSTED slot and decides its order, and whatever that comes to, the slot is
only handled; an unknown kind is a refusal, which frames itself. -/
theorem takeTakesNextPosted : Obligations.TakeTakesNextPosted := by
  intro s u
  refine ⟨fun l r k hpass hl hk => ?_, fun l hpass hl => ?_, fun hpass => ?_⟩
  · have htake : exec .take s = .next (publish (decideOrder k (u.slot k).host (nextMarked u k r))) :=
      exec_take (takeNext_takes hpass hl hk)
    have hhandled := Handled.of_decideOrder k (nextMarked u k r) (u.slot k).host
    obtain ⟨hhost, htick, hstate⟩ := hhandled.slot k
    rw [nextMarked_slot_same] at hhost htick hstate
    refine ⟨_, htake, hhandled.lastTaken, htick, hstate, hhost, fun hread => ?_⟩
    rw [decideOrder_unknown hread]
    have hrefused := refuseAtTake_slot_same k (u.slot k).host .unknownKind 0 (nextMarked u k r)
    refine ⟨congrArg Slot.state hrefused, congrArg Slot.acceptance hrefused, congrArg Slot.outcome hrefused,
      congrArg Slot.result hrefused, publish_notice_of _ 0 (refuseAtTake_notice ..), fun j hj => ?_, ?_⟩
    · exact (refuseAtTake_slot_other k _ _ _ _ hj).trans (markTaken_slot_other k _ hj)
    · exact (nextMarked_keptBut.mono (by decide)).trans <|
        ((refuseAtTake_keptBut k _ _ _ _ (by decide)).mono (by decide)).trans
          ((publish_keptBut _).mono (by decide))
  · refine ⟨_, exec_take (takeNext_ends hpass hl), rfl, ?_⟩
    exact ((with_pass_keptBut u none).mono (by decide)).trans ((publish_keptBut _).mono (by decide))
  · exact exec_take (takeNext_idle hpass)

end Sys2Proof.Machine
end

section
/-! PROOFS. The take-time checks and the denial capture (R185 to R187). -/

namespace Sys2Proof.Machine

/-! ### An order is read from its slot as written -/

theorem readOrder_bringUp (h : OrderHead) (o : Half) :
    readOrder (hostFieldsOf h (.bringUp o)).kind (hostFieldsOf h (.bringUp o)).params = some (.bringUp o) := by
  simp [hostFieldsOf, kindCodeOf, readOrder, paramBytes, paramField, halfBytes, peekHalf, byteOf_append_half]

theorem readOrder_setClock (h : OrderHead) (t : Tick) :
    readOrder (hostFieldsOf h (.setClock t)).kind (hostFieldsOf h (.setClock t)).params = some (.setClock t) := by
  simp [hostFieldsOf, kindCodeOf, readOrder, paramBytes, paramField, wordBytes, peekWord, peekHalf]
  exact byteOf_append_word t

theorem readOrder_cancel (h : OrderHead) (n : Byte) :
    readOrder (hostFieldsOf h (.cancel n)).kind (hostFieldsOf h (.cancel n)).params = some (.cancel n) := by
  simp [hostFieldsOf, kindCodeOf, readOrder, paramBytes, paramField]

/-- Every order is read from its slot as the host wrote it. -/
theorem readOrder_hostFieldsOf (h : OrderHead) (b : OrderBody) :
    readOrder (hostFieldsOf h b).kind (hostFieldsOf h b).params = some b := by
  cases b with
  | bringUp o => exact readOrder_bringUp h o
  | setAccess m => exact readOrder_setAccess h m
  | setMode m => exact readOrder_setMode h m
  | setLamps p => exact readOrder_setLamps h p
  | setLink m t d => exact readOrder_setLink h m t d
  | runRoutine r => exact readOrder_runRoutine h r
  | commit r o => exact readOrder_commit h r o
  | clearRoutine r => exact readOrder_clearRoutine h r
  | setBudget g b => exact readOrder_setBudget h g b
  | setZone z => exact readOrder_setZone h z
  | raiseCall v => exact readOrder_raiseCall h v
  | ackCall c => exact readOrder_ackCall h c
  | clearCall c => exact readOrder_clearCall h c
  | setControl m => exact readOrder_setControl h m
  | setClock t => exact readOrder_setClock h t
  | cancel n => exact readOrder_cancel h n
  | retire => rfl
  | home => rfl
  | stop => rfl
  | hold => rfl
  | release => rfl
  | lockOut => rfl
  | returnToService => rfl
  | stepRun => rfl
  | clearFault => rfl

/-! ### The checks in their order (R185) -/

section
variable {h : OrderHead} {b : OrderBody} {u : State}

/-- The exhibit check of an exhibit kind. -/
theorem exhibitCheck_exhibit (e : Nat) (hscope : scopeOf b = .exhibit) : exhibitCheck u e b =
    if 31 < e ∨ (u.ex e).installed = false then some .badExhibit
    else if (u.ex e).retire.isSome then some .state else none := by
  unfold exhibitCheck
  dsimp only
  split
  · simp [scopeOf] at hscope
  · simp [scopeOf] at hscope
  · rfl
  · simp_all
  · simp_all

theorem takeRefusal_exhibit {a : Acceptance} (hexhibit : exhibitCheck u (OrderHead.ex h) b = some a) :
    takeRefusal u h.slot.val (hostFieldsOf h b) = some a := by
  have hex : (hostFieldsOf h b).exhibit.toNat = OrderHead.ex h := rfl
  simp only [takeRefusal, readOrder_hostFieldsOf, hex, hexhibit]

theorem takeRefusal_denied (hexhibit : exhibitCheck u (OrderHead.ex h) b = none)
    (haccess : accessAllowed u h.slot.val (OrderHead.ex h) b = false) :
    takeRefusal u h.slot.val (hostFieldsOf h b) = some .denied := by
  have hex : (hostFieldsOf h b).exhibit.toNat = OrderHead.ex h := rfl
  simp [takeRefusal, readOrder_hostFieldsOf, hex, hexhibit, haccess]

/-- A due tick or a parameter that the kind does not take fails the parameter check. -/
theorem paramCheck_false (hcommit : ∀ r o, b ≠ .commit r o)
    (hbad : paramsOk b = false ∨ (dueAllowed b = false ∧ ¬ Untimed h)) :
    paramCheck (hostFieldsOf h b) b = false := by
  unfold paramCheck
  split
  · exact absurd rfl (hcommit _ _)
  · rcases hbad with hparams | ⟨hallowed, htimed⟩
    · simp [hparams]
    · have hdue : (hostFieldsOf h b).duePresent = true := Bool.not_eq_false _ ▸ htimed
      simp [hallowed, hdue]

theorem takeRefusal_paramCheck (hexhibit : exhibitCheck u (OrderHead.ex h) b = none)
    (haccess : accessAllowed u h.slot.val (OrderHead.ex h) b = true)
    (hparam : paramCheck (hostFieldsOf h b) b = false) :
    takeRefusal u h.slot.val (hostFieldsOf h b) = some .badParameter := by
  have hex : (hostFieldsOf h b).exhibit.toNat = OrderHead.ex h := rfl
  simp [takeRefusal, readOrder_hostFieldsOf, hex, hexhibit, haccess, hparam]

/-- What the checks come to for a timed order that they have nothing against but the due list's room. -/
theorem takeRefusal_timed (hexhibit : exhibitCheck u (OrderHead.ex h) b = none)
    (haccess : accessAllowed u h.slot.val (OrderHead.ex h) b = true) (hparams : paramsOk b = true)
    (hallowed : dueAllowed b = true) (htimed : ¬ Untimed h) :
    takeRefusal u h.slot.val (hostFieldsOf h b) = if 16 ≤ u.dueList.length then some .full else none := by
  have hdue : (hostFieldsOf h b).duePresent = true := Bool.not_eq_false _ ▸ htimed
  have hex : (hostFieldsOf h b).exhibit.toNat = OrderHead.ex h := rfl
  have hparam : paramCheck (hostFieldsOf h b) b = true := by
    unfold paramCheck
    split <;> simp [hparams, hallowed]
  simp [takeRefusal, readOrder_hostFieldsOf, hex, hexhibit, haccess, hparam, hallowed, hdue]

end

/-! ### What a refused order comes to -/

section
variable {h : OrderHead} {b : OrderBody} {s : State}

/-- An order that a check refuses, and not for its source, changes nothing but its slot's handling. -/
theorem refused_of_takeRefusal {a : Acceptance} (hopen : SlotOpen (settle s) h)
    (hchecks : takeRefusal (settle s) h.slot.val (hostFieldsOf h b) = some a) (ha : a ≠ .denied) :
    ∃ t, exec (orderCommand h b) s = .next t ∧ RefusedOnly (settle s) t h b a 0 :=
  ⟨_, exec_orderCommand (postAndTake_of_refusal hopen hchecks), refusedOnly_of_refuseAtTake ha⟩

/-- What a denied order comes to. -/
def deniedState (h : OrderHead) (b : OrderBody) (u : State) : State :=
  refuseAtTake h.slot.val (hostFieldsOf h b) .denied 0 (postedAndTaken h b u)

theorem exec_denied (hopen : SlotOpen (settle s) h)
    (hchecks : takeRefusal (settle s) h.slot.val (hostFieldsOf h b) = some .denied) :
    exec (orderCommand h b) s = .next (publish (deniedState h b (settle s))) :=
  exec_orderCommand (postAndTake_of_refusal hopen hchecks)

variable {u : State}

theorem deniedState_keptBut : KeptBut (.denial :: orderFields) u (publish (deniedState h b u)) :=
  ((postedAndTaken_keptBut h b u).mono (by decide)).trans <|
    ((refuseAtTake_denied_keptBut _ _ _ _).mono (by decide)).trans ((publish_keptBut _).mono (by decide))

theorem deniedState_otherSlots : OtherSlots h.slot.val u (publish (deniedState h b u)) := fun _ hj =>
  (refuseAtTake_slot_other _ _ _ _ _ hj).trans (postedAndTaken_slot_other h b u hj)

theorem deniedState_slotRefused : SlotRefused u (publish (deniedState h b u)) h b .denied 0 := by
  have hslot : (deniedState h b u).slot h.slot.val = _ := refuseAtTake_slot_same ..
  rw [postedAndTaken_slot] at hslot
  have hlast : (deniedState h b u).lastTaken = h.slot.val :=
    refuseAtTake_denied_keptBut h.slot.val (hostFieldsOf h b) 0 (postedAndTaken h b u) .lastTaken (by decide)
  have hnotice := refuseAtTake_notice h.slot.val (hostFieldsOf h b) .denied 0 (postedAndTaken h b u)
  unfold SlotRefused
  rw [publish_slot, hslot]
  exact ⟨rfl, rfl, rfl, rfl, rfl, rfl, rfl, hlast, publish_notice_of _ 0 hnotice⟩

end

/-- Settles O20: each check that fails decides the refusal, and every refusal but a denial is a change of the slot
alone. -/
theorem checksRefuseInOrder : Obligations.ChecksRefuseInOrder := by
  intro h b s u refused denied
  have refuse {a : Acceptance} (hopen : SlotOpen u h)
      (hchecks : takeRefusal u h.slot.val (hostFieldsOf h b) = some a) (ha : a ≠ .denied) : refused a :=
    refused_of_takeRefusal hopen hchecks ha
  have deny (hopen : SlotOpen u h) (hexhibit : exhibitCheck u (OrderHead.ex h) b = none)
      (haccess : accessAllowed u h.slot.val (OrderHead.ex h) b = false) : denied :=
    ⟨_, exec_denied hopen (takeRefusal_denied hexhibit haccess), deniedState_slotRefused, deniedState_otherSlots,
      deniedState_keptBut⟩
  refine ⟨fun htaken => exec_orderCommand (if_pos htaken), fun hopen => ⟨fun hscope => ?_, fun hscope hbring hset => ?_⟩⟩
  · have hcheck := exhibitCheck_exhibit (u := u) (OrderHead.ex h) hscope
    have haccess := accessAllowed_exhibit (u := u) h.slot.val (OrderHead.ex h) hscope
    refine ⟨fun hbad => ?_, fun hnum hinst hret => ?_, fun hnamed hsource => ?_, fun hmay hbad => ?_,
      fun hmay hparams hallowed htimed hfull => ?_⟩
    · exact refuse hopen (takeRefusal_exhibit (hcheck.trans (if_pos hbad))) (by decide)
    · have hstate : exhibitCheck u (OrderHead.ex h) b = some .state := by
        rw [hcheck, if_neg (by simp [hinst, Nat.not_lt.2 hnum]), if_pos hret]
      exact refuse hopen (takeRefusal_exhibit hstate) (by decide)
    · exact deny hopen (exhibitCheck_named (.inl hscope) hnamed) (haccess.trans hsource)
    · obtain ⟨-, hnamed, hsource⟩ := hmay
      have hcommit (r : Byte) (o : Half) : b ≠ .commit r o := by rintro rfl; cases hscope
      exact refuse hopen (takeRefusal_paramCheck (exhibitCheck_named (.inl hscope) hnamed) (haccess.trans hsource)
        (paramCheck_false hcommit hbad)) (by decide)
    · obtain ⟨-, hnamed, hsource⟩ := hmay
      have hchecks := takeRefusal_timed (exhibitCheck_named (.inl hscope) hnamed) (haccess.trans hsource) hparams
        hallowed htimed
      exact refuse hopen (hchecks.trans (if_pos hfull)) (by decide)
  · have hcheck := exhibitCheck_gallery (u := u) (OrderHead.ex h) hscope hbring hset
    have haccess := accessAllowed_gallery (u := u) h.slot.val (OrderHead.ex h) hscope
    refine ⟨fun hsource => deny hopen hcheck (haccess.trans hsource), fun hmay hcommit hbad => ?_⟩
    exact refuse hopen (takeRefusal_paramCheck hcheck (haccess.trans hmay.2) (paramCheck_false hcommit hbad))
      (by decide)

/-! ### The denial capture (R187) -/

/-- The denial capture shows the exhibit field of an exhibit kind, and 255 for a gallery-wide kind. -/
theorem denialExhibit_hostFieldsOf {h : OrderHead} {b : OrderBody} (hscope : scopeOf b ≠ .slot) :
    denialExhibit (hostFieldsOf h b) = if scopeOf b = .exhibit then h.exhibit else 255 := by
  unfold denialExhibit
  rw [readOrder_hostFieldsOf, Option.map_some]
  cases hb : scopeOf b with
  | gallery => rfl
  | exhibit => rfl
  | slot => exact absurd hb hscope

/-- The state whose denial capture a denied order acts on. -/
theorem deniedState_captures (h : OrderHead) (b : OrderBody) (u : State) :
    ∃ v, deniedState h b u = captureDenial h.slot.val (hostFieldsOf h b) v ∧ v.denial = u.denial ∧
      v.tick = u.tick := by
  unfold deniedState refuseAtTake
  exact ⟨_, if_pos rfl, rfl, rfl⟩

theorem captureDenial_first {k : Nat} {d : HostFields} {v : State} (hfirst : v.denial = none) :
    captureDenial k d v = setNotice noticeDenial
      { v with denial := some ⟨k, sourceOf k, d.kind, denialExhibit d, d.tag, v.tick, 0⟩ } := by
  simp only [captureDenial, hfirst]

theorem captureDenial_later {k : Nat} {d : HostFields} {v : State} {c : Denial} (hlater : v.denial = some c) :
    captureDenial k d v = { v with denial := some { c with later := min 255 (c.later + 1) } } := by
  simp only [captureDenial, hlater]

/-- Settles O21: the two ways to a denial come to one state, whose capture is filled or counted by the one before. -/
theorem denialCaptureKeepsTheFirst : Obligations.DenialCaptureKeepsTheFirst := by
  intro h b s u hopen hdenied
  have hchecks : takeRefusal u h.slot.val (hostFieldsOf h b) = some .denied := by
    rcases hdenied with ⟨hscope, hnamed, hsource⟩ | ⟨hscope, hbring, hset, hsource⟩
    · exact takeRefusal_denied (exhibitCheck_named (.inl hscope) hnamed)
        ((accessAllowed_exhibit _ _ hscope).trans hsource)
    · exact takeRefusal_denied (exhibitCheck_gallery _ hscope hbring hset)
        ((accessAllowed_gallery _ _ hscope).trans hsource)
  have hscope : scopeOf b ≠ .slot := by
    rcases hdenied with ⟨hscope, -⟩ | ⟨hscope, -⟩ <;> simp [hscope]
  obtain ⟨v, hstate, hdenial, htick⟩ := deniedState_captures h b u
  refine ⟨_, exec_denied hopen hchecks, deniedState_keptBut, fun hfirst => ?_, fun c hlater => ?_⟩
  · rw [show deniedState h b (settle s) = _ from hstate, captureDenial_first (hdenial.trans hfirst)]
    refine ⟨publish_notice_of _ 4 (by simp [setNotice, noticeDenial]), ?_⟩
    rw [publish_denial, setNotice_denial, denialExhibit_hostFieldsOf hscope, htick]
    rfl
  · rw [show deniedState h b (settle s) = _ from hstate, captureDenial_later (hdenial.trans hlater)]
    rfl

end Sys2Proof.Machine
end

section
/-! PROOFS. The due list and CANCEL (R188, R189). -/

namespace Sys2Proof.Machine

theorem with_dueList_keptBut (s : State) (l : List DueEntry) : KeptBut [.dueList] s { s with dueList := l } := by
  intro g hg
  cases g <;> first | rfl | exact absurd List.mem_cons_self hg

/-! ### The place of a new entry -/

/-- A new entry stands behind the entries up to the last that is not later, and before a later one. -/
theorem insertDue_place (now : Tick) (d : DueEntry) (l : List DueEntry) :
    ∃ before after, l = before ++ after ∧ insertDue now d l = before ++ d :: after ∧
      (∀ x ∈ before, dueOffset now x.due ≤ dueOffset now d.due) ∧
      (∀ x ∈ after.head?, dueOffset now d.due < dueOffset now x.due) := by
  induction l with
  | nil => exact ⟨[], [], rfl, rfl, by simp, by simp⟩
  | cons x r ih =>
    by_cases hx : dueOffset now x.due ≤ dueOffset now d.due
    · obtain ⟨before, after, rfl, hinsert, hbefore, hafter⟩ := ih
      refine ⟨x :: before, after, rfl, ?_, List.forall_mem_cons.2 ⟨hx, hbefore⟩, hafter⟩
      rw [insertDue, if_pos hx, hinsert, List.cons_append]
    · exact ⟨[], x :: r, rfl, if_neg hx, by simp, by simpa using hx⟩

/-! ### A timed order (R188) -/

section
variable {h : OrderHead} {b : OrderBody} {u : State}

/-- A timed order that the checks have nothing against enters the due list. -/
theorem postAndTake_timed (hmay : MayOrderExhibit u h) (hscope : scopeOf b = .exhibit)
    (hallowed : dueAllowed b = true) (hparams : paramsOk b = true) (htimed : ¬ Untimed h)
    (hroom : u.dueList.length < 16) :
    postAndTake h b u = enterDue h.slot.val (hostFieldsOf h b) (accepted h b u) := by
  obtain ⟨hopen, hnamed, hsource⟩ := hmay
  have hchecks : takeRefusal u h.slot.val (hostFieldsOf h b) = none :=
    (takeRefusal_timed (exhibitCheck_named (.inl hscope) hnamed) ((accessAllowed_exhibit _ _ hscope).trans hsource)
      hparams hallowed htimed).trans (if_neg (Nat.not_le.2 hroom))
  have hdue : (hostFieldsOf h b).duePresent = true := Bool.not_eq_false _ ▸ htimed
  rw [postAndTake_of_open hopen]
  unfold decideOrder
  simp only [takeRefusal_postedAndTaken, hchecks, readOrder_hostFieldsOf, hallowed, hdue, Bool.and_self, if_true]
  rfl

/-- An order not yet due waits in the due list. -/
theorem enterDue_waits {k : Nat} {d : HostFields} {v : State} (hdue : isDue v.tick d.due = false) :
    enterDue k d v = { v with dueList := insertDue v.tick ⟨k, d.due, d⟩ v.dueList } :=
  if_neg (by simp [hdue])

end

/-! ### The event of the due list's first entry (R188) -/

theorem exec_dueExpiry {s t : State} (ht : dueEvent (settle s) = t) : exec .dueExpiry s = .next (publish t) :=
  ht ▸ rfl

section
variable {s : State} {d : DueEntry} {r : List DueEntry}

theorem dueEvent_nil (hlist : s.dueList = []) : dueEvent s = s := by simp only [dueEvent, hlist]

theorem dueEvent_waits (hlist : s.dueList = d :: r) (hdue : isDue s.tick d.due = false) : dueEvent s = s := by
  simp [dueEvent, hlist, hdue]

theorem dueEvent_due (hlist : s.dueList = d :: r) (hdue : isDue s.tick d.due = true) :
    dueEvent s = performDue d { s with dueList := r } := by
  simp [dueEvent, hlist, hdue]

/-- The state in which SET LAMPS has been performed for an entry of the due list. -/
def dueLamp (d : DueEntry) (l : Option Lamp) (v : State) : State :=
  complete d.slot .done (BitVec.ofNat 32 (lampCode (v.ex d.host.exhibit.toNat).lamp))
    (v.modEx d.host.exhibit.toNat (fun x => { x with lamp := l }))

section
variable (d : DueEntry) (l : Option Lamp) (v : State)

theorem dueLamp_ex_same : (dueLamp d l v).ex d.host.exhibit.toNat = { v.ex d.host.exhibit.toNat with lamp := l } := by
  simp [dueLamp]

theorem dueLamp_otherExhibits : OtherExhibits d.host.exhibit.toNat v (dueLamp d l v) := fun j hj => by
  rw [dueLamp, complete_ex, State.modEx_ex_other _ _ _ _ hj]

theorem dueLamp_slot_same : ∃ x : Slot, (dueLamp d l v).slot d.slot = { x with
    state := .done, outcome := .done, result := BitVec.ofNat 32 (lampCode (v.ex d.host.exhibit.toNat).lamp) } :=
  ⟨{ v.slot d.slot with edit := (v.slot d.slot).edit + 2, doneTick := v.tick }, by simp [dueLamp]⟩

theorem dueLamp_otherSlots : OtherSlots d.slot v (dueLamp d l v) := fun _ hj => complete_slot_other _ _ _ _ _ hj

theorem dueLamp_keptBut : KeptBut [.exhibits, .slots, .notice] v (dueLamp d l v) :=
  ((State.modEx_keptBut _ _ _).mono (by decide)).trans ((complete_keptBut _ _ _ _).mono (by decide))

end

/-- A due SET LAMPS of an exhibit and a source that still allow it is performed as if just taken. -/
theorem performDue_setLamps {p : Byte} {l : Option Lamp} {v : State}
    (hread : readOrder d.host.kind d.host.params = some (.setLamps p)) (hlamp : lampFrom p.toNat = some l)
    (hnum : d.host.exhibit.toNat ≤ 31) (hinst : (v.ex d.host.exhibit.toNat).installed = true)
    (hret : (v.ex d.host.exhibit.toNat).retire = none)
    (hsource : (v.ex d.host.exhibit.toNat).access.getLsbD (sourceOf d.slot) = true) :
    performDue d v = dueLamp d l v := by
  have hcheck : exhibitCheck v d.host.exhibit.toNat (.setLamps p) = none := by
    rw [exhibitCheck_exhibit _ rfl, if_neg (by simp [hinst, Nat.not_lt.2 hnum]), if_neg (by simp [hret])]
  have haccess : accessAllowed v d.slot d.host.exhibit.toNat (.setLamps p) = true := hsource
  simp only [performDue, hread, hcheck, haccess, performOrder, lampsOrder, doneWith, hlamp]
  rfl

end

/-- Settles O22: a timed order that waits is one update of the due list, and the event of the first entry does
nothing before its tick and performs it afterwards. -/
theorem dueListHoldsAndPerforms : Obligations.DueListHoldsAndPerforms := by
  intro s u
  refine ⟨fun h b hmay hscope hallowed hparams htimed hroom hdue => ?_, fun d r hlist hdue => ?_,
    fun d r p l hlist hdue hread hlamp hnum hinst hret hsource => ?_, fun hlist => ?_⟩
  · have hwaits := enterDue_waits (k := h.slot.val) (d := hostFieldsOf h b) (v := accepted h b u) hdue
    obtain ⟨before, after, hsplit, hinsert, hplace⟩ :=
      insertDue_place u.tick ⟨h.slot.val, h.due, hostFieldsOf h b⟩ u.dueList
    obtain ⟨hslot, hothers, hframe⟩ := waits_of_keptBut (gs := .dueList :: orderFields)
      (with_dueList_keptBut (accepted h b u) (insertDue u.tick ⟨h.slot.val, h.due, hostFieldsOf h b⟩ u.dueList))
      (by decide) (by decide) (by decide) (by decide)
    exact ⟨_, exec_orderCommand ((postAndTake_timed hmay hscope hallowed hparams htimed hroom).trans hwaits),
      hslot, ⟨before, after, hsplit, hinsert, hplace⟩, hothers, hframe⟩
  · exact exec_dueExpiry (dueEvent_waits hlist hdue)
  · have hperform : dueEvent u = dueLamp d l { u with dueList := r } :=
      (dueEvent_due hlist hdue).trans (performDue_setLamps hread hlamp hnum hinst hret hsource)
    obtain ⟨x, hslot⟩ := dueLamp_slot_same d l { u with dueList := r }
    refine ⟨_, exec_dueExpiry hperform, rfl, dueLamp_ex_same .., dueLamp_otherExhibits d l _, congrArg Slot.state hslot,
      congrArg Slot.outcome hslot, congrArg Slot.result hslot, dueLamp_otherSlots d l _, ?_⟩
    exact ((with_dueList_keptBut u r).mono (by decide)).trans <|
      ((dueLamp_keptBut d l _).mono (by decide)).trans ((publish_keptBut _).mono (by decide))
  · exact exec_dueExpiry (dueEvent_nil hlist)

/-! ### CANCEL (R189) -/

section
variable {h : OrderHead} {n : Byte} {u : State}

@[simp] theorem accepted_dueList (h : OrderHead) (b : OrderBody) (u : State) :
    (accepted h b u).dueList = u.dueList := rfl

/-- CANCEL is for the sources of the control mask, and for the source of the order that it names (R186). -/
theorem accessAllowed_cancel (k e : Nat) : accessAllowed u k e (.cancel n) =
    (u.control.getLsbD (sourceOf k) || (decide (n.toNat < 32) && sourceOf n.toNat == sourceOf k)) := rfl

theorem takeRefusal_cancel (hsource : u.control.getLsbD (sourceOf h.slot.val) = true ∨
    n.toNat / 8 = sourceOf h.slot.val) (hn : n.toNat ≤ 31) (huntimed : Untimed h) :
    takeRefusal u h.slot.val (hostFieldsOf h (.cancel n)) = none := by
  refine takeRefusal_none (readOrder_cancel h n) rfl ?_ (by simp [paramsOk, inRange, hn]) huntimed
  rw [accessAllowed_cancel]
  rcases hsource with hsource | hown
  · simp [hsource]
  · simp [sourceOf, hown, Nat.lt_succ_of_le hn]

/-- The state of a CANCEL that has taken its order out of the due list. -/
def cancelled (h : OrderHead) (n : Byte) (u : State) : State :=
  complete n.toNat .cancelled 0
    { accepted h (.cancel n) u with dueList := u.dueList.filter (fun d => d.slot != n.toNat) }

section
variable (hopen : SlotOpen u h) (hsource : u.control.getLsbD (sourceOf h.slot.val) = true ∨
  n.toNat / 8 = sourceOf h.slot.val) (hn : n.toNat ≤ 31) (huntimed : Untimed h)
include hopen hsource hn huntimed

/-- What a CANCEL of an order that the due list does not hold comes to. -/
theorem postAndTake_cancel_unheld (hheld : ∀ d ∈ u.dueList, d.slot ≠ n.toNat) :
    postAndTake h (.cancel n) u = complete h.slot.val .done 0 (accepted h (.cancel n) u) := by
  refine postAndTake_of_go hopen (readOrder_cancel h n) (takeRefusal_cancel hsource hn huntimed) huntimed
    (by simp [kindCodeOf]) ?_
  exact if_neg (by simpa using hheld)

/-- What a CANCEL of an order that the due list holds comes to. -/
theorem postAndTake_cancel_held (hheld : ∃ d ∈ u.dueList, d.slot = n.toNat) :
    postAndTake h (.cancel n) u = complete h.slot.val .done 1 (cancelled h n u) := by
  refine postAndTake_of_go hopen (readOrder_cancel h n) (takeRefusal_cancel hsource hn huntimed) huntimed
    (by simp [kindCodeOf]) ?_
  obtain ⟨d, hd, hslot⟩ := hheld
  exact if_pos (List.any_eq_true.2 ⟨d, hd, by simp [hslot]⟩)

end

theorem cancelled_keptBut : KeptBut (.dueList :: orderFields) u (cancelled h n u) :=
  (keptBut_accepted (by decide)).trans <| ((with_dueList_keptBut _ _).mono (by decide)).trans
    ((complete_keptBut _ _ _ _).mono (by decide))

theorem cancelled_slot_other {j : Nat} (hj : j ≠ n.toNat) :
    (cancelled h n u).slot j = (accepted h (.cancel n) u).slot j := complete_slot_other _ _ _ _ _ hj

end

/-- Settles O43: the checks of CANCEL are those of its sources and its number, and what it does is decided by the due
list's holding the order. -/
theorem cancelTakesTheOrderOut : Obligations.CancelTakesTheOrderOut := by
  intro h n s u
  refine ⟨fun hmay hbad => ?_, fun hopen hsource hn huntimed => ⟨fun hheld => ?_, fun hheld => ?_⟩⟩
  · obtain ⟨hopen, hsource⟩ := hmay
    have haccess : accessAllowed u h.slot.val (OrderHead.ex h) (.cancel n) = true := by
      rw [accessAllowed_cancel, hsource, Bool.true_or]
    have hparam : paramCheck (hostFieldsOf h (.cancel n)) (.cancel n) = false :=
      paramCheck_false (by simp) (hbad.imp (fun hn => by simp [paramsOk, inRange, hn]) fun htimed => ⟨rfl, htimed⟩)
    exact refused_of_takeRefusal hopen (takeRefusal_paramCheck rfl haccess hparam) (by decide)
  · refine ⟨_, exec_orderCommand (postAndTake_cancel_unheld hopen hsource hn huntimed hheld),
      slotDone_of_complete (accepted_take h _ u) rfl, otherSlots_publish_complete fun _ => rfl, ?_⟩
    exact (keptBut_accepted (List.Subset.refl _)).publish_complete (List.Subset.refl _) _ _ _
  · refine ⟨_, exec_orderCommand (postAndTake_cancel_held hopen hsource hn huntimed hheld),
      slotDone_of_complete ((complete_take ..).trans (accepted_take h _ u)) rfl, rfl, fun hother => ?_,
      fun j hj hjn => ?_, cancelled_keptBut.publish_complete (by decide) _ _ _⟩
    · rw [publish_slot, complete_slot_other _ _ _ _ _ hother, cancelled, complete_slot_same]
      exact ⟨rfl, rfl, rfl, rfl⟩
    · rw [publish_slot, complete_slot_other _ _ _ _ _ hj, cancelled_slot_other hjn, accepted_slot_other _ _ _ hj]

end Sys2Proof.Machine
end

section
/-! PROOFS. SET CLOCK moves every expiry alike (R190). -/

namespace Sys2Proof.Machine

/-! ### The records after the shift (R190 step 2) -/

section
variable (t : Tick) (s : State)

theorem shiftClock_ex (e : Nat) : (shiftClock t s).ex e = shiftExhibit (t - s.tick) (s.ex e) :=
  lookup_mapTab _ _ rfl _ _

theorem shiftClock_inp (i : Nat) : (shiftClock t s).inp i = shiftInput (t - s.tick) (s.inp i) :=
  lookup_mapTab _ _ rfl _ _

theorem shiftClock_callEntry (n : Nat) : (shiftClock t s).callEntry n = shiftCall (t - s.tick) (s.callEntry n) :=
  lookup_mapTab _ _ rfl _ _

theorem shiftClock_beacon (b : Nat) : (shiftClock t s).beacon b = shiftBeacon (t - s.tick) (s.beacon b) :=
  lookup_mapTab _ _ rfl _ _

theorem shiftClock_cue (c : Nat) : (shiftClock t s).cue c = (s.cue c).map (· + (t - s.tick)) :=
  lookup_mapTab _ _ rfl _ _

theorem shiftClock_keptBut :
    KeptBut [.tick, .dueList, .exhibits, .inputs, .calls, .beacons, .cues, .linger] s (shiftClock t s) := by
  intro g hg
  cases g <;> first | rfl | exact absurd (by decide) hg

end

section
variable (d : Tick)

theorem shiftExhibit_dwell (x : Exhibit) :
    ((shiftExhibit d x).run.bind (·.dwell)) = (x.run.bind (·.dwell)).map (· + d) := by
  unfold shiftExhibit
  cases x.run <;> rfl

theorem shiftInput_refill (x : Input) :
    ((shiftInput d x).bucket.bind (·.refill)) = (x.bucket.bind (·.refill)).map (· + d) := by
  unfold shiftInput
  cases x.bucket <;> rfl

theorem shiftCall_escalation (x : CallEntry) :
    ((shiftCall d x).call.bind (·.escalation)) = (x.call.bind (·.escalation)).map (· + d) := by
  unfold shiftCall
  cases x.call <;> rfl

theorem shiftCall_raise (x : CallEntry) : ((shiftCall d x).call.map (·.raise)) = x.call.map (·.raise) := by
  unfold shiftCall
  cases x.call <;> rfl

/-- The hold expiry of an acknowledgement, moved. -/
theorem map_shiftAck (a : Option AckMark) :
    (a.map (shiftAck d)).bind (·.holdExp) = (a.bind (·.holdExp)).map (· + d) := by
  cases a <;> rfl

theorem shiftCall_holdExp (x : CallEntry) :
    ((shiftCall d x).call.bind (·.ack)).bind (·.holdExp) = ((x.call.bind (·.ack)).bind (·.holdExp)).map (· + d) := by
  unfold shiftCall
  cases x.call with
  | none => rfl
  | some c => exact map_shiftAck d c.ack

/-- The shift leaves the cause of each record. -/
theorem shiftCause_cause (c : CauseRec) : (shiftCause d c).cause = c.cause := by
  unfold shiftCause
  cases c.state <;> rfl

theorem shiftExhibit_causeRec (x : Exhibit) (c : Cause) :
    (shiftExhibit d x).causeRec c = (x.causeRec c).map (shiftCause d) := by
  have hcause : ((fun r : CauseRec => r.cause == c) ∘ shiftCause d) = fun r => r.cause == c :=
    funext fun r => by rw [Function.comp_apply, shiftCause_cause]
  exact (List.find?_map ..).trans (congrArg (fun p => (x.causes.find? p).map (shiftCause d)) hcause)

end

/-- The hold expiry of HELP moves with the record that has it, pending or in the call table (R163). -/
theorem shiftClock_helpHoldExpiry (t : Tick) (s : State) (e : Nat) :
    helpHoldExpiry (shiftClock t s) e = (helpHoldExpiry s e).map (· + (t - s.tick)) := by
  unfold helpHoldExpiry
  rw [shiftClock_ex, shiftExhibit_causeRec]
  cases (s.ex e).causeRec .help with
  | none => rfl
  | some r =>
    obtain ⟨c, state⟩ := r
    cases state with
    | pending p => exact map_shiftAck _ p.ack
    | entered n =>
      simp only [Option.map_some, shiftCause, shiftClock_callEntry]
      exact shiftCall_holdExp _ _

/-! ### The due list with nothing due (R190 step 4) -/

section
variable {s : State} (hnone : ∀ d ∈ s.dueList, isDue s.tick d.due = false)
include hnone

theorem dueNext_none : dueNext s = s := by simp only [dueNext, takeFirst_eq_none hnone]

/-- With nothing due and nothing handed over, the evaluation does nothing but write the views. -/
theorem publish_evaluateDue (hhanded : s.handed = []) : publish (evaluateDue s) = publish s := by
  have hstands : publish (evaluateDue s) = publish s ∧ (evaluateDue s).dueList = s.dueList ∧
      (evaluateDue s).tick = s.tick ∧ (evaluateDue s).handed = [] := by
    refine eachEvent_induct (P := fun v => publish v = publish s ∧ v.dueList = s.dueList ∧ v.tick = s.tick ∧
      v.handed = []) _ _ s ⟨rfl, rfl, rfl, hhanded⟩ ?_
    rintro k v - ⟨hviews, hlist, htick, hhanded⟩
    rw [dueNext_none (by rwa [hlist, htick]), closeEvent_nil v hhanded]
    exact ⟨(publish_publish v).trans hviews, hlist, htick, hhanded⟩
  exact hstands.1

end

/-! ### The order -/

section
variable {h : OrderHead} {p : Tick} {u : State}

/-- The state of a SET CLOCK that is done but for the evaluation of the due list. -/
def clockSet (h : OrderHead) (p : Tick) (u : State) : State :=
  complete h.slot.val .done u.tick (shiftClock p (accepted h (.setClock p) u))

/-- What an accepted SET CLOCK comes to. -/
theorem postAndTake_setClock (hmay : MayOrderGallery u h) (huntimed : Untimed h) :
    postAndTake h (.setClock p) u = evaluateDue (clockSet h p u) := by
  have hchecks : takeRefusal u h.slot.val (hostFieldsOf h (.setClock p)) = none :=
    takeRefusal_of_mayOrderGallery hmay huntimed rfl (by simp) (by simp) rfl (readOrder_setClock h p)
  rw [postAndTake_of_open hmay.1]
  unfold decideOrder
  simp only [takeRefusal_postedAndTaken, hchecks, readOrder_setClock]
  rfl

theorem clockSet_ex (e : Nat) : (clockSet h p u).ex e = shiftExhibit (p - u.tick) (u.ex e) :=
  shiftClock_ex p (accepted h (.setClock p) u) e

theorem clockSet_inp (i : Nat) : (clockSet h p u).inp i = shiftInput (p - u.tick) (u.inp i) :=
  shiftClock_inp p (accepted h (.setClock p) u) i

theorem clockSet_callEntry (n : Nat) : (clockSet h p u).callEntry n = shiftCall (p - u.tick) (u.callEntry n) :=
  shiftClock_callEntry p (accepted h (.setClock p) u) n

theorem clockSet_beacon (b : Nat) : (clockSet h p u).beacon b = shiftBeacon (p - u.tick) (u.beacon b) :=
  shiftClock_beacon p (accepted h (.setClock p) u) b

/-- With no entry due at the new tick, the order ends as set. -/
theorem publish_setClock (hhanded : u.handed = []) (hnone : ∀ x ∈ u.dueList, isDue p x.due = false) :
    publish (evaluateDue (clockSet h p u)) = publish (clockSet h p u) :=
  publish_evaluateDue (fun x hx => hnone x ((sortDue_spec p u.dueList).1.mem_iff.1 hx)) hhanded

end

/-- Settles O42: the order shifts every table, completes and evaluates the due list, which has nothing due. -/
theorem setClockMovesExpiries : Obligations.SetClockMovesExpiries := by
  intro h p s u d hmay huntimed hhanded hnone
  obtain ⟨hperm, hsorted⟩ := sortDue_spec p u.dueList
  have hexec : exec (.setClock h p) s = .next (publish (clockSet h p u)) :=
    (exec_orderCommand (postAndTake_setClock hmay huntimed)).trans (congrArg _ (publish_setClock hhanded hnone))
  refine ⟨_, hexec, rfl, slotDone_of_complete (accepted_take h _ u) rfl, hperm, hsorted, fun e => ?_, fun i => ?_,
    fun n => ?_, fun e => shiftClock_helpHoldExpiry p (accepted h (.setClock p) u) e, fun b => ?_,
    fun l => shiftClock_cue p (accepted h (.setClock p) u) l, rfl, otherSlots_publish_complete fun _ => rfl, ?_⟩
  · rw [publish_ex, clockSet_ex]
    exact ⟨rfl, shiftExhibit_dwell d _, rfl, rfl⟩
  · rw [publish_inp, clockSet_inp]
    exact ⟨shiftInput_refill d _, rfl⟩
  · rw [publish_callEntry, clockSet_callEntry]
    exact ⟨shiftCall_escalation d _, shiftCall_raise d _⟩
  · rw [publish_beacon, clockSet_beacon]
    rfl
  · exact ((keptBut_accepted (by decide)).trans ((shiftClock_keptBut p _).mono (by decide))).publish_complete
      (by decide) _ _ _

end Sys2Proof.Machine
end

section
/-! PROOFS. A step runs the command at the front of the queue, and an order reads from its slot as written
(section 11.6). -/

namespace Sys2Proof.Machine

/-- Settles O1: the step's equation on a queue that is not empty. -/
theorem stepRunsFront : Obligations.StepRunsFront := step_cons

/-- The head fields of a blank slot: flags, exhibit, tag and due tick all 0. -/
def blankHead : OrderHead := ⟨0, 0, 0, 0, 0⟩

/-- Settles O60: kind and parameters are those of the host fields that spell the order, whatever its head, and those
are read back kind by kind. -/
theorem orderIsReadAsWritten : Obligations.OrderIsReadAsWritten := readOrder_hostFieldsOf blankHead

end Sys2Proof.Machine
end
